-- ==== Sys2Proof/Word.lean ====
section
/-! DEFINITION. The plain values of the VC-40 model: bytes, three-axis vectors of exact integers, boxes, and
four-fold tables (one entry per winch, seat or marker). -/

namespace Sys2Proof

/-- One byte of the console link or of a drive link. -/
abbrev Byte := BitVec 8

/-- The three axes of the pitch frame, in the order the records carry them. -/
inductive Axis where
  | x
  | y
  | z
deriving DecidableEq, Repr

/-- A triple over the pitch frame: a position, a velocity or a stick deflection. Its unit is said where it is used.
Positions are computed exactly (R2), so the coordinates are integers. -/
structure Vec3 where
  x : Int
  y : Int
  z : Int
deriving DecidableEq, Repr

/-- The zero triple. -/
def Vec3.zero : Vec3 := ⟨0, 0, 0⟩

/-- The coordinate on one axis. -/
def Vec3.get (v : Vec3) : Axis → Int
  | .x => v.x
  | .y => v.y
  | .z => v.z

/-- A triple built axis by axis. -/
def Vec3.ofAxes (f : Axis → Int) : Vec3 := ⟨f .x, f .y, f .z⟩

/-- A box, given by its minimum and its maximum on each axis. Boxes are closed. -/
structure Box where
  lo : Vec3
  hi : Vec3
deriving DecidableEq, Repr

/-- A table of four like things, indexed 0..3. -/
structure Quad (α : Type) where
  q0 : α
  q1 : α
  q2 : α
  q3 : α
deriving DecidableEq, Repr

/-- The entry of one index. -/
def Quad.get {α : Type} (q : Quad α) : Fin 4 → α
  | 0 => q.q0
  | 1 => q.q1
  | 2 => q.q2
  | 3 => q.q3

/-- The table with one entry replaced. -/
def Quad.set {α : Type} (q : Quad α) (i : Fin 4) (a : α) : Quad α :=
  match i with
  | 0 => { q with q0 := a }
  | 1 => { q with q1 := a }
  | 2 => { q with q2 := a }
  | 3 => { q with q3 := a }

/-- Four equal entries. -/
def Quad.fill {α : Type} (a : α) : Quad α := ⟨a, a, a, a⟩

/-- Every entry changed by the same function. -/
def Quad.map {α β : Type} (q : Quad α) (f : α → β) : Quad β := ⟨f q.q0, f q.q1, f q.q2, f q.q3⟩

/-- Entry by entry, from two tables. -/
def Quad.zip {α β γ : Type} (q : Quad α) (r : Quad β) (f : α → β → γ) : Quad γ :=
  ⟨f q.q0 r.q0, f q.q1 r.q1, f q.q2 r.q2, f q.q3 r.q3⟩

/-- Whether all four entries meet a test. -/
def Quad.all {α : Type} (q : Quad α) (p : α → Bool) : Bool := p q.q0 && p q.q1 && p q.q2 && p q.q3

/-- Whether some entry meets a test. -/
def Quad.any {α : Type} (q : Quad α) (p : α → Bool) : Bool := p q.q0 || p q.q1 || p q.q2 || p q.q3

/-- The four entries in index order. -/
def Quad.toList {α : Type} (q : Quad α) : List α := [q.q0, q.q1, q.q2, q.q3]

end Sys2Proof
end

