-- ==== Sys2Proof/Config.lean ====
section
/-! DEFINITION. What the manual leaves open and the model does not choose: the free values. Each is a constant
without a body, applied to the counter State.freeCount, so that no proof can rest on a particular value. -/

namespace Sys2Proof

/-- What a write that did not end well leaves in the external memory: the image as it stood before, an image whose
check is bad, or the new image whole (R48, R212, R213; log entry 5). -/
inductive Remnant where
  | old
  | damaged
  | complete
deriving DecidableEq, Repr, Inhabited

/-- The remnant of an interrupted or failed write of an image: "left as far as the write had come" (R212), "may leave
the image with a bad check" (R48). A free value: nothing constrains it. -/
opaque Config.remnant : Nat → Remnant

/-- Where, among the notices of one frame start, the FRAME_POSE copies enter the transmit queue: "in either order"
(R150). A free value: nothing constrains it. -/
opaque Config.framePosePlace : Nat → Nat

end Sys2Proof
end

