-- ==== Sys2Proof/Syntax.lean ====
section
/-! DEFINITION. The commands of the VC-40: one constructor per row of spec/opcode_table.json. A command is one of the
part's indivisible steps, with what the outside brings to it. A record command carries the record as it stands on the
wire: its seat, and its two data bytes (short form) or its payload (long form), R198. -/

namespace Sys2Proof

/-- The four operator seats, in wire order 0..3 (R198). -/
inductive Seat where
  | pilot
  | safety
  | director
  | service
deriving DecidableEq, Repr

/-- The four winch channels W1..W4. -/
inductive Winch where
  | w1
  | w2
  | w3
  | w4
deriving DecidableEq, Repr

/-- The level of the baud strap, read at part reset (R197). -/
inductive Strap where
  | low
  | high
deriving DecidableEq, Repr

/-- The commands, in the order of the table. -/
inductive Instr where
  /-- PART_RESET (R210): the strap's level, and whether the external memory answers during the load. -/
  | partReset (strap : Strap) (storeAnswers : Bool)
  /-- ESTOP_ASSERTION (R190). -/
  | estopAssertion
  /-- ESTOP_DEASSERTION (R190). -/
  | estopDeassertion
  /-- RECEIVE_BYTE (R199, R200): the byte, and whether its stop bit was there. -/
  | receiveByte (b : Byte) (stopBit : Bool)
  /-- GAP_TIMEOUT (R200). -/
  | gapTimeout
  /-- TRANSMIT_COMPLETE (R205). -/
  | transmitComplete
  /-- IGNORED_RECORD (R202): the seat, the type and the data bytes or payload of the record decoded. -/
  | ignoredRecord (seat : Seat) (type : BitVec 6) (body : List Byte)
  /-- QUERY_STATE (R208). -/
  | queryState (seat : Seat) (d0 d1 : Byte)
  /-- ARM (R51). -/
  | arm (seat : Seat) (d0 d1 : Byte)
  /-- PARK (R56). -/
  | park (seat : Seat) (d0 d1 : Byte)
  /-- HOLD (R59). -/
  | hold (seat : Seat) (d0 d1 : Byte)
  /-- RESUME (R82). -/
  | resume (seat : Seat) (d0 d1 : Byte)
  /-- STEP (R83). -/
  | step (seat : Seat) (d0 d1 : Byte)
  /-- TAKE_STICK (R96). -/
  | takeStick (seat : Seat) (d0 d1 : Byte)
  /-- DROP_STICK (R102). -/
  | dropStick (seat : Seat) (d0 d1 : Byte)
  /-- TRIP (R191). -/
  | trip (seat : Seat) (d0 d1 : Byte)
  /-- CLEAR_FAULTS (R192). -/
  | clearFaults (seat : Seat) (d0 d1 : Byte)
  /-- CONSENT (R49). -/
  | consent (seat : Seat) (d0 d1 : Byte)
  /-- SERVICE_PERMIT (R50). -/
  | servicePermit (seat : Seat) (d0 d1 : Byte)
  /-- FLUSH_MOVES (R86). -/
  | flushMoves (seat : Seat) (d0 d1 : Byte)
  /-- STREAM_END (R121). -/
  | streamEnd (seat : Seat) (d0 d1 : Byte)
  /-- READ_POSE (R151). -/
  | readPose (seat : Seat) (d0 d1 : Byte)
  /-- SUBSCRIBE (R207). -/
  | subscribe (seat : Seat) (d0 d1 : Byte)
  /-- ZONE_READ (R23). -/
  | zoneRead (seat : Seat) (d0 d1 : Byte)
  /-- MARKER_READ (R129). -/
  | markerRead (seat : Seat) (d0 d1 : Byte)
  /-- MARKER_CLEAR (R128). -/
  | markerClear (seat : Seat) (d0 d1 : Byte)
  /-- REFERENCE (R175). -/
  | reference (seat : Seat) (d0 d1 : Byte)
  /-- RESTART_DRIVE (R180). -/
  | restartDrive (seat : Seat) (d0 d1 : Byte)
  /-- SAVE_SETTINGS (R211). -/
  | saveSettings (seat : Seat) (d0 d1 : Byte)
  /-- RESET_PART (R213). -/
  | resetPart (seat : Seat) (d0 d1 : Byte)
  /-- READ_SETTINGS (R16). -/
  | readSettings (seat : Seat) (d0 d1 : Byte)
  /-- STICK (R93). -/
  | stick (seat : Seat) (payload : List Byte)
  /-- APPEND_MOVE (R72). -/
  | appendMove (seat : Seat) (payload : List Byte)
  /-- STREAM_START (R109). -/
  | streamStart (seat : Seat) (payload : List Byte)
  /-- STREAM_DATA (R110). -/
  | streamData (seat : Seat) (payload : List Byte)
  /-- ZONE_PUT (R25). -/
  | zonePut (seat : Seat) (payload : List Byte)
  /-- ZONE_SET (R26). -/
  | zoneSet (seat : Seat) (payload : List Byte)
  /-- ZONE_REMOVE (R27). -/
  | zoneRemove (seat : Seat) (payload : List Byte)
  /-- MARKER_SET (R127). -/
  | markerSet (seat : Seat) (payload : List Byte)
  /-- SET_ANCHOR (R6). -/
  | setAnchor (seat : Seat) (payload : List Byte)
  /-- SET_WORKSPACE (R12). -/
  | setWorkspace (seat : Seat) (payload : List Byte)
  /-- SET_LIMITS (R20). -/
  | setLimits (seat : Seat) (payload : List Byte)
  /-- SET_CHANNEL_LIMITS (R169). -/
  | setChannelLimits (seat : Seat) (payload : List Byte)
  /-- SET_TIMING (R137). -/
  | setTiming (seat : Seat) (payload : List Byte)
  /-- DECLARE_POSE (R176). -/
  | declarePose (seat : Seat) (payload : List Byte)
  /-- SET_HOME (R7). -/
  | setHome (seat : Seat) (payload : List Byte)
  /-- SERVO_EVENT (R139): the interval timer reaches the next event time. -/
  | servoEvent
  /-- REFERENCE_EDGE (R145): the edge's instant, in µs since the load of the last part reset ended. -/
  | referenceEdge (t : Nat)
  /-- ACQUIRE_SILENCE_TIMEOUT (R141). -/
  | acquireSilenceTimeout
  /-- PULL_SILENCE_TIMEOUT (R144). -/
  | pullSilenceTimeout
  /-- WINDOW_CLOSE (R146). -/
  | windowClose
  /-- DRIVE_ANSWER (R158): the drive link it arrives on, and its bytes (R218). -/
  | driveAnswer (w : Winch) (bytes : List Byte)
  /-- RELEASE_TIMEOUT (R54). -/
  | releaseTimeout (w : Winch)
  /-- BRAKE_TIMEOUT (R167). -/
  | brakeTimeout (w : Winch)
  /-- SET_TIMEOUT (R178). -/
  | setTimeout (w : Winch)
  /-- STICK_TIMER_EXPIRY (R101). -/
  | stickTimerExpiry
  /-- SAVE_WRITE_START (R211). -/
  | saveWriteStart
  /-- SAVE_WRITE_END (R212): whether the image reads back with a good check and equal to the copy. -/
  | saveWriteEnd (readsBack : Bool)
  /-- POSE_WRITE_START (R48). -/
  | poseWriteStart
  /-- POSE_WRITE_END (R48). -/
  | poseWriteEnd
deriving DecidableEq, Repr

end Sys2Proof
end

