-- ==== Sys2Proof/Machine/State.lean ====
section
/-! DEFINITION. The state of the VC-40, block by block as 00_scope.md lists the blocks, and its value right after
reset. Every field is plain data. -/

namespace Sys2Proof.Machine

open Sys2Proof

/-! ## Names the manual gives codes to -/

/-- The nine flight states (R42). -/
inductive FlightState where
  | parked
  | arming
  | hold
  | track
  | stick
  | stream
  | stopping
  | parking
  | tripped
deriving DecidableEq, Repr

/-- The stop causes (R45). -/
inductive StopCause where
  | noCause
  | armed
  | holdRequest
  | safetyHold
  | stickDropped
  | queueDrained
  | cueReached
  | stepDone
  | markerHold
  | pathRejected
  | zoneStop
  | wallStrike
  | streamEnded
  | streamUnderrun
  | streamLag
  | trip
deriving DecidableEq, Repr

/-- The origins of the retained pose (R47). -/
inductive PoseOrigin where
  | unset
  | park
  | trip
  | reference
  | declare
deriving DecidableEq, Repr

/-- The reference states (R138). -/
inductive RefState where
  | freeRun
  | acquiring
  | pulling
  | locked
deriving DecidableEq, Repr

/-- The pull directions (R143). -/
inductive PullDir where
  | shorten
  | lengthen
deriving DecidableEq, Repr

/-- The channel states (R154). -/
inductive ChanState where
  | absent
  | ready
  | releasing
  | streaming
  | braking
  | setting
  | faulted
deriving DecidableEq, Repr

/-- The drive states an answer reports (09, the drive link). -/
inductive DriveState where
  | starting
  | braked
  | released
  | faulted
deriving DecidableEq, Repr

/-- The stream states (R105). -/
inductive StreamState where
  | idle
  | primed
  | playing
  | ending
deriving DecidableEq, Repr

/-- The phases of the move in hand (R69). `abandoned` is the move of a ZONE_STOP, kept only to finish the stop and
reported as NONE (R30, R69). -/
inductive Phase where
  | moving
  | dwelling
  | suspended
  | abandoned
deriving DecidableEq, Repr

/-- The kinds of a setting operation (R174). -/
inductive SettingKind where
  | noSetting
  | reference
  | declare
deriving DecidableEq, Repr

/-- The error codes of an ERROR_REPORT (R219). -/
inductive ErrorCode where
  | badLength
  | wrongState
  | notPermitted
  | seatClosed
  | badValue
  | busy
  | queueFull
  | queueEmpty
  | outOfWorkspace
  | targetBlocked
  | pathBlocked
  | zoneOccupied
  | locked
  | noSuchZone
  | noConsent
  | faultPresent
  | noWorkspace
  | channelNotReady
  | notReferenced
  | poseBlocked
  | poseMismatch
  | homeBlocked
  | lateStart
  | noSuchMarker
deriving DecidableEq, Repr

/-- The categories of notices (R206). -/
inductive Category where
  | cue
  | envelope
  | timing
  | channel
deriving DecidableEq, Repr

/-- The notice codes (R219). -/
inductive NoticeCode where
  | moveBegun
  | moveDone
  | cueReached
  | queueDrained
  | markerEntered
  | armed
  | armFailed
  | parked
  | holding
  | streamPlaying
  | streamEnded
  | referenceDone
  | referenceFailed
  | saveDone
  | wallStrike
  | zoneStop
  | pathRejected
  | referenceLocked
  | referenceLost
  | stickTimeout
  | streamLow
  | streamCritical
  | streamHigh
  | streamUnderrun
  | streamOverflow
  | streamGap
  | streamLag
  | joinRefused
  | tensionWarn
  | armTimeout
  | settingTimeout
  | feedbackErrors
  | drivePresent
  | driveAbsent
deriving DecidableEq, Repr

/-- The nineteen fault flags, in number order (R182). -/
inductive Flag where
  | wallStrike
  | zoneStop
  | pathRejected
  | referenceLost
  | stickTimeout
  | streamUnderrun
  | streamOverflow
  | streamLag
  | tensionWarn
  | armTimeout
  | settingTimeout
  | feedbackErrors
  | slack
  | overtension
  | following
  | channelLost
  | driveFault
  | estop
  | operatorTrip
deriving DecidableEq, Repr

/-! ## Settings -/

/-- One anchor record, in mm (R4). -/
structure Anchor where
  a : Vec3
  b : Vec3
  run : Int
  lmin : Int
  lmax : Int
deriving DecidableEq, Repr

/-- One channel's limits: tensions in N, following limit in mm (R169). -/
structure ChannelLimits where
  tmin : Nat
  twarnLo : Nat
  twarnHi : Nat
  tmax : Nat
  following : Nat
deriving DecidableEq, Repr

/-- The fields of SET_LIMITS, in the order of its payload (R20, R67, R95, R108, R51, R215). -/
structure Limits where
  margin : Nat
  vmax : Nat
  caution : Nat
  ae : Nat
  amove : Nat
  amoveMax : Nat
  vstick : Nat
  astick : Nat
  stickTimeout : Nat
  astream : Nat
  lagLimit : Nat
  joinTol : Nat
  lowWater : Nat
  poseTol : Nat
deriving DecidableEq, Repr

/-- The servo period in µs and the servo events per frame (R137). -/
structure Timing where
  ts : Nat
  n : Nat
deriving DecidableEq, Repr

/-- The kind of a zone, with the speed cap (mm/s) that only a SLOW zone holds (R22). -/
inductive ZoneKind where
  | keepOut
  | slow (cap : Nat)
deriving DecidableEq, Repr

/-- One zone record, its box in mm (R22). -/
structure Zone where
  kind : ZoneKind
  active : Bool
  box : Box
  lock : Nat
  owner : Seat
deriving DecidableEq, Repr

/-- The part of a marker that a record sets and the image keeps, in mm (R126, R136). -/
structure MarkerSpec where
  point : Vec3
  radius : Nat
  holdAtEnd : Bool
  armed : Bool
deriving DecidableEq, Repr

/-- One marker slot's content (R126). -/
structure Marker where
  spec : MarkerSpec
  inside : Bool
deriving DecidableEq, Repr

/-- What the settings image holds (R209). -/
structure Settings where
  anchors : Quad Anchor
  home : Vec3
  box : Box
  limits : Limits
  timing : Timing
  chLimits : Quad ChannelLimits
  zones : Vector (Option Zone) 24
  markers : Quad (Option MarkerSpec)
deriving DecidableEq, Repr

/-- The retained pose, in µm (R47). -/
structure RetainedPose where
  pos : Vec3
  valid : Bool
  origin : PoseOrigin
deriving DecidableEq, Repr

/-! ## Records on the console link -/

/-- A record as received: its seat, its type, and its two data bytes or its payload (R198). -/
structure Record where
  seat : Seat
  type : BitVec 6
  body : List Byte
deriving DecidableEq, Repr

/-- The pose snapshot, and the content of POSE and FRAME_POSE (R149). -/
structure Snapshot where
  frames : Nat
  pos : Vec3
  lengths : Quad Nat
  tensions : Quad Nat
  stale : Quad Bool
  ref : RefState
deriving DecidableEq, Repr

/-- One fault flag (R182). -/
structure FlagEntry where
  set : Bool
  count : Nat
  channel : Nat
deriving DecidableEq, Repr

/-- The trip record (R185). -/
structure TripRecord where
  cause : Option Flag
  channel : Nat
  seat : Option Seat
  left : FlightState
  pos : Vec3
  frames : Nat
deriving DecidableEq, Repr

/-- LINK's eight counters, 16-bit saturating (R200, R201, R202, R206). -/
structure LinkCounters where
  dropped : Nat
  headerCheck : Nat
  length : Nat
  payloadCheck : Nat
  gap : Nat
  byteError : Nat
  ignored : Nat
  overrun : Nat
deriving DecidableEq, Repr

/-- The content of a STATE reply, in the order of its layout (R208, R217). -/
structure StateReport where
  flight : FlightState
  cause : StopCause
  queueCount : Nat
  moveId : Nat
  phase : Option Phase
  streamState : StreamState
  occupancy : Nat
  expected : BitVec 16
  ref : RefState
  frames : Nat
  chanStates : Quad ChanState
  badFrames : Quad Nat
  flags : Vector FlagEntry 19
  trip : TripRecord
  line : Bool
  consent : Bool
  permit : Bool
  defaulted : Bool
  boxValid : Bool
  poseValid : Bool
  poseOrigin : PoseOrigin
  counters : LinkCounters
  stickDiscards : Nat
  streamDiscards : Nat
  streamGaps : Nat
deriving DecidableEq, Repr

/-- The content of SETTINGS_INFO (R216). -/
structure SettingsReport where
  anchors : Quad Anchor
  home : Vec3
  homeValid : Bool
  box : Box
  boxValid : Bool
  limits : Limits
  timing : Timing
  chLimits : Quad ChannelLimits
  defaulted : Bool
deriving DecidableEq, Repr

/-- The records the part sends (R214, R216), by their content; Machine/Wire.lean gives their bytes. -/
inductive Message where
  | ack (answered : BitVec 6) (detail : Byte)
  | errorReport (code : ErrorCode) (detail : Byte)
  | notice (code : NoticeCode) (detail : Byte)
  | state (report : StateReport)
  | pose (content : Snapshot)
  | zoneInfo (slot : Nat) (zone : Option Zone)
  | settingsInfo (report : SettingsReport)
  | moveNotice (code : NoticeCode) (id : Nat) (origin : Seat) (target : Vec3) (queueCount : Nat)
  | framePose (content : Snapshot)
  | tripNotice (flag : Flag) (first : Bool) (channel : Nat) (seat : Option Seat) (left : FlightState) (pos : Vec3)
      (frames : Nat)
  | markerInfo (number : Nat) (marker : Option Marker) (holdPending : Bool)
deriving DecidableEq, Repr

/-- One record of the transmit queue, addressed to a seat (R205). -/
structure TxRecord where
  seat : Seat
  msg : Message
deriving DecidableEq, Repr

/-- Whom a notice is copied to (R206). -/
inductive Audience where
  | subscribers (c : Category)
  | framePose
  | everySeat
deriving DecidableEq, Repr

/-- A notice handed to LINK (R206). -/
structure Handed where
  audience : Audience
  msg : Message
deriving DecidableEq, Repr

/-- A subscription mask (R207). -/
structure Mask where
  cue : Bool
  envelope : Bool
  timing : Bool
  channel : Bool
  framePose : Bool
deriving DecidableEq, Repr

/-- The receive assembler (R199): HUNTING; HEADER with the bytes held after the lead; BODY with byte 1, the payload
length n and the bytes received after the header. -/
inductive Assembler where
  | hunting
  | header (held : List Byte)
  | body (b1 : Byte) (n : Nat) (got : List Byte)
deriving DecidableEq, Repr

/-- Where a RESET_PART stands (R213): none taken; its ACK queued, with how many records have still to leave up to and
with it; the ACK gone and the part reset due. -/
inductive ResetPhase where
  | running
  | ackQueued (left : Nat)
  | due
deriving DecidableEq, Repr

/-- The console link unit (11). `handed` is the model's own: notices handed to LINK within the present step and not yet
copied to the seats; it is empty between steps (log 10). -/
structure Link where
  strap : Strap
  assembler : Assembler
  gapTimer : Option Nat
  decodeQueue : List Record
  tx : List TxRecord
  masks : Quad Mask
  counters : LinkCounters
  resetPhase : ResetPhase
  handed : List Handed
deriving DecidableEq, Repr

/-! ## The other blocks -/

/-- The flight control unit (03). -/
structure Fcu where
  flight : FlightState
  cause : StopCause
  consent : Bool
  permit : Bool
  pose : RetainedPose
deriving DecidableEq, Repr

/-- A move record of the queue: target in mm, cruise in mm/s, accel in mm/s², dwell in ms (R65). -/
structure Move where
  id : Nat
  target : Vec3
  cruise : Nat
  tagged : Bool
  notifyBegin : Bool
  notifyDone : Bool
  accel : Option Nat
  dwell : Option Nat
  origin : Seat
deriving DecidableEq, Repr

/-- The move in hand (R69): acceleration in mm/s², start in µm, path length and progress in µm, speed in µm/s. -/
structure MoveInHand where
  move : Move
  accel : Nat
  start : Vec3
  dist : Nat
  prog : Nat
  speed : Nat
  phase : Phase
  dwellLeft : Nat
  stepFlag : Bool
deriving DecidableEq, Repr

/-- The stick input record (R92): deflections per mille, the timer's time left in µs. -/
structure StickInput where
  q : Vec3
  timer : Option Nat
  discards : Nat
deriving DecidableEq, Repr

/-- One sample of the stream buffer, in µm (R105). -/
structure Sample where
  index : BitVec 16
  pos : Vec3
deriving DecidableEq, Repr

/-- The stream record and its counters (R105, R106). The occupancy is the length of `samples`. -/
structure Stream where
  state : StreamState
  samples : List Sample
  expected : BitVec 16
  startFrame : Nat
  gapReported : Bool
  inLow : Bool
  inCritical : Bool
  inHigh : Bool
  discards : Nat
  gaps : Nat
deriving DecidableEq, Repr

/-- A path stop or an axis stop (03, Stopping). -/
inductive StopKind where
  | path
  | axis
deriving DecidableEq, Repr

/-- The stop in progress: its kind and its rate in µm/s per servo period (R59). -/
structure Stop where
  kind : StopKind
  rate : Nat
deriving DecidableEq, Repr

/-- The path planner (04, 05, 06). Positions in µm, velocities in µm/s. -/
structure Pln where
  queue : List Move
  inHand : Option MoveInHand
  stick : StickInput
  stream : Stream
  pos : Vec3
  vel : Vec3
  holdPos : Vec3
  stop : Option Stop
deriving DecidableEq, Repr

/-- The envelope guard (02); `box` in mm, `ceiling` in µm/s. -/
structure Env where
  box : Box
  boxValid : Bool
  limits : Limits
  zones : Vector (Option Zone) 24
  ceiling : Nat
deriving DecidableEq, Repr

/-- The cable solver (01); `home` in mm. -/
structure Sol where
  anchors : Quad Anchor
  home : Vec3
  homeValid : Bool
deriving DecidableEq, Repr

/-- The marker unit (07). -/
structure Mrk where
  markers : Quad (Option Marker)
  holdPending : Bool
deriving DecidableEq, Repr

/-- The timebase and frame reference unit (08). Times are instants in µs since the load of the last part reset ended.
`now` is the present time FRU measures (log 3); `lastServo` is the instant of the latest servo event. -/
structure Fru where
  timing : Timing
  ref : RefState
  frameIndex : Nat
  nextEvent : Option Nat
  lastRef : Option Nat
  good : Nat
  miss : Nat
  pullDir : Option PullDir
  pullLeft : Nat
  frames : Nat
  snapshot : Snapshot
  now : Nat
  lastServo : Nat
deriving DecidableEq, Repr

/-- The kinds of a part-to-drive frame, with the length two of them carry in µm (09). -/
inductive FrameKind where
  | poll
  | setpoint (length : Nat)
  | release
  | brake
  | setLength (length : Nat)
  | restart
deriving DecidableEq, Repr

/-- One frame sent to a drive (R155). -/
structure DriveFrame where
  kind : FrameKind
  seq : BitVec 4
deriving DecidableEq, Repr

/-- The last valid answer of a drive (R154); `drive` is none before the first. Length in µm, tension in N. -/
structure Answer where
  drive : Option DriveState
  lengthValid : Bool
  length : Nat
  tension : Nat
deriving DecidableEq, Repr

/-- One winch channel (R154). `timer` is the state timer's time left in µs; `sent` is the frame that opened the present
servo period (R155), none before the first servo event. -/
structure Channel where
  state : ChanState
  seq : BitVec 4
  newest : Nat
  requested : Nat
  restartPending : Bool
  last : Answer
  answered : Bool
  miss : Nat
  slackCount : Nat
  overCount : Nat
  followCount : Nat
  warning : Bool
  badFrames : Nat
  timer : Option Nat
  limits : ChannelLimits
  sent : Option DriveFrame
deriving DecidableEq, Repr

/-- The setting operation record (R174); `point` in µm. -/
structure SettingOp where
  kind : SettingKind
  point : Vec3
  involved : Quad Bool
deriving DecidableEq, Repr

/-- The winch channels (09). -/
structure Ch where
  chans : Quad Channel
  op : SettingOp
deriving DecidableEq, Repr

/-- The fault monitor (10). `line` is the emergency-stop line's level: true is asserted. -/
structure Flt where
  flags : Vector FlagEntry 19
  trip : TripRecord
  line : Bool
deriving DecidableEq, Repr

/-- A save in progress (R211, R212), with the copy taken at acceptance: waiting for a pose write, or being written. -/
inductive SaveState where
  | idle
  | waiting (copy : Settings)
  | writing (copy : Settings)
deriving DecidableEq, Repr

/-- The settings store interface and the external memory's two images; `none` is an image whose check fails (R209,
R210, R47, log 24). -/
structure Sto where
  settingsImage : Option Settings
  poseImage : Option RetainedPose
  save : SaveState
  poseWriting : Option RetainedPose
  poseWaiting : Bool
  defaulted : Bool
deriving DecidableEq, Repr

/-- The whole part, the commands waiting for it (first in, first out), and the model's count of free values taken. -/
structure State where
  link : Link
  fcu : Fcu
  pln : Pln
  env : Env
  sol : Sol
  mrk : Mrk
  fru : Fru
  ch : Ch
  flt : Flt
  sto : Sto
  freeCount : Nat
  pending : List Instr
deriving DecidableEq, Repr

/-- Why the model would stop with a fault. It has no constructor: no step of the part stops it; what the manual calls a
fault is a next state (10). Raised by nothing; safe. -/
inductive Fault where
deriving DecidableEq, Repr

/-- Why the model has no meaning for a command. -/
inductive Refusal where
  /-- Raised by an arm of exec whose command has no meaning yet; safe. No arm raises it now. -/
  | notModelled (mnemonic : String)
deriving DecidableEq, Repr

/-! ## One update per block -/

/-- The state with LINK changed. -/
def State.onLink (s : State) (f : Link → Link) : State := { s with link := f s.link }
/-- The state with FCU changed. -/
def State.onFcu (s : State) (f : Fcu → Fcu) : State := { s with fcu := f s.fcu }
/-- The state with PLN changed. -/
def State.onPln (s : State) (f : Pln → Pln) : State := { s with pln := f s.pln }
/-- The state with ENV changed. -/
def State.onEnv (s : State) (f : Env → Env) : State := { s with env := f s.env }
/-- The state with SOL changed. -/
def State.onSol (s : State) (f : Sol → Sol) : State := { s with sol := f s.sol }
/-- The state with MRK changed. -/
def State.onMrk (s : State) (f : Mrk → Mrk) : State := { s with mrk := f s.mrk }
/-- The state with FRU changed. -/
def State.onFru (s : State) (f : Fru → Fru) : State := { s with fru := f s.fru }
/-- The state with the winch channels changed. -/
def State.onCh (s : State) (f : Ch → Ch) : State := { s with ch := f s.ch }
/-- The state with FLT changed. -/
def State.onFlt (s : State) (f : Flt → Flt) : State := { s with flt := f s.flt }
/-- The state with STO changed. -/
def State.onSto (s : State) (f : Sto → Sto) : State := { s with sto := f s.sto }

/-! ## Reset values -/

/-- The defaults of the SET_LIMITS fields (R20, R67, R95, R108, R51). -/
def Limits.default : Limits where
  margin := 1000
  vmax := 10000
  caution := 2000
  ae := 6000
  amove := 2000
  amoveMax := 4000
  vstick := 6000
  astick := 2500
  stickTimeout := 200
  astream := 4000
  lagLimit := 500
  joinTol := 50
  lowWater := 16
  poseTol := 20

/-- The defaults of Ts and N (R137). -/
def Timing.default : Timing := ⟨2000, 10⟩

/-- The defaults of a channel's limits (R169). -/
def ChannelLimits.default : ChannelLimits := ⟨200, 500, 8000, 10000, 50⟩

/-- An anchor record after a load whose image fails its check (R5). -/
def Anchor.zero : Anchor := ⟨Vec3.zero, Vec3.zero, 0, 0, 0⟩

/-- What every owner takes when the settings image fails its check (R210). -/
def Settings.default : Settings where
  anchors := Quad.fill Anchor.zero
  home := Vec3.zero
  box := ⟨Vec3.zero, Vec3.zero⟩
  limits := Limits.default
  timing := Timing.default
  chLimits := Quad.fill ChannelLimits.default
  zones := Vector.replicate 24 none
  markers := Quad.fill none

/-- The retained pose when its image fails its check (R47). -/
def RetainedPose.default : RetainedPose := ⟨Vec3.zero, false, .unset⟩

/-- A clear flag (R182, R193). -/
def FlagEntry.clear : FlagEntry := ⟨false, 0, 0⟩

/-- The reset values of the trip record (R185). -/
def TripRecord.cleared : TripRecord := ⟨none, 0, none, .parked, Vec3.zero, 0⟩

/-- The masks after part reset (R207). -/
def Mask.resetMasks : Quad Mask :=
  ⟨⟨true, true, true, true, false⟩, ⟨true, true, true, true, false⟩, ⟨true, false, false, false, false⟩,
    ⟨false, false, false, false, false⟩⟩

/-- A channel after part reset, with the limits the load gives it (R154). -/
def Channel.reset (limits : ChannelLimits) : Channel where
  state := .absent
  seq := 0
  newest := 0
  requested := 0
  restartPending := false
  last := ⟨none, false, 0, 0⟩
  answered := false
  miss := 0
  slackCount := 0
  overCount := 0
  followCount := 0
  warning := false
  badFrames := 0
  timer := none
  limits := limits
  sent := none

/-- The stream record after part reset (R105, R106). -/
def Stream.reset : Stream := ⟨.idle, [], 0, 0, false, false, false, false, 0, 0⟩

/-- LINK after part reset, with the strap's level (R197, R213). -/
def Link.reset (strap : Strap) : Link where
  strap := strap
  assembler := .hunting
  gapTimer := none
  decodeQueue := []
  tx := []
  masks := Mask.resetMasks
  counters := ⟨0, 0, 0, 0, 0, 0, 0, 0⟩
  resetPhase := .running
  handed := []

/-- The part right after a reset whose two images fail their checks, with the emergency-stop line deasserted and the
strap low: the external memory is taken as blank (log 9). The reset from stored images is the command PART_RESET. R149 gives
the snapshot after part reset its position, lengths, tensions and stale flags; its frame count 0 and reference state
FREE_RUN are the model's (log 29). -/
def State.reset : State where
  link := Link.reset .low
  fcu := ⟨.parked, .noCause, false, false, RetainedPose.default⟩
  pln :=
    { queue := [], inHand := none, stick := ⟨Vec3.zero, none, 0⟩, stream := Stream.reset, pos := Vec3.zero,
      vel := Vec3.zero, holdPos := Vec3.zero, stop := none }
  env := ⟨⟨Vec3.zero, Vec3.zero⟩, false, Limits.default, Vector.replicate 24 none, 10000000⟩
  sol := ⟨Quad.fill Anchor.zero, Vec3.zero, false⟩
  mrk := ⟨Quad.fill none, false⟩
  fru :=
    { timing := Timing.default, ref := .freeRun, frameIndex := 0, nextEvent := some 2000, lastRef := none, good := 0,
      miss := 0, pullDir := none, pullLeft := 0, frames := 0,
      snapshot := ⟨0, Vec3.zero, Quad.fill 0, Quad.fill 0, Quad.fill true, .freeRun⟩, now := 0, lastServo := 0 }
  ch := ⟨Quad.fill (Channel.reset ChannelLimits.default), ⟨.noSetting, Vec3.zero, Quad.fill false⟩⟩
  flt := ⟨Vector.replicate 19 FlagEntry.clear, TripRecord.cleared, false⟩
  sto := ⟨none, none, .idle, none, false, true⟩
  freeCount := 0
  pending := []

end Sys2Proof.Machine
end

