-- ==== Sys2Proof/Machine/Arith.lean ====
section
/-! DEFINITION. The exact arithmetic the manual names: rounded quotients, isqrt, the length root, distances, and the
conversions between its units (00 Conventions; R1, R2, R3). -/

namespace Sys2Proof.Machine

open Sys2Proof

/-- The largest y with y² ≤ n, for n below 4 to the power of the fuel. -/
def isqrtFuel : Nat → Nat → Nat
  | 0, _ => 0
  | fuel + 1, n =>
    let r := 2 * isqrtFuel fuel (n / 4)
    if (r + 1) * (r + 1) ≤ n then r + 1 else r

/-- isqrt: the floor of the square root (R2). -/
def isqrt (n : Nat) : Nat := isqrtFuel (n.log2 / 2 + 1) n

/-- The round-to-nearest square root, called the length root (R3). -/
def lengthRoot (n : Nat) : Nat :=
  let y := isqrt n
  if y < n - y * y then y + 1 else y

/-- A quotient of naturals rounded, halves up (R2). -/
def roundNat (a b : Nat) : Nat := a / b + (if b ≤ 2 * (a % b) then 1 else 0)

/-- A quotient rounded, halves away from zero, with the sign of the dividend (R2). -/
def roundInt (a : Int) (b : Nat) : Int :=
  if a < 0 then -(roundNat a.natAbs b : Int) else (roundNat a.natAbs b : Int)

/-- One more, up to the largest value of a saturating counter (00, Counters). -/
def satSucc (cap n : Nat) : Nat := if n < cap then n + 1 else cap

/-- The largest value of a 16-bit counter. -/
def cap16 : Nat := 65535

/-- mm to µm, per axis (R1). -/
def toMicrons (v : Vec3) : Vec3 := ⟨1000 * v.x, 1000 * v.y, 1000 * v.z⟩

/-- A box in mm as a box in µm (R1). -/
def boxMicrons (b : Box) : Box := ⟨toMicrons b.lo, toMicrons b.hi⟩

/-- The squared distance of two points, exactly (00, Distances). -/
def sqDist (p q : Vec3) : Nat :=
  (p.x - q.x).natAbs ^ 2 + (p.y - q.y).natAbs ^ 2 + (p.z - q.z).natAbs ^ 2

/-- A difference per axis. -/
def vsub (p q : Vec3) : Vec3 := ⟨p.x - q.x, p.y - q.y, p.z - q.z⟩

/-- A sum per axis. -/
def vadd (p q : Vec3) : Vec3 := ⟨p.x + q.x, p.y + q.y, p.z + q.z⟩

/-- A number limited to an interval. -/
def clampInt (lo hi v : Int) : Int := max lo (min hi v)

/-- The speed change of one servo period at an acceleration in mm/s²: a·Ts/1000 rounded, in µm/s (R30, R59). -/
def speedStep (accel ts : Nat) : Nat := roundNat (accel * ts) 1000

/-- The displacement of one servo period at a speed in µm/s: v·Ts/1,000,000 rounded, in µm (R77, R99). -/
def displacement (v : Int) (ts : Nat) : Int := roundInt (v * ts) 1000000

/-- The absolute difference of two lengths. -/
def absDiff (a b : Nat) : Nat := (a - b) + (b - a)

/-- A speed moved toward a target by at most a step (R99, R103). -/
def approach (v target : Int) (step : Nat) : Int :=
  if v ≤ target then min (v + step) target else max (v - step) target

/-- A number's magnitude replaced, its sign kept. -/
def withMagnitude (v : Int) (m : Nat) : Int := if v < 0 then -(m : Int) else (m : Int)

/-- A winch number 1..4 as a winch. -/
def winchOf (n : Nat) : Option Winch :=
  if n = 1 then some .w1
  else if n = 2 then some .w2
  else if n = 3 then some .w3
  else if n = 4 then some .w4
  else none

/-- A winch's place in a table of four. -/
def winchIndex : Winch → Fin 4
  | .w1 => 0
  | .w2 => 1
  | .w3 => 2
  | .w4 => 3

/-- A winch's number 1..4. -/
def winchNumber : Winch → Nat
  | .w1 => 1
  | .w2 => 2
  | .w3 => 3
  | .w4 => 4

/-- A seat's place in wire order (R198). -/
def seatIndex : Seat → Fin 4
  | .pilot => 0
  | .safety => 1
  | .director => 2
  | .service => 3

/-- The four winches in order. -/
def allWinches : List Winch := [.w1, .w2, .w3, .w4]

/-- The four seats in wire order. -/
def allSeats : List Seat := [.pilot, .safety, .director, .service]

/-- Bits 0..3 of a detail byte, set for W1..W4 (R51). -/
def winchBits (q : Quad Bool) : Nat :=
  (if q.q0 then 1 else 0) + (if q.q1 then 2 else 0) + (if q.q2 then 4 else 0) + (if q.q3 then 8 else 0)

end Sys2Proof.Machine
end

