-- ==== Sys2Proof/Machine/Geometry.lean ====
section
/-! DEFINITION. The geometry: cable lengths and the workspace acceptance check (01), and the envelope guard's exact tests,
speed ceiling, soft walls and hard clamp (02). Positions are in µm unless a name says mm. -/

namespace Sys2Proof.Machine

open Sys2Proof

/-! ## Cable lengths and acceptance -/

/-- The point C = 1000·(A − b) of an anchor record (R9, step 1). -/
def anchorPoint (a : Anchor) : Vec3 := toMicrons (vsub a.a a.b)

/-- The paid-out length at a position: the length root of the squared distance from C (R9, steps 2 and 3). -/
def paidOut (a : Anchor) (p : Vec3) : Nat := lengthRoot (sqDist (anchorPoint a) p)

/-- The setpoint of a winch at a position: the paid-out length plus 1000·R (R9). -/
def setpointAt (a : Anchor) (p : Vec3) : Nat := paidOut a p + (1000 * a.run).toNat

/-- The position of the box bound farther from a coordinate, as a distance (R13). -/
def farDistance (c lo hi : Int) : Nat := max (c - lo).natAbs (c - hi).natAbs

/-- The distance of a coordinate from its clamp into the box range (R13). -/
def nearDistance (c lo hi : Int) : Nat := (c - clampInt lo hi c).natAbs

/-- The longest paid-out length of a winch over a box (R13). -/
def longestOver (a : Anchor) (b : Box) : Nat :=
  let c := anchorPoint a
  lengthRoot (farDistance c.x b.lo.x b.hi.x ^ 2 + farDistance c.y b.lo.y b.hi.y ^ 2 + farDistance c.z b.lo.z b.hi.z ^ 2)

/-- The shortest paid-out length of a winch over a box (R13). -/
def shortestOver (a : Anchor) (b : Box) : Nat :=
  let c := anchorPoint a
  lengthRoot (nearDistance c.x b.lo.x b.hi.x ^ 2 + nearDistance c.y b.lo.y b.hi.y ^ 2 + nearDistance c.z b.lo.z b.hi.z ^ 2)

/-- Whether a box has its minimum below its maximum on every axis. -/
def boxOrdered (b : Box) : Bool := b.lo.x < b.hi.x && b.lo.y < b.hi.y && b.lo.z < b.hi.z

/-- Whether a winch fails low on a box given in mm (R13). -/
def failsLow (boxMm : Box) (a : Anchor) : Bool :=
  !boxOrdered boxMm || decide ((shortestOver a (boxMicrons boxMm) : Int) < 1000 * a.lmin)

/-- Whether a winch fails high on a box given in mm (R13). -/
def failsHigh (boxMm : Box) (a : Anchor) : Bool :=
  !boxOrdered boxMm || decide (1000 * a.lmax < (longestOver a (boxMicrons boxMm) : Int))

/-- The ACK detail of an acceptance check: bits 0..3 failing low, bits 4..7 failing high (R14). -/
def acceptanceDetail (anchors : Quad Anchor) (boxMm : Box) : Nat :=
  winchBits (anchors.map (failsLow boxMm)) + 16 * winchBits (anchors.map (failsHigh boxMm))

/-- Whether the box passes: no winch fails either way (R13). -/
def boxPasses (anchors : Quad Anchor) (boxMm : Box) : Bool :=
  anchors.all fun a => !failsLow boxMm a && !failsHigh boxMm a

/-! ## Boxes -/

/-- Whether a point lies in a closed box (R33). -/
def inBox (b : Box) (p : Vec3) : Bool :=
  b.lo.x ≤ p.x && p.x ≤ b.hi.x && b.lo.y ≤ p.y && p.y ≤ b.hi.y && b.lo.z ≤ p.z && p.z ≤ b.hi.z

/-- The same margin on every axis, in µm. -/
def marginVec (margin : Nat) : Vec3 := ⟨1000 * margin, 1000 * margin, 1000 * margin⟩

/-- A workspace box in mm shrunk by the margin, in µm (R19). -/
def shrunkBox (margin : Nat) (boxMm : Box) : Box :=
  ⟨vadd (toMicrons boxMm.lo) (marginVec margin), vsub (toMicrons boxMm.hi) (marginVec margin)⟩

/-- A KEEP_OUT box in mm inflated by the margin, in µm (R19). -/
def inflatedBox (margin : Nat) (boxMm : Box) : Box :=
  ⟨vsub (toMicrons boxMm.lo) (marginVec margin), vadd (toMicrons boxMm.hi) (marginVec margin)⟩

/-- The shrunk workspace of ENV. -/
def Env.shrunk (e : Env) : Box := shrunkBox e.limits.margin e.box

/-- The inflated box of a slot's content, when it is an active KEEP_OUT zone (R19). -/
def keepOutBox (margin : Nat) : Option Zone → Option Box
  | some z => match z.kind with
    | .keepOut => if z.active then some (inflatedBox margin z.box) else none
    | .slow _ => none
  | none => none

/-- The active KEEP_OUT zones in slot order, each with its slot number and its inflated box. -/
def Env.keepOuts (e : Env) : List (Nat × Box) :=
  e.zones.toList.zipIdx.filterMap fun zi => (keepOutBox e.limits.margin zi.1).map fun b => (zi.2, b)

/-- The lowest slot whose active inflated KEEP_OUT box contains a point (R51, R175). -/
def Env.blockedAt (e : Env) (p : Vec3) : Option Nat := (e.keepOuts.find? fun zb => inBox zb.2 p).map Prod.fst

/-- Whether a point is free: in the shrunk workspace and in no active inflated KEEP_OUT box. -/
def Env.free (e : Env) (p : Vec3) : Bool := inBox e.shrunk p && (e.blockedAt p).isNone

/-! ## Segments -/

/-- What an axis admits of a segment's parameter: from entry/den to exit/den, den positive (R34). -/
structure Span where
  entry : Int
  exit : Int
  den : Nat
deriving DecidableEq, Repr

/-- The span of one axis, or none when it admits nothing (R34). -/
def axisSpan (p0 p1 lo hi : Int) : Option Span :=
  let d := p1 - p0
  if d = 0 then (if lo ≤ p0 ∧ p0 ≤ hi then some ⟨0, 1, 1⟩ else none)
  else if 0 < d then some ⟨lo - p0, hi - p0, d.natAbs⟩
  else some ⟨p0 - hi, p0 - lo, d.natAbs⟩

/-- Whether the largest of 0 and the entries is not greater than the smallest of 1 and the exits, the fractions
compared by cross products (R34). -/
def spansMeet (spans : List Span) : Bool :=
  let all := (⟨0, 1, 1⟩ : Span) :: spans
  all.all fun a => all.all fun b => decide (a.entry * b.den ≤ b.exit * a.den)

/-- Whether a closed segment intersects a closed box (R34). -/
def segmentMeets (p0 p1 : Vec3) (b : Box) : Bool :=
  match axisSpan p0.x p1.x b.lo.x b.hi.x, axisSpan p0.y p1.y b.lo.y b.hi.y, axisSpan p0.z p1.z b.lo.z b.hi.z with
  | some sx, some sy, some sz => spansMeet [sx, sy, sz]
  | _, _, _ => false

/-- Whether a segment intersects an active inflated KEEP_OUT box (R35). -/
def Env.pathBlocked (e : Env) (p0 p1 : Vec3) : Bool := e.keepOuts.any fun zb => segmentMeets p0 p1 zb.2

/-! ## The speed ceiling -/

/-- The cap of a slot's content at a point, in µm/s: an active SLOW zone whose box, not inflated, contains it (R36). -/
def slowCapAt (p : Vec3) : Option Zone → Option Nat
  | some z => match z.kind with
    | .slow cap => if z.active && inBox (boxMicrons z.box) p then some (1000 * cap) else none
    | .keepOut => none
  | none => none

/-- The speed ceiling in µm/s at a point, with whether a live tension warning is present on a STREAMING channel (R36). -/
def Env.ceilingAt (e : Env) (p : Vec3) (warning : Bool) : Nat :=
  let caps := e.zones.toList.filterMap (slowCapAt p)
  let base := caps.foldl min (1000 * e.limits.vmax)
  if warning then min base (1000 * e.limits.caution) else base

/-! ## Soft walls -/

/-- The other two axes. -/
def otherAxes : Axis → Axis × Axis
  | .x => (.y, .z)
  | .y => (.x, .z)
  | .z => (.x, .y)

/-- Whether a coordinate lies in a box's range on an axis. -/
def inRange (b : Box) (p : Vec3) (a : Axis) : Bool := b.lo.get a ≤ p.get a && p.get a ≤ b.hi.get a

/-- The distance to a zone's face ahead on an axis, if the zone bounds it (R38). -/
def zoneFaceDistance (p : Vec3) (a : Axis) (up : Bool) (b : Box) : Option Int :=
  let o := otherAxes a
  if inRange b p o.1 && inRange b p o.2 then
    if up then (if p.get a < b.lo.get a then some (b.lo.get a - 1 - p.get a) else none)
    else (if b.hi.get a < p.get a then some (p.get a - b.hi.get a - 1) else none)
  else none

/-- The smallest distance to a face bounding the axis in the direction of motion (R38). -/
def Env.faceDistance (e : Env) (p : Vec3) (a : Axis) (up : Bool) : Int :=
  let wall := if up then e.shrunk.hi.get a - p.get a else p.get a - e.shrunk.lo.get a
  (e.keepOuts.filterMap fun zb => zoneFaceDistance p a up zb.2).foldl min wall

/-- The speed reduction of a soft wall at a distance: never more than Δv_e, never below isqrt(2·a_e·d) (R39). -/
def softenSpeed (ae ts : Nat) (d : Int) (v : Int) : Int :=
  let b := isqrt (2 * (1000 * ae) * d.toNat)
  if b < v.natAbs then withMagnitude v (max (v.natAbs - speedStep ae ts) b) else v

/-- The soft walls on one axis; an axis at rest is not braked (R38, R39). -/
def Env.softAxis (e : Env) (ts : Nat) (p vel : Vec3) (a : Axis) : Int :=
  let v := vel.get a
  if v = 0 then 0 else softenSpeed e.limits.ae ts (e.faceDistance p a (decide (0 < v))) v

/-- The soft walls on all three axes (R38, R39). -/
def Env.softWalls (e : Env) (ts : Nat) (p vel : Vec3) : Vec3 := Vec3.ofAxes (e.softAxis ts p vel)

/-! ## The hard clamp -/

/-- Pass 1: a candidate moved into the shrunk workspace (R40). -/
def clampIntoBox (b : Box) (c : Vec3) : Vec3 :=
  ⟨clampInt b.lo.x b.hi.x c.x, clampInt b.lo.y b.hi.y c.y, clampInt b.lo.z b.hi.z c.z⟩

/-- One axis of pass 2: the lattice point next to the face crossed from p (R40). -/
def pushAxis (lo hi p c : Int) : Int := if p < lo then lo - 1 else if hi < p then hi + 1 else c

/-- Pass 2 for one box: a candidate inside it is set back on the axes on which p lay outside its range (R40). -/
def pushOutOfBox (p : Vec3) (c : Vec3) (b : Box) : Vec3 :=
  if inBox b c then
    ⟨pushAxis b.lo.x b.hi.x p.x c.x, pushAxis b.lo.y b.hi.y p.y c.y, pushAxis b.lo.z b.hi.z p.z c.z⟩
  else c

/-- The hard clamp over a workspace box and the zone boxes in slot order (R40). -/
def clampWith (ws : Box) (zones : List Box) (p cand : Vec3) : Vec3 :=
  let c := zones.foldl (pushOutOfBox p) (clampIntoBox ws cand)
  if zones.any fun b => inBox b c then p else c

/-- The hard clamp on a candidate, with p the commanded position of the previous servo event (R40). -/
def Env.hardClamp (e : Env) (p cand : Vec3) : Vec3 := clampWith e.shrunk (e.keepOuts.map Prod.snd) p cand

/-- A velocity with the clamped axes at rest (R41). -/
def restClamped (cand clamped vel : Vec3) : Vec3 :=
  Vec3.ofAxes fun a => if clamped.get a = cand.get a then vel.get a else 0

/-- The largest per-axis absolute difference (00, Distances). -/
def chebyshev (p q : Vec3) : Nat := max (p.x - q.x).natAbs (max (p.y - q.y).natAbs (p.z - q.z).natAbs)

/-- Whether a position lies inside a marker, by exact squared distances (R130). -/
def insideMarker (m : MarkerSpec) (p : Vec3) : Bool := sqDist p (toMicrons m.point) ≤ (1000 * m.radius) ^ 2

end Sys2Proof.Machine
end

