-- ==== Sys2Proof/Machine/Wire.lean ====
section
/-! DEFINITION. The wire: the two checks, little-endian fields, the codes of states, flags, errors and notices, the bytes
of every record and drive frame, and the record each command stands for (R198, R214..R219). -/

namespace Sys2Proof.Machine

open Sys2Proof

/-! ## Checks and fields -/

/-- One step of the CRC-8: the register shifted left, XORed with 0x07 if the bit shifted out was 1 (R198). -/
def crc8Step (c : BitVec 8) : BitVec 8 := if c.msb then (c <<< 1) ^^^ 0x07#8 else c <<< 1

/-- The CRC-8 register after one more byte (R198). -/
def crc8Byte (c : BitVec 8) (b : Byte) : BitVec 8 := Nat.iterate crc8Step 8 (c ^^^ b)

/-- The header check: the CRC-8 from 0x00 (R198). -/
def headerCheck (bytes : List Byte) : Byte := bytes.foldl crc8Byte 0#8

/-- One step of the CRC-16 (R198). -/
def crc16Step (c : BitVec 16) : BitVec 16 := if c.msb then (c <<< 1) ^^^ 0x1021#16 else c <<< 1

/-- The CRC-16 register after one more byte, taken into its upper 8 bits (R198). -/
def crc16Byte (c : BitVec 16) (b : Byte) : BitVec 16 := Nat.iterate crc16Step 8 (c ^^^ (b.zeroExtend 16 <<< 8))

/-- The payload check: the CRC-16 from 0xFFFF (R198). -/
def payloadCheck (bytes : List Byte) : BitVec 16 := bytes.foldl crc16Byte 0xFFFF#16

/-- A natural in a field of so many bytes, little-endian; the field keeps its low bytes (R198). -/
def natField : Nat → Nat → List Byte
  | 0, _ => []
  | len + 1, v => BitVec.ofNat 8 v :: natField len (v / 256)

/-- A signed number in a field of so many bytes, little-endian, two's complement (R198). -/
def intField (len : Nat) (v : Int) : List Byte := natField len (v % (256 ^ len : Nat)).toNat

/-- The unsigned value of a little-endian field (R198). -/
def natOf : List Byte → Nat
  | [] => 0
  | b :: rest => b.toNat + 256 * natOf rest

/-- The signed value of a little-endian two's complement field (R198). -/
def intOf (bytes : List Byte) : Int :=
  let u := natOf bytes
  if 2 * u < 256 ^ bytes.length then (u : Int) else (u : Int) - (256 ^ bytes.length : Nat)

/-- The unsigned field of so many bytes at an offset of a payload. -/
def unsignedAt (payload : List Byte) (offset len : Nat) : Nat := natOf ((payload.drop offset).take len)

/-- The signed field of so many bytes at an offset of a payload. -/
def signedAt (payload : List Byte) (offset len : Nat) : Int := intOf ((payload.drop offset).take len)

/-- Three signed fields of so many bytes each, x then y then z. -/
def vecAt (payload : List Byte) (offset len : Nat) : Vec3 :=
  ⟨signedAt payload offset len, signedAt payload (offset + len) len, signedAt payload (offset + 2 * len) len⟩

/-- A minimum then a maximum, 4 bytes a coordinate. -/
def boxAt (payload : List Byte) (offset : Nat) : Box := ⟨vecAt payload offset 4, vecAt payload (offset + 12) 4⟩

/-- Three coordinates, 4 bytes each, signed. -/
def vecField (v : Vec3) : List Byte := intField 4 v.x ++ intField 4 v.y ++ intField 4 v.z

/-- A box as it is sent: minimum then maximum. -/
def boxField (b : Box) : List Byte := vecField b.lo ++ vecField b.hi

/-- A flag byte: 0 for no, 1 for yes (R215). -/
def boolField (b : Bool) : List Byte := [if b then 1#8 else 0#8]

/-! ## Codes -/

/-- The flight state codes (R42). -/
def FlightState.code : FlightState → Byte
  | .parked => 0
  | .arming => 1
  | .hold => 2
  | .track => 3
  | .stick => 4
  | .stream => 5
  | .stopping => 6
  | .parking => 7
  | .tripped => 8

/-- The stop cause codes (R45). -/
def StopCause.code : StopCause → Byte
  | .noCause => 0x00
  | .armed => 0x01
  | .holdRequest => 0x02
  | .safetyHold => 0x03
  | .stickDropped => 0x04
  | .queueDrained => 0x05
  | .cueReached => 0x06
  | .stepDone => 0x07
  | .markerHold => 0x08
  | .pathRejected => 0x09
  | .zoneStop => 0x0A
  | .wallStrike => 0x0B
  | .streamEnded => 0x0C
  | .streamUnderrun => 0x0D
  | .streamLag => 0x0E
  | .trip => 0x0F

/-- The pose origin codes (R217). -/
def PoseOrigin.code : PoseOrigin → Byte
  | .unset => 0
  | .park => 1
  | .trip => 2
  | .reference => 3
  | .declare => 4

/-- The reference state codes (R138). -/
def RefState.code : RefState → Byte
  | .freeRun => 0
  | .acquiring => 1
  | .pulling => 2
  | .locked => 3

/-- The channel state codes (R168). -/
def ChanState.code : ChanState → Byte
  | .absent => 0
  | .ready => 1
  | .releasing => 2
  | .streaming => 3
  | .braking => 4
  | .setting => 5
  | .faulted => 6

/-- The stream state codes (R105). -/
def StreamState.code : StreamState → Byte
  | .idle => 0
  | .primed => 1
  | .playing => 2
  | .ending => 3

/-- The move phase codes; a move abandoned by a ZONE_STOP reads as NONE (R69, R217). -/
def phaseCode : Option Phase → Byte
  | none => 0
  | some .moving => 1
  | some .dwelling => 2
  | some .suspended => 3
  | some .abandoned => 0

/-- The seat codes (R198). -/
def seatCode (s : Seat) : Byte := BitVec.ofNat 8 (seatIndex s).val

/-- A seat of a trip record, 0xFF when absent (R216). -/
def optSeatCode : Option Seat → Byte
  | some s => seatCode s
  | none => 0xFF

/-- The flag numbers (R182). -/
def Flag.number : Flag → Fin 19
  | .wallStrike => 0
  | .zoneStop => 1
  | .pathRejected => 2
  | .referenceLost => 3
  | .stickTimeout => 4
  | .streamUnderrun => 5
  | .streamOverflow => 6
  | .streamLag => 7
  | .tensionWarn => 8
  | .armTimeout => 9
  | .settingTimeout => 10
  | .feedbackErrors => 11
  | .slack => 12
  | .overtension => 13
  | .following => 14
  | .channelLost => 15
  | .driveFault => 16
  | .estop => 17
  | .operatorTrip => 18

/-- The error codes (R219). -/
def ErrorCode.code : ErrorCode → Byte
  | .badLength => 0x01
  | .wrongState => 0x02
  | .notPermitted => 0x03
  | .seatClosed => 0x04
  | .badValue => 0x05
  | .busy => 0x06
  | .queueFull => 0x07
  | .queueEmpty => 0x08
  | .outOfWorkspace => 0x09
  | .targetBlocked => 0x0A
  | .pathBlocked => 0x0B
  | .zoneOccupied => 0x0C
  | .locked => 0x0D
  | .noSuchZone => 0x0E
  | .noConsent => 0x0F
  | .faultPresent => 0x10
  | .noWorkspace => 0x11
  | .channelNotReady => 0x12
  | .notReferenced => 0x13
  | .poseBlocked => 0x14
  | .poseMismatch => 0x15
  | .homeBlocked => 0x16
  | .lateStart => 0x17
  | .noSuchMarker => 0x18

/-- The notice codes (R219). -/
def NoticeCode.code : NoticeCode → Byte
  | .moveBegun => 0x01
  | .moveDone => 0x02
  | .cueReached => 0x03
  | .queueDrained => 0x04
  | .markerEntered => 0x05
  | .armed => 0x06
  | .armFailed => 0x07
  | .parked => 0x08
  | .holding => 0x09
  | .streamPlaying => 0x0A
  | .streamEnded => 0x0B
  | .referenceDone => 0x0C
  | .referenceFailed => 0x0D
  | .saveDone => 0x0E
  | .wallStrike => 0x10
  | .zoneStop => 0x11
  | .pathRejected => 0x12
  | .referenceLocked => 0x20
  | .referenceLost => 0x21
  | .stickTimeout => 0x22
  | .streamLow => 0x23
  | .streamCritical => 0x24
  | .streamHigh => 0x25
  | .streamUnderrun => 0x26
  | .streamOverflow => 0x27
  | .streamGap => 0x28
  | .streamLag => 0x29
  | .joinRefused => 0x2A
  | .tensionWarn => 0x30
  | .armTimeout => 0x31
  | .settingTimeout => 0x32
  | .feedbackErrors => 0x33
  | .drivePresent => 0x34
  | .driveAbsent => 0x35

/-- The category of a notice code, from its upper four bits (R219). -/
def NoticeCode.category (n : NoticeCode) : Category :=
  match n.code.toNat / 16 with
  | 0 => .cue
  | 1 => .envelope
  | 2 => .timing
  | _ => .channel

/-- The drive states an answer may carry; 4..15 are unknown (R218). -/
def driveStateOf (code : Nat) : Option DriveState :=
  if code = 0 then some .starting
  else if code = 1 then some .braked
  else if code = 2 then some .released
  else if code = 3 then some .faulted
  else none

/-! ## Payloads of the part's records -/

/-- The limits in the order of the SET_LIMITS payload (R215). -/
def limitsField (l : Limits) : List Byte :=
  natField 2 l.margin ++ natField 2 l.vmax ++ natField 2 l.caution ++ natField 2 l.ae ++ natField 2 l.amove ++
    natField 2 l.amoveMax ++ natField 2 l.vstick ++ natField 2 l.astick ++ natField 2 l.stickTimeout ++
    natField 2 l.astream ++ natField 2 l.lagLimit ++ natField 2 l.joinTol ++ natField 1 l.lowWater ++ natField 2 l.poseTol

/-- An anchor record after its winch byte (R215). -/
def anchorField (a : Anchor) : List Byte :=
  vecField a.a ++ vecField a.b ++ intField 4 a.run ++ intField 4 a.lmin ++ intField 4 a.lmax

/-- A channel's limits after the winch byte (R215). -/
def channelLimitsField (l : ChannelLimits) : List Byte :=
  natField 2 l.tmin ++ natField 2 l.twarnLo ++ natField 2 l.twarnHi ++ natField 2 l.tmax ++ natField 2 l.following

/-- The fault flags as one number: bit n for flag number n (R217). -/
def flagBits (flags : List FlagEntry) : Nat :=
  flags.foldr (fun e acc => (if e.set then 1 else 0) + 2 * acc) 0

/-- The STATE payload, 118 bytes (R217). -/
def StateReport.payload (r : StateReport) : List Byte :=
  [r.flight.code, r.cause.code] ++ natField 1 r.queueCount ++ natField 2 r.moveId ++ [phaseCode r.phase] ++
    [r.streamState.code] ++ natField 1 r.occupancy ++ natField 2 r.expected.toNat ++ [r.ref.code] ++ natField 4 r.frames ++
    (r.chanStates.toList.map ChanState.code) ++ (r.badFrames.toList.flatMap (natField 2)) ++
    natField 4 (flagBits r.flags.toList) ++ (r.flags.toList.flatMap fun e => natField 1 e.count) ++
    (r.flags.toList.flatMap fun e => natField 1 e.channel) ++
    [match r.trip.cause with | some f => BitVec.ofNat 8 f.number.val | none => 0xFF] ++ natField 1 r.trip.channel ++
    [optSeatCode r.trip.seat] ++ [r.trip.left.code] ++ vecField r.trip.pos ++ natField 4 r.trip.frames ++
    boolField r.line ++ boolField r.consent ++ boolField r.permit ++ boolField r.defaulted ++ boolField r.boxValid ++
    boolField r.poseValid ++ [r.poseOrigin.code] ++
    ([r.counters.dropped, r.counters.headerCheck, r.counters.length, r.counters.payloadCheck, r.counters.gap,
      r.counters.byteError, r.counters.ignored, r.counters.overrun, r.stickDiscards, r.streamDiscards,
      r.streamGaps].flatMap (natField 2))

/-- The POSE and FRAME_POSE payload, 42 bytes (R216). -/
def Snapshot.payload (p : Snapshot) : List Byte :=
  natField 4 p.frames ++ vecField p.pos ++ p.lengths.toList.flatMap (natField 4) ++
    p.tensions.toList.flatMap (natField 2) ++ natField 1 (winchBits p.stale) ++ [p.ref.code]

/-- The ZONE_INFO payload, 32 bytes; the lock code is not reported (R23, R216). -/
def zoneInfoPayload (slot : Nat) : Option Zone → List Byte
  | none => natField 1 slot ++ [1#8] ++ List.replicate 30 0#8
  | some z =>
    natField 1 slot ++ [0#8] ++ [match z.kind with | .keepOut => 0#8 | .slow _ => 1#8] ++ boolField z.active ++
      boxField z.box ++ natField 2 (match z.kind with | .keepOut => 0 | .slow cap => cap) ++ [seatCode z.owner] ++
      boolField (z.lock ≠ 0)

/-- The SETTINGS_INFO payload, 253 bytes (R216). -/
def SettingsReport.payload (r : SettingsReport) : List Byte :=
  r.anchors.toList.flatMap anchorField ++ vecField r.home ++ boolField r.homeValid ++ boxField r.box ++
    boolField r.boxValid ++ limitsField r.limits ++ natField 2 r.timing.ts ++ natField 1 r.timing.n ++
    r.chLimits.toList.flatMap channelLimitsField ++ boolField r.defaulted

/-- The MARKER_INFO payload, 20 bytes (R216). -/
def markerInfoPayload (number : Nat) (m : Option Marker) (holdPending : Bool) : List Byte :=
  match m with
  | none => natField 1 number ++ [1#8] ++ boolField holdPending ++ List.replicate 17 0#8
  | some m =>
    natField 1 number ++ [0#8] ++ boolField holdPending ++ vecField m.spec.point ++ natField 2 m.spec.radius ++
      boolField m.spec.holdAtEnd ++ boolField m.spec.armed ++ boolField m.inside

/-- The type of each record the part sends (R214, R216). -/
def Message.type : Message → BitVec 6
  | .ack .. => 0x01
  | .errorReport .. => 0x02
  | .notice .. => 0x03
  | .state _ => 0x30
  | .pose _ => 0x31
  | .zoneInfo .. => 0x32
  | .settingsInfo _ => 0x33
  | .moveNotice .. => 0x34
  | .framePose _ => 0x35
  | .tripNotice .. => 0x36
  | .markerInfo .. => 0x37

/-- The data bytes or payload of each record the part sends (R214, R216). -/
def Message.body : Message → List Byte
  | .ack answered detail => [answered.zeroExtend 8, detail]
  | .errorReport code detail => [code.code, detail]
  | .notice code detail => [code.code, detail]
  | .state r => r.payload
  | .pose p => p.payload
  | .zoneInfo slot z => zoneInfoPayload slot z
  | .settingsInfo r => r.payload
  | .moveNotice code id origin target count =>
    [code.code] ++ natField 2 id ++ [seatCode origin] ++ vecField target ++ natField 1 count
  | .framePose p => p.payload
  | .tripNotice flag first channel seat left pos frames =>
    [BitVec.ofNat 8 flag.number.val] ++ boolField first ++ natField 1 channel ++ [optSeatCode seat] ++ [left.code] ++
      vecField pos ++ natField 4 frames
  | .markerInfo number m hp => markerInfoPayload number m hp

/-! ## Records on the wire -/

/-- The lead byte (R198). -/
def leadByte : Byte := 0xD5

/-- Byte 1 of a record: the seat in its top two bits, the type in its low six (R198). -/
def seatTypeByte (seat : Seat) (type : BitVec 6) : Byte := BitVec.ofNat 8 (64 * (seatIndex seat).val + type.toNat)

/-- The seat that a byte 1 carries (R198). -/
def seatOfByte (b : Byte) : Seat :=
  match b.toNat / 64 with
  | 0 => .pilot
  | 1 => .safety
  | 2 => .director
  | _ => .service

/-- The type that a byte 1 carries (R198). -/
def typeOfByte (b : Byte) : BitVec 6 := BitVec.ofNat 6 b.toNat

/-- The bytes of a record on the wire, short or long (R198). -/
def wireBytes (seat : Seat) (type : BitVec 6) (body : List Byte) : List Byte :=
  let b1 := seatTypeByte seat type
  if type.toNat < 0x20 then
    [leadByte, b1] ++ body ++ [headerCheck (b1 :: body)]
  else
    let len := natField 2 body.length
    [leadByte, b1] ++ len ++ [headerCheck (b1 :: len)] ++ body ++ natField 2 (payloadCheck body).toNat

/-- The bytes of a record of the transmit queue (R198, R205). -/
def TxRecord.wire (t : TxRecord) : List Byte := wireBytes t.seat t.msg.type t.msg.body

/-! ## Drive frames -/

/-- The kind codes of the part's drive frames (R218). -/
def FrameKind.code : FrameKind → Nat
  | .poll => 1
  | .setpoint _ => 2
  | .release => 3
  | .brake => 4
  | .setLength _ => 5
  | .restart => 6

/-- The bytes of a part-to-drive frame (R218). -/
def DriveFrame.wire (f : DriveFrame) : List Byte :=
  let head := BitVec.ofNat 8 (16 * f.kind.code + f.seq.toNat) ::
    (match f.kind with
      | .setpoint l => natField 4 l
      | .setLength l => natField 4 l
      | _ => [])
  head ++ natField 2 (payloadCheck head).toNat

/-- A drive's answer as read from its bytes (R218). -/
structure AnswerFields where
  drive : DriveState
  echo : BitVec 4
  lengthValid : Bool
  length : Nat
  tension : Nat
deriving DecidableEq, Repr

/-- The fields of an ANSWER frame, or none for another length, a bad check or an unknown drive state (R218). -/
def answerOf (bytes : List Byte) : Option AnswerFields :=
  if bytes.length = 10 ∧ unsignedAt bytes 8 2 = (payloadCheck (bytes.take 8)).toNat then
    let b0 := unsignedAt bytes 0 1
    match driveStateOf (b0 / 16) with
    | some d =>
      some
        { drive := d, echo := BitVec.ofNat 4 b0, lengthValid := unsignedAt bytes 1 1 % 2 = 1,
          length := unsignedAt bytes 2 4, tension := unsignedAt bytes 6 2 }
    | none => none
  else none

/-- The bytes of an ANSWER frame that carries these fields (R218). -/
def answerBytes (a : AnswerFields) : List Byte :=
  let code := match a.drive with
    | .starting => 0
    | .braked => 1
    | .released => 2
    | .faulted => 3
  let head := BitVec.ofNat 8 (16 * code + a.echo.toNat) :: boolField a.lengthValid ++ natField 4 a.length ++
    natField 2 a.tension
  head ++ natField 2 (payloadCheck head).toNat

end Sys2Proof.Machine
end

