-- ==== Sys2Proof/Machine/Operands.lean ====
section
/-! DEFINITION. What a record's operands are: LINK's permission table (R203), the fields of each payload (R215) with their
legal ranges, and the record a command stands for. -/

namespace Sys2Proof.Machine

open Sys2Proof

/-! ## The permission table -/

/-- The seats listed for a console-to-part type (R203). -/
def allowedSeats (type : BitVec 6) : List Seat :=
  match type.toNat with
  | 0x08 => allSeats
  | 0x09 => [.pilot]
  | 0x0A => [.pilot, .safety]
  | 0x0B => [.pilot, .safety, .director]
  | 0x0C => [.pilot]
  | 0x0D => [.pilot]
  | 0x0E => [.pilot]
  | 0x0F => [.pilot]
  | 0x10 => [.pilot, .safety]
  | 0x11 => [.safety]
  | 0x12 => [.safety]
  | 0x13 => [.safety]
  | 0x14 => [.pilot, .safety, .director]
  | 0x15 => [.director]
  | 0x16 => allSeats
  | 0x17 => allSeats
  | 0x18 => allSeats
  | 0x19 => allSeats
  | 0x1A => [.pilot, .director]
  | 0x1B => [.service]
  | 0x1C => [.service]
  | 0x1D => [.service]
  | 0x1E => [.service]
  | 0x1F => allSeats
  | 0x21 => [.pilot, .director]
  | 0x22 => [.director]
  | 0x24 => [.pilot, .safety, .director]
  | 0x25 => [.pilot, .safety, .director]
  | 0x26 => [.pilot, .safety, .director]
  | 0x27 => [.pilot, .director]
  | 0x28 => [.service]
  | 0x29 => [.service]
  | 0x2A => [.service]
  | 0x2B => [.service]
  | 0x2C => [.service]
  | 0x2D => [.service]
  | 0x2E => [.service]
  | _ => []

/-- The payload lengths listed for a long console-to-part type (R203). -/
def allowedLengths (type : BitVec 6) : List Nat :=
  match type.toNat with
  | 0x21 => [17, 19, 21]
  | 0x22 => [6]
  | 0x24 => [33]
  | 0x25 => [4]
  | 0x26 => [3]
  | 0x27 => [17]
  | 0x28 => [37]
  | 0x29 => [24]
  | 0x2A => [27]
  | 0x2B => [11]
  | 0x2C => [3]
  | 0x2D => [12]
  | 0x2E => [12]
  | _ => []

/-- The first of LINK's three checks that refuses a record, if any (R203). -/
def linkCheck (seat : Seat) (type : BitVec 6) (body : List Byte) (permit : Bool) : Option ErrorCode :=
  if seat = .service ∧ permit = false then some .seatClosed
  else if seat ∉ allowedSeats type then some .notPermitted
  else if 0x20 ≤ type.toNat ∧ body.length ∉ allowedLengths type then some .badLength
  else none

/-! ## Ranges -/

/-- The position ranges of R1, in mm. -/
def legalPositionMm (p : Vec3) : Bool :=
  decide (p.x.natAbs ≤ 300000) && decide (p.y.natAbs ≤ 300000) && decide (-10000 ≤ p.z) && decide (p.z ≤ 150000)

/-- The legal internal positions of R1, in µm. -/
def legalPosition (p : Vec3) : Bool :=
  decide (p.x.natAbs ≤ 300000000) && decide (p.y.natAbs ≤ 300000000) && decide (-10000000 ≤ p.z) && decide (p.z ≤ 150000000)

/-- The ranges of an anchor record (R4). -/
def legalAnchor (a : Anchor) : Bool :=
  decide (a.a.x.natAbs ≤ 300000) && decide (a.a.y.natAbs ≤ 300000) && decide (0 ≤ a.a.z) && decide (a.a.z ≤ 150000) &&
    decide (a.b.x.natAbs ≤ 5000) && decide (a.b.y.natAbs ≤ 5000) && decide (a.b.z.natAbs ≤ 5000) &&
    decide (0 ≤ a.run) && decide (a.run ≤ 500000) && decide (0 ≤ a.lmin) && decide (a.lmin ≤ 1499999) &&
    decide (1 ≤ a.lmax) && decide (a.lmax ≤ 1500000) && decide (a.lmin < a.lmax)

/-- A number in a range, both ends included. -/
def within (lo hi n : Nat) : Bool := lo ≤ n && n ≤ hi

/-- The ranges and relations of the SET_LIMITS fields (R20, R67, R95, R108, R51). -/
def legalLimits (l : Limits) : Bool :=
  within 0 5000 l.margin && within 100 12000 l.vmax && within 100 12000 l.caution && l.caution ≤ l.vmax &&
    within 500 10000 l.ae && l.amove ≤ l.ae && l.amoveMax ≤ l.ae && within 100 10000 l.amove &&
    within 100 10000 l.amoveMax && l.amove ≤ l.amoveMax && within 100 12000 l.vstick && within 100 10000 l.astick &&
    l.astick ≤ l.ae && within 50 1000 l.stickTimeout && within 100 10000 l.astream && l.astream ≤ l.ae &&
    within 50 5000 l.lagLimit && within 1 1000 l.joinTol && l.joinTol ≤ l.lagLimit && within 4 48 l.lowWater &&
    within 1 200 l.poseTol

/-- The ranges and the order of a channel's limits (R169). -/
def legalChannelLimits (l : ChannelLimits) : Bool :=
  l.tmin < l.twarnLo && l.twarnLo < l.twarnHi && l.twarnHi < l.tmax && l.tmax ≤ 65535 && within 5 1000 l.following

/-- The ranges of Ts and N, and the bound on the frame period (R137). -/
def legalTiming (t : Timing) : Bool := within 1000 4000 t.ts && within 4 40 t.n && t.n * t.ts ≤ 100000

/-- The bounds of a zone or workspace box, each in the position ranges of R1, a minimum below its maximum (R12, R22). -/
def legalBox (b : Box) : Bool := legalPositionMm b.lo && legalPositionMm b.hi && boxOrdered b

/-- Whether every extent of a box in mm is greater than twice a margin (R12, R20). -/
def extentsExceed (b : Box) (margin : Nat) : Bool :=
  decide (2 * (margin : Int) < b.hi.x - b.lo.x) && decide (2 * (margin : Int) < b.hi.y - b.lo.y) &&
    decide (2 * (margin : Int) < b.hi.z - b.lo.z)

/-- A byte that must be 0 for no or 1 for yes (R215). -/
def flagByte (n : Nat) : Option Bool := if n = 0 then some false else if n = 1 then some true else none

/-! ## Payloads (R215) -/

/-- The anchor record of a SET_ANCHOR payload. -/
def anchorOf (p : List Byte) : Anchor :=
  ⟨vecAt p 1 4, vecAt p 13 4, unsignedAt p 25 4, unsignedAt p 29 4, unsignedAt p 33 4⟩

/-- The limits of a SET_LIMITS payload. -/
def limitsOf (p : List Byte) : Limits where
  margin := unsignedAt p 0 2
  vmax := unsignedAt p 2 2
  caution := unsignedAt p 4 2
  ae := unsignedAt p 6 2
  amove := unsignedAt p 8 2
  amoveMax := unsignedAt p 10 2
  vstick := unsignedAt p 12 2
  astick := unsignedAt p 14 2
  stickTimeout := unsignedAt p 16 2
  astream := unsignedAt p 18 2
  lagLimit := unsignedAt p 20 2
  joinTol := unsignedAt p 22 2
  lowWater := unsignedAt p 24 1
  poseTol := unsignedAt p 25 2

/-- The limits of a SET_CHANNEL_LIMITS payload. -/
def channelLimitsOf (p : List Byte) : ChannelLimits :=
  ⟨unsignedAt p 1 2, unsignedAt p 3 2, unsignedAt p 5 2, unsignedAt p 7 2, unsignedAt p 9 2⟩

/-- The zone of a ZONE_PUT payload with its sender as owner, or none when a field is out of its set or range (R25,
check 2). For a KEEP_OUT zone the speed cap is carried but not examined. -/
def zoneOf (p : List Byte) (vmax : Nat) (owner : Seat) : Option Zone :=
  let box := boxAt p 5
  let cap := unsignedAt p 29 2
  let kind : Option ZoneKind :=
    if unsignedAt p 3 1 = 0 then some .keepOut
    else if unsignedAt p 3 1 = 1 then (if within 100 vmax cap then some (.slow cap) else none)
    else none
  match kind, flagByte (unsignedAt p 4 1) with
  | some k, some active => if legalBox box then some ⟨k, active, box, unsignedAt p 31 2, owner⟩ else none
  | _, _ => none

/-- The marker record of a MARKER_SET payload, or none when a field is out of its set or range (R127). -/
def markerOf (p : List Byte) : Option MarkerSpec :=
  let point := vecAt p 1 4
  let radius := unsignedAt p 13 2
  match flagByte (unsignedAt p 15 1), flagByte (unsignedAt p 16 1) with
  | some action, some armed =>
    if legalPositionMm point && within 100 20000 radius then some ⟨point, radius, action, armed⟩ else none
  | _, _ => none

/-- The flags byte of an APPEND_MOVE payload (R215). -/
def moveFlags (p : List Byte) : Nat := unsignedAt p 16 1

/-- Whether a flags byte has a bit set. -/
def flagBit (flags bit : Nat) : Bool := flags / 2 ^ bit % 2 = 1

/-- The length an APPEND_MOVE payload must have by its has-accel and has-dwell flags (R65). -/
def moveLength (p : List Byte) : Nat :=
  17 + (if flagBit (moveFlags p) 3 then 2 else 0) + (if flagBit (moveFlags p) 4 then 2 else 0)

/-- The move record of an APPEND_MOVE payload, its sender as origin seat (R65); accel comes before dwell. -/
def moveOf (p : List Byte) (origin : Seat) : Move :=
  let f := moveFlags p
  { id := unsignedAt p 0 2, target := vecAt p 2 4, cruise := unsignedAt p 14 2, tagged := flagBit f 0,
    notifyBegin := flagBit f 1, notifyDone := flagBit f 2,
    accel := if flagBit f 3 then some (unsignedAt p 17 2) else none,
    dwell := if flagBit f 4 then some (unsignedAt p (if flagBit f 3 then 19 else 17) 2) else none, origin := origin }

/-- The ranges of a move record: target, cruise speed, flags bits, accel and dwell (R65). -/
def legalMove (p : List Byte) (m : Move) : Bool :=
  legalPositionMm m.target && decide (1 ≤ m.cruise) && decide (moveFlags p < 32) &&
    (match m.accel with | some a => decide (100 ≤ a) | none => true) &&
    (match m.dwell with | some d => decide (d ≤ 60000) | none => true)

/-- The number of samples a STREAM_DATA payload carries, by its length; none when the length is not one of the eight
(R110). -/
def sampleCount (p : List Byte) : Option Nat :=
  let k := (p.length - 2) / 12
  if p.length = 2 + 12 * k ∧ 1 ≤ k ∧ k ≤ 8 then some k else none

/-- The positions of a STREAM_DATA payload of k samples, in record order, in µm (R110). -/
def samplesOf (p : List Byte) (k : Nat) : List Vec3 := (List.range k).map fun i => vecAt p (2 + 12 * i) 4

/-- A deflection clamped into −1000..+1000 per mille (R93). -/
def clampDeflection (q : Vec3) : Vec3 := ⟨clampInt (-1000) 1000 q.x, clampInt (-1000) 1000 q.y, clampInt (-1000) 1000 q.z⟩

/-- The mask of a SUBSCRIBE data byte, or none when any of bits 5..7 is set (R207). -/
def maskOf (b : Byte) : Option Mask :=
  if b.toNat < 32 then
    some ⟨flagBit b.toNat 0, flagBit b.toNat 1, flagBit b.toNat 2, flagBit b.toNat 3, flagBit b.toNat 4⟩
  else none

/-! ## Commands and records -/

/-- The record a command stands for: the decode of it, when the command is one of the rows that decode a record. -/
def recordOf : Instr → Option Record
  | .ignoredRecord seat type body => some ⟨seat, type, body⟩
  | .queryState seat d0 d1 => some ⟨seat, 0x08, [d0, d1]⟩
  | .arm seat d0 d1 => some ⟨seat, 0x09, [d0, d1]⟩
  | .park seat d0 d1 => some ⟨seat, 0x0A, [d0, d1]⟩
  | .hold seat d0 d1 => some ⟨seat, 0x0B, [d0, d1]⟩
  | .resume seat d0 d1 => some ⟨seat, 0x0C, [d0, d1]⟩
  | .step seat d0 d1 => some ⟨seat, 0x0D, [d0, d1]⟩
  | .takeStick seat d0 d1 => some ⟨seat, 0x0E, [d0, d1]⟩
  | .dropStick seat d0 d1 => some ⟨seat, 0x0F, [d0, d1]⟩
  | .trip seat d0 d1 => some ⟨seat, 0x10, [d0, d1]⟩
  | .clearFaults seat d0 d1 => some ⟨seat, 0x11, [d0, d1]⟩
  | .consent seat d0 d1 => some ⟨seat, 0x12, [d0, d1]⟩
  | .servicePermit seat d0 d1 => some ⟨seat, 0x13, [d0, d1]⟩
  | .flushMoves seat d0 d1 => some ⟨seat, 0x14, [d0, d1]⟩
  | .streamEnd seat d0 d1 => some ⟨seat, 0x15, [d0, d1]⟩
  | .readPose seat d0 d1 => some ⟨seat, 0x16, [d0, d1]⟩
  | .subscribe seat d0 d1 => some ⟨seat, 0x17, [d0, d1]⟩
  | .zoneRead seat d0 d1 => some ⟨seat, 0x18, [d0, d1]⟩
  | .markerRead seat d0 d1 => some ⟨seat, 0x19, [d0, d1]⟩
  | .markerClear seat d0 d1 => some ⟨seat, 0x1A, [d0, d1]⟩
  | .reference seat d0 d1 => some ⟨seat, 0x1B, [d0, d1]⟩
  | .restartDrive seat d0 d1 => some ⟨seat, 0x1C, [d0, d1]⟩
  | .saveSettings seat d0 d1 => some ⟨seat, 0x1D, [d0, d1]⟩
  | .resetPart seat d0 d1 => some ⟨seat, 0x1E, [d0, d1]⟩
  | .readSettings seat d0 d1 => some ⟨seat, 0x1F, [d0, d1]⟩
  | .stick seat p => some ⟨seat, 0x20, p⟩
  | .appendMove seat p => some ⟨seat, 0x21, p⟩
  | .streamStart seat p => some ⟨seat, 0x22, p⟩
  | .streamData seat p => some ⟨seat, 0x23, p⟩
  | .zonePut seat p => some ⟨seat, 0x24, p⟩
  | .zoneSet seat p => some ⟨seat, 0x25, p⟩
  | .zoneRemove seat p => some ⟨seat, 0x26, p⟩
  | .markerSet seat p => some ⟨seat, 0x27, p⟩
  | .setAnchor seat p => some ⟨seat, 0x28, p⟩
  | .setWorkspace seat p => some ⟨seat, 0x29, p⟩
  | .setLimits seat p => some ⟨seat, 0x2A, p⟩
  | .setChannelLimits seat p => some ⟨seat, 0x2B, p⟩
  | .setTiming seat p => some ⟨seat, 0x2C, p⟩
  | .declarePose seat p => some ⟨seat, 0x2D, p⟩
  | .setHome seat p => some ⟨seat, 0x2E, p⟩
  | _ => none

end Sys2Proof.Machine
end

