-- ==== Sys2Proof/Machine/Ops.lean ====
section
/-! DEFINITION. The shared operations over the part's state: LINK's queues and the decode of a record (R201..R206), the
commanded position (R43), entries into HOLD, the queue and stream operations other rules call, the requests to the
channels (R168) and the retained-pose write (R48). -/

namespace Sys2Proof.Machine

open Sys2Proof

/-! ## LINK: replies and notices -/

/-- The most records the transmit queue holds (R205). -/
def txCapacity : Nat := 64

/-- The count of queued records from which a notice copy is dropped (R206). -/
def noticeCapacity : Nat := 48

/-- The most records the decode queue holds (R201). -/
def decodeCapacity : Nat := 8

/-- A reply enters the transmit queue, on the seat the command came from (R204, R205). -/
def reply (seat : Seat) (msg : Message) (s : State) : State :=
  s.onLink fun l => { l with tx := l.tx ++ [⟨seat, msg⟩] }

/-- An ACK with a detail byte (R204). -/
def ack (seat : Seat) (type : BitVec 6) (detail : Nat) (s : State) : State :=
  reply seat (.ack type (BitVec.ofNat 8 detail)) s

/-- An ERROR_REPORT with a detail byte (R204). -/
def refuse (seat : Seat) (code : ErrorCode) (detail : Nat) (s : State) : State :=
  reply seat (.errorReport code (BitVec.ofNat 8 detail)) s

/-- A block hands LINK a notice (R206). -/
def handOver (audience : Audience) (msg : Message) (s : State) : State :=
  s.onLink fun l => { l with handed := l.handed ++ [⟨audience, msg⟩] }

/-- A NOTICE record, in the category its code gives (R219). -/
def notice (code : NoticeCode) (detail : Nat) (s : State) : State :=
  handOver (.subscribers code.category) (.notice code (BitVec.ofNat 8 detail)) s

/-- A MOVE_NOTICE about a move, with the queue count as it stands (R88). -/
def moveNotice (code : NoticeCode) (m : Move) (s : State) : State :=
  handOver (.subscribers code.category) (.moveNotice code m.id m.origin m.target s.pln.queue.length) s

/-- Whether a mask includes a category (R207). -/
def Mask.includes (m : Mask) : Category → Bool
  | .cue => m.cue
  | .envelope => m.envelope
  | .timing => m.timing
  | .channel => m.channel

/-- Whether a notice is copied to a seat (R206). -/
def wanted (masks : Quad Mask) (audience : Audience) (seat : Seat) : Bool :=
  match audience with
  | .subscribers c => (masks.get (seatIndex seat)).includes c
  | .framePose => (masks.get (seatIndex seat)).framePose
  | .everySeat => true

/-- One copy of a notice: it enters the queue when it finds fewer than 48 records, and is dropped and counted
otherwise (R206). -/
def copyTo (msg : Message) (l : Link) (seat : Seat) : Link :=
  if l.tx.length < noticeCapacity then { l with tx := l.tx ++ [⟨seat, msg⟩] }
  else { l with counters := { l.counters with dropped := satSucc cap16 l.counters.dropped } }

/-- The copies of one notice, made in seat order (R206). -/
def copyNotice (l : Link) (h : Handed) : Link :=
  (allSeats.filter (wanted l.masks h.audience)).foldl (copyTo h.msg) l

/-- LINK makes the copies of every notice handed to it in this step, in the order they were handed. -/
def deliver (s : State) : State :=
  s.onLink fun l => { l.handed.foldl copyNotice l with handed := [] }

/-- The end of every command: the copies are made and the state is the next one. -/
def done (s : State) : Host.Outcome State Fault Refusal := .next (deliver s)

/-! ## LINK: decoding -/

/-- A completed record enters the decode queue, or is discarded and counted when the queue holds 8 (R201). -/
def completeRecord (r : Record) (l : Link) : Link :=
  if l.decodeQueue.length < decodeCapacity then { l with decodeQueue := l.decodeQueue ++ [r] }
  else { l with counters := { l.counters with overrun := satSucc cap16 l.counters.overrun } }

/-- A record that cannot be decoded now: it waits in the decode queue, which it enters unless it stands there (log 1). -/
def awaitDecode (r : Record) (s : State) : State :=
  if r ∈ s.link.decodeQueue then s else s.onLink (completeRecord r)

/-- The decode of one record: LINK decodes the oldest of the decode queue while the transmit queue holds fewer than 64
records (R201), and nothing once a RESET_PART is taken (R213). On an empty decode queue the command stands for the
record's receipt and its decode together (log 1). -/
def decodeRecord (r : Record) (act : State → State) (s : State) : State :=
  if s.link.resetPhase ≠ .running then s
  else if txCapacity ≤ s.link.tx.length then awaitDecode r s
  else match s.link.decodeQueue with
    | [] => act s
    | head :: rest =>
      if head = r then act (s.onLink fun l => { l with decodeQueue := rest }) else awaitDecode r s

/-- The decode of a console-to-part record other than STICK and STREAM_DATA: LINK's checks, then the owner (R203). -/
def decodeCommand (type : BitVec 6) (seat : Seat) (body : List Byte) (owner : State → State) (s : State) : State :=
  decodeRecord ⟨seat, type, body⟩
    (fun s => match linkCheck seat type body s.fcu.permit with
      | some code => refuse seat code type.toNat s
      | none => owner s) s

/-- The first failing check of an owner's list, with its detail. -/
def firstError : List (Bool × ErrorCode × Nat) → Option (ErrorCode × Nat)
  | [] => none
  | (fails, code, detail) :: rest => if fails then some (code, detail) else firstError rest

/-- An owner's answer: the first check that fails refuses the record and changes nothing else; otherwise ACK with
detail 0, and then what the record does. -/
def answer (seat : Seat) (type : BitVec 6) (checks : List (Bool × ErrorCode × Nat)) (take : State → State) (s : State) :
    State :=
  match firstError checks with
  | some (code, detail) => refuse seat code detail s
  | none => take (ack seat type 0 s)

/-! ## Commanded position and HOLD -/

/-- The present commanded position, by flight state (R43). -/
def commandedPosition (s : State) : Vec3 :=
  match s.fcu.flight with
  | .parked => s.fcu.pose.pos
  | .parking => s.pln.holdPos
  | .tripped => s.flt.trip.pos
  | _ => s.pln.pos

/-- The speed changes of one servo period: Δv_e, Δv_s, Δv_st (R59). -/
def stepEmergency (s : State) : Nat := speedStep s.env.limits.ae s.fru.timing.ts

/-- Δv_s (R95). -/
def stepStick (s : State) : Nat := speedStep s.env.limits.astick s.fru.timing.ts

/-- Δv_st (R108). -/
def stepStream (s : State) : Nat := speedStep s.env.limits.astream s.fru.timing.ts

/-- A move's Δv, at least 1 µm/s (R77). -/
def stepMove (accel ts : Nat) : Nat := max 1 (speedStep accel ts)

/-- Entry into HOLD at the last committed position, with its stop cause: hold-pending is cleared, and HOLDING is sent
after the notices already handed (R44, R46, R134). -/
def enterHold (cause : StopCause) (s : State) : State :=
  notice .holding cause.code.toNat
    (((s.onFcu fun f => { f with flight := .hold, cause := cause }).onPln fun p =>
        { p with holdPos := p.pos, vel := Vec3.zero, stop := none }).onMrk fun m => { m with holdPending := false })

/-- The start of a stop: kind, rate and cause together, and the flight state STOPPING (R59). -/
def startStop (kind : StopKind) (rate : Nat) (cause : StopCause) (s : State) : State :=
  (s.onFcu fun f => { f with flight := .stopping, cause := cause }).onPln fun p => { p with stop := some ⟨kind, rate⟩ }

/-! ## Queue, stream and stick -/

/-- A whole-queue flush (R70). -/
def flushQueue (s : State) : State :=
  (s.onPln fun p => { p with queue := [] }).onMrk fun m => { m with holdPending := false }

/-- The move in hand emptied. -/
def emptyHand (s : State) : State := s.onPln fun p => { p with inHand := none }

/-- The stream record cancelled: buffer empty, IDLE, the gap and band flags cleared, E kept (R107). -/
def Stream.cancelled (st : Stream) : Stream :=
  { st with state := .idle, samples := [], gapReported := false, inLow := false, inCritical := false, inHigh := false }

/-- The stream cancelled, whatever its state (R107). -/
def cancelStream (s : State) : State := s.onPln fun p => { p with stream := p.stream.cancelled }

/-- A PRIMED stream cancelled; any other left as it stands (R56, R58, R97, R124). -/
def cancelPrimed (s : State) : State := if s.pln.stream.state = .primed then cancelStream s else s

/-- The stick input at rest: q zero and the timer stopped (R102, R187). -/
def stickRest (s : State) : State :=
  s.onPln fun p => { p with stick := { p.stick with q := Vec3.zero, timer := none } }

/-! ## Channels -/

/-- The state timer's run: 500 ms (R167). -/
def stateTimeout : Nat := 500000

/-- One winch's channel. -/
def State.chan (s : State) (w : Winch) : Channel := s.ch.chans.get (winchIndex w)

/-- The state with one channel changed. -/
def State.onChan (s : State) (w : Winch) (f : Channel → Channel) : State :=
  s.onCh fun c => { c with chans := c.chans.set (winchIndex w) (f (c.chans.get (winchIndex w))) }

/-- A channel with its streaming counts and live warning cleared (R170, R172). -/
def Channel.calm (c : Channel) : Channel :=
  { c with slackCount := 0, overCount := 0, followCount := 0, warning := false }

/-- A channel's entry into ABSENT: the timer stopped and the miss count 0 (R157, R166). -/
def Channel.toAbsent (c : Channel) : Channel := { c.calm with state := .absent, timer := none, miss := 0 }

/-- A channel's entry into READY (R159, R163, R164). -/
def Channel.toReady (c : Channel) : Channel := { c.calm with state := .ready, timer := none }

/-- A channel's entry into BRAKING, with the brake timeout started (R160, R162). -/
def Channel.toBraking (c : Channel) : Channel := { c.calm with state := .braking, timer := some stateTimeout }

/-- A release request, taken in READY (R168). -/
def Channel.release (c : Channel) : Channel :=
  if c.state = .ready then { c with state := .releasing, timer := some stateTimeout } else c

/-- A brake request, taken in RELEASING and STREAMING (R168). -/
def Channel.brake (c : Channel) : Channel :=
  if c.state = .releasing ∨ c.state = .streaming then c.toBraking else c

/-- A set request with a length, taken in READY (R168). -/
def Channel.setRequest (length : Nat) (c : Channel) : Channel :=
  if c.state = .ready then { c with state := .setting, requested := length, timer := some stateTimeout } else c

/-- The end of a setting operation on a channel: one still in SETTING goes to READY and stops its timeout (R178, R179). -/
def Channel.endSetting (c : Channel) : Channel := if c.state = .setting then { c with state := .ready, timer := none } else c

/-- Every channel changed alike. -/
def onAllChans (f : Channel → Channel) (s : State) : State := s.onCh fun c => { c with chans := c.chans.map f }

/-- Whether a setting operation is in progress (R174). -/
def settingInProgress (s : State) : Bool := s.ch.op.kind ≠ .noSetting

/-- Whether a save is in progress (R211). -/
def saveInProgress (s : State) : Bool := s.sto.save ≠ .idle

/-- Whether a save or a setting operation is in progress, which refuses the settings records with BUSY. -/
def busy (s : State) : Bool := saveInProgress s || settingInProgress s

/-- The setting operation ended: SETTING channels to READY, the kind NONE (R177, R178, R179). -/
def endSettingOp (s : State) : State :=
  s.onCh fun c => { c with chans := c.chans.map Channel.endSetting, op := { c.op with kind := .noSetting } }

/-- Bits for the channels that are not READY (R51, R175, R176). -/
def notReady (s : State) : Quad Bool := s.ch.chans.map fun c => c.state ≠ .ready

/-- Bits for the channels whose length-valid is no. -/
def lengthInvalid (s : State) : Quad Bool := s.ch.chans.map fun c => !c.last.lengthValid

/-- The setpoint of each winch at a position (R9, R11). -/
def setpointsAt (s : State) (p : Vec3) : Quad Nat := s.sol.anchors.map fun a => setpointAt a p

/-- Bits for the channels whose measured length differs from the setpoint at a position by more than the pose tolerance
(R51). -/
def overTolerance (s : State) (p : Vec3) : Quad Bool :=
  s.ch.chans.zip (setpointsAt s p) fun c len => 1000 * s.env.limits.poseTol < absDiff c.last.length len

/-- The live warning of some STREAMING channel (R37). -/
def tensionWarning (s : State) : Bool := s.ch.chans.any fun c => c.state = .streaming && c.warning

/-! ## The retained pose and the store -/

/-- FCU asks STO to store the retained pose: the write begins, or one write waits for a save or another write (R48). -/
def requestPoseWrite (s : State) : State :=
  if saveInProgress s || s.sto.poseWriting.isSome || s.sto.poseWaiting then s.onSto fun t => { t with poseWaiting := true }
  else s.onSto fun t => { t with poseWriting := some s.fcu.pose }

/-- A waiting pose write begins, with the record as it stands, once neither a save nor another pose write is in progress
(R48, R212). -/
def beginPoseWrite (s : State) : State :=
  if s.sto.poseWaiting ∧ saveInProgress s = false ∧ s.sto.poseWriting = none then
    s.onSto fun t => { t with poseWriting := some s.fcu.pose, poseWaiting := false }
  else s

/-- The retained pose written and its store asked for (R48). -/
def writePose (pose : RetainedPose) (s : State) : State := requestPoseWrite (s.onFcu fun f => { f with pose := pose })

/-- What a write that did not end well leaves of an image (log 5). -/
def remnantImage {α : Type} (r : Remnant) (old : Option α) (copy : α) : Option α :=
  match r with
  | .old => old
  | .damaged => none
  | .complete => some copy

/-- The inside flags of every marker recomputed at a position, with no notice (R132). -/
def recomputeInside (p : Vec3) (s : State) : State :=
  s.onMrk fun m => { m with markers := m.markers.map fun o => o.map fun k => { k with inside := insideMarker k.spec p } }

/-- The home valid flag re-evaluated (R8). -/
def evaluateHome (s : State) : State :=
  s.onSol fun o => { o with homeValid := s.env.boxValid && inBox s.env.shrunk (toMicrons o.home) }

/-- The workspace acceptance check run, and the home valid flag after it (R15, R8). -/
def runAcceptance (s : State) : State :=
  evaluateHome (s.onEnv fun e => { e with boxValid := boxPasses s.sol.anchors e.box })

/-- What the settings image would hold: the whole working copy (R209, R211). -/
def workingCopy (s : State) : Settings where
  anchors := s.sol.anchors
  home := s.sol.home
  box := s.env.box
  limits := s.env.limits
  timing := s.fru.timing
  chLimits := s.ch.chans.map fun c => c.limits
  zones := s.env.zones
  markers := s.mrk.markers.map fun o => o.map fun m => m.spec

end Sys2Proof.Machine
end

