-- ==== Sys2Proof/Machine/Flags.lean ====
section
/-! DEFINITION. The fault monitor's shared operations: an occurrence of a flag (R183, R184), the trip (R186 to R188, R63)
and the persistence of a flag through CLEAR_FAULTS (R193). -/

namespace Sys2Proof.Machine

open Sys2Proof

/-- The notice that names a flag; a TRIP flag has none of its own, its notice is the TRIP_NOTICE (R184, R189). -/
def Flag.noticeCode : Flag → Option NoticeCode
  | .wallStrike => some .wallStrike
  | .zoneStop => some .zoneStop
  | .pathRejected => some .pathRejected
  | .referenceLost => some .referenceLost
  | .stickTimeout => some .stickTimeout
  | .streamUnderrun => some .streamUnderrun
  | .streamOverflow => some .streamOverflow
  | .streamLag => some .streamLag
  | .tensionWarn => some .tensionWarn
  | .armTimeout => some .armTimeout
  | .settingTimeout => some .settingTimeout
  | .feedbackErrors => some .feedbackErrors
  | .slack => none
  | .overtension => none
  | .following => none
  | .channelLost => none
  | .driveFault => none
  | .estop => none
  | .operatorTrip => none

/-- Whether a flag is of the TRIP category (R182). -/
def Flag.isTrip (f : Flag) : Bool := f.noticeCode.isNone

/-- One flag's entry (R182). -/
def State.flag (s : State) (f : Flag) : FlagEntry := s.flt.flags[f.number]

/-- The state with one flag's entry replaced. -/
def State.setFlag (s : State) (f : Flag) (e : FlagEntry) : State :=
  s.onFlt fun t => { t with flags := t.flags.set f.number e }

/-- A flag's entry after one occurrence (R183). -/
def FlagEntry.occur (e : FlagEntry) (channel : Nat) : FlagEntry :=
  if e.set then ⟨true, satSucc 255 e.count, channel⟩ else ⟨true, 1, channel⟩

/-- The validity of the retained pose after a trip: yes, but for a trip from PARKED, which keeps the flag, and a trip
that abandons a setting operation, which makes it no (R63). -/
def poseValidAfterTrip (s : State) : Bool :=
  if settingInProgress s then false else if s.fcu.flight = .parked then s.fcu.pose.valid else true

/-- The trip record written from an occurrence (R185, R186). -/
def tripRecordOf (f : Flag) (channel : Nat) (seat : Option Seat) (s : State) : TripRecord :=
  ⟨some f, channel, seat, s.fcu.flight, commandedPosition s, s.fru.frames⟩

/-- What a trip does to the planner: queue flushed, move in hand emptied, stream cancelled, stick at rest, velocities 0,
any stop ended (R187). -/
def Pln.tripped (p : Pln) : Pln :=
  { p with queue := [], inHand := none, stream := p.stream.cancelled,
           stick := { p.stick with q := Vec3.zero, timer := none }, vel := Vec3.zero, stop := none }

/-- A trip taken: the trip record, then FCU, PLN, MRK, the channels and the setting operation, then the retained pose and
its write (R186, R63, R187, R188, R179). -/
def takeTrip (f : Flag) (channel : Nat) (seat : Option Seat) (s : State) : State :=
  let record := tripRecordOf f channel seat s
  let valid := poseValidAfterTrip s
  let s := s.onFlt fun t => { t with trip := record }
  let s := s.onFcu fun u => { u with flight := .tripped, cause := .trip, consent := false }
  let s := (s.onPln Pln.tripped).onMrk fun m => { m with holdPending := false }
  let s := endSettingOp (onAllChans Channel.brake s)
  writePose ⟨record.pos, valid, .trip⟩ s

/-- The TRIP_NOTICE of a flag, with the trip record's fields (R189). -/
def tripNotice (f : Flag) (first : Bool) (channel : Nat) (seat : Option Seat) (s : State) : State :=
  handOver .everySeat (.tripNotice f first channel seat s.flt.trip.left s.flt.trip.pos s.flt.trip.frames) s

/-- One occurrence of a TRIP flag, its entry already updated: outside TRIPPED a trip is taken; the TRIP_NOTICE is sent when
the flag went from clear to set; REFERENCE_FAILED follows when the trip abandoned a setting operation (R186, R188,
R189). -/
def reportTrip (f : Flag) (wasSet : Bool) (channel : Nat) (seat : Option Seat) (s : State) : State :=
  let first := s.fcu.flight ≠ .tripped
  let abandons := first && settingInProgress s
  let s := if first then takeTrip f channel seat s else s
  let s := if wasSet then s else tripNotice f first channel seat s
  if abandons then notice .referenceFailed 0 s else s

/-- One occurrence of a flag reported to FLT, with its channel number and, for OPERATOR_TRIP, its seat (R183, R184). -/
def report (f : Flag) (channel : Nat) (seat : Option Seat) (s : State) : State :=
  let e := s.flag f
  let s := s.setFlag f (e.occur channel)
  match f.noticeCode with
  | some n => if e.set then s else notice n channel s
  | none => reportTrip f e.set channel seat s

/-- Whether a flag's condition persists when a CLEAR_FAULTS is taken (R193). -/
def persists (s : State) : Flag → Bool
  | .estop => s.flt.line
  | .driveFault => s.ch.chans.any fun c => c.state = .faulted
  | .tensionWarn => tensionWarning s
  | .referenceLost => s.fru.ref ≠ .locked
  | _ => false

/-- The nineteen flags in number order (R182). -/
def allFlags : List Flag :=
  [.wallStrike, .zoneStop, .pathRejected, .referenceLost, .stickTimeout, .streamUnderrun, .streamOverflow, .streamLag,
    .tensionWarn, .armTimeout, .settingTimeout, .feedbackErrors, .slack, .overtension, .following, .channelLost,
    .driveFault, .estop, .operatorTrip]

/-- The TRIP flags in number order. -/
def tripFlags : List Flag := allFlags.filter Flag.isTrip

/-- Whether some flag of a list is set. -/
def anySet (s : State) (flags : List Flag) : Bool := flags.any fun f => (s.flag f).set

/-- The ACK detail of CLEAR_FAULTS: bits 0..3 for ENVELOPE, TIMING, CHANNEL and TRIP flags still set (R192). -/
def faultDetail (s : State) : Nat :=
  winchBits
    ⟨anySet s [.wallStrike, .zoneStop, .pathRejected],
      anySet s [.referenceLost, .stickTimeout, .streamUnderrun, .streamOverflow, .streamLag],
      anySet s [.tensionWarn, .armTimeout, .settingTimeout, .feedbackErrors], anySet s tripFlags⟩

end Sys2Proof.Machine
end

