-- ==== Sys2Proof/Machine/Faults.lean ====
section
/-! DEFINITION. The fault monitor's commands: the emergency-stop line, the TRIP record and CLEAR_FAULTS (10 R190 to
R194). -/

namespace Sys2Proof.Machine

open Sys2Proof

/-- ESTOP_ASSERTION: the line from deasserted to asserted is one occurrence of ESTOP (R190). A line asserted already
cannot be asserted (log 2). -/
def execEstopAssertion (s : State) : Host.Outcome State Fault Refusal :=
  done (if s.flt.line then s else report .estop 0 none (s.onFlt fun t => { t with line := true }))

/-- ESTOP_DEASSERTION: the level changes, no flag does (R190). -/
def execEstopDeassertion (s : State) : Host.Outcome State Fault Refusal :=
  done (s.onFlt fun t => { t with line := false })

/-- TRIP: ACK, then one occurrence of OPERATOR_TRIP with the record's seat (R191). -/
def execTrip (seat : Seat) (d0 d1 : Byte) (s : State) : Host.Outcome State Fault Refusal :=
  done (decodeCommand 0x10 seat [d0, d1]
    (fun s => answer seat 0x10 [] (report .operatorTrip 0 (some seat)) s) s)

/-- The flags whose condition has ended cleared, with their counters and channel numbers (R193). -/
def clearFlags (s : State) : State :=
  allFlags.foldl (fun t f => if persists s f then t else t.setFlag f FlagEntry.clear) s

/-- With no TRIP flag left in TRIPPED: the trip record at its reset values and the state PARKED (R194, R64). -/
def returnToParked (s : State) : State :=
  if s.fcu.flight = .tripped ∧ anySet s tripFlags = false then
    (s.onFlt fun t => { t with trip := TripRecord.cleared }).onFcu fun f => { f with flight := .parked }
  else s

/-- CLEAR_FAULTS taken: flags cleared, every bad-frame counter zeroed, the return to PARKED decided (R193, R194). -/
def clearFaults (s : State) : State :=
  returnToParked (onAllChans (fun c => { c with badFrames := 0 }) (clearFlags s))

/-- CLEAR_FAULTS's effect: BUSY while any channel is BRAKING, else the clearing and then ACK with the categories still set
(R192). -/
def clearFaultsRecord (seat : Seat) (s : State) : State :=
  if s.ch.chans.any fun c => c.state = .braking then refuse seat .busy 0 s
  else
    let t := clearFaults s
    ack seat 0x11 (faultDetail t) t

/-- CLEAR_FAULTS (R192). -/
def execClearFaults (seat : Seat) (d0 d1 : Byte) (s : State) : Host.Outcome State Fault Refusal :=
  done (decodeCommand 0x11 seat [d0, d1] (clearFaultsRecord seat) s)

end Sys2Proof.Machine
end

