-- ==== Sys2Proof/Machine/Clock.lean ====
section
/-! DEFINITION. FRU's time: the lengths the timing settings give (R137), the present time and the timers that fall with it
(R138, R152), and the instants at which an expiry of time can come (log 3). -/

namespace Sys2Proof.Machine

open Sys2Proof

/-! ## Lengths of time -/

/-- The pull step p: Ts/50 floored (R137). -/
def pullStep (t : Timing) : Nat := t.ts / 50

/-- The reference window w: N·Ts/200 floored (R137). -/
def refWindow (t : Timing) : Nat := t.n * t.ts / 200

/-- The frame period N·Ts. -/
def framePeriod (t : Timing) : Nat := t.n * t.ts

/-! ## The present time -/

/-- The time counted by timers that measure time passes: the stick timer, the state timers, the gap timer (R152). -/
def passTime (d : Nat) (s : State) : State :=
  let s := s.onPln fun p => { p with stick := { p.stick with timer := p.stick.timer.map fun t => t - d } }
  let s := onAllChans (fun c => { c with timer := c.timer.map fun t => t - d }) s
  s.onLink fun l => { l with gapTimer := l.gapTimer.map fun t => t - d }

/-- The present time advanced to an instant, never back (log 3). -/
def advanceTo (t : Nat) (s : State) : State :=
  (passTime (t - s.fru.now) s).onFru fun f => { f with now := max f.now t }

/-! ## Expiries -/

/-- The instant by which FRU's own schedule brings its next event: the next servo event, or the close of the window when
none is timed (R139, R146). -/
def Fru.horizon (f : Fru) : Nat :=
  max f.now (f.nextEvent.getD (f.lastRef.getD f.now + framePeriod f.timing + refWindow f.timing))

/-- What an expiry at an instant does: it comes at that instant, and not at all while FRU's next event lies before it
(log 3). -/
def atInstant (t : Nat) (act : State → State) (s : State) : State :=
  if t ≤ s.fru.horizon then act (advanceTo t s) else s

/-- What the expiry of a timer does, from the time it has left; a stopped timer does not expire (R101, R167, R200;
log 2). -/
def atExpiry (left : Option Nat) (act : State → State) (s : State) : State :=
  match left with
  | none => s
  | some d => atInstant (s.fru.now + d) act s

end Sys2Proof.Machine
end

