-- ==== Sys2Proof/WellFormed.lean ====
section
/-! DEFINITION. Which commands can come to the part at all: what the form of a record or the types of the table fix
about a command's operands. The meanings are total and do not rest on it. -/

namespace Sys2Proof

/-- The longest payload of a long record (R198). -/
def maxPayload : Nat := 512

/-- Whether a type is short: "Types 0x00..0x1F are short and types 0x20..0x3F are long" (R198). -/
def isShortType (type : BitVec 6) : Bool := type.toNat < 0x20

/-- The part-to-console and the unassigned types, which a decode discards (R202). -/
def isIgnoredType (type : BitVec 6) : Bool :=
  let t := type.toNat
  t ≤ 0x07 || 0x2F ≤ t

/-- Whether a body has a length the record's form allows (R198). -/
def bodyFits (type : BitVec 6) (body : List Byte) : Bool :=
  if isShortType type then body.length = 2 else body.length ≤ maxPayload

/-- Whether a payload has a length a long record allows (R198). -/
def payloadFits (payload : List Byte) : Bool := payload.length ≤ maxPayload

/-- The well-formed commands: an ignored record has an ignored type and a body of its form, and a long record's payload
is at most 512 bytes. -/
def Instr.wellFormed : Instr → Bool
  | .ignoredRecord _ type body => isIgnoredType type && bodyFits type body
  | .stick _ payload => payloadFits payload
  | .appendMove _ payload => payloadFits payload
  | .streamStart _ payload => payloadFits payload
  | .streamData _ payload => payloadFits payload
  | .zonePut _ payload => payloadFits payload
  | .zoneSet _ payload => payloadFits payload
  | .zoneRemove _ payload => payloadFits payload
  | .markerSet _ payload => payloadFits payload
  | .setAnchor _ payload => payloadFits payload
  | .setWorkspace _ payload => payloadFits payload
  | .setLimits _ payload => payloadFits payload
  | .setChannelLimits _ payload => payloadFits payload
  | .setTiming _ payload => payloadFits payload
  | .declarePose _ payload => payloadFits payload
  | .setHome _ payload => payloadFits payload
  | _ => true

end Sys2Proof
end

