-- ==== Sys2Proof/Machine/Link.lean ====
section
/-! DEFINITION. The console link's own commands: the receive assembler, the gap timer, the transmit queue, ignored records,
QUERY_STATE and SUBSCRIBE (11). -/

namespace Sys2Proof.Machine

open Sys2Proof

/-- The inter-byte gap, 2,000 µs (R200). -/
def gapLimit : Nat := 2000

/-- The counters of LINK changed. -/
def Link.count (f : LinkCounters → LinkCounters) (l : Link) : Link := { l with counters := f l.counters }

/-- The assembler HUNTING, its gap timer stopped (R199). -/
def Link.hunt (l : Link) : Link := { l with assembler := .hunting, gapTimer := none }

/-- The assembler in HEADER or BODY, its gap timer running from this byte (R200). -/
def Link.collect (a : Assembler) (l : Link) : Link := { l with assembler := a, gapTimer := some gapLimit }

/-- The scan of the bytes held after a discarded header: the first lead among them begins a new record (R199). -/
def Link.rescan (held : List Byte) (l : Link) : Link :=
  match held.dropWhile fun b => b ≠ leadByte with
  | [] => l.hunt
  | _ :: kept => l.collect (.header kept)

/-- A completed record enters the decode queue and the assembler hunts again (R199, R201). -/
def Link.complete (r : Record) (l : Link) : Link := completeRecord r l.hunt

/-- The decision on the four bytes of a header (R199). -/
def Link.checkHeader (b1 b2 b3 check : Byte) (l : Link) : Link :=
  let held := [b1, b2, b3, check]
  let n := natOf [b2, b3]
  if headerCheck [b1, b2, b3] ≠ check then
    (l.count fun c => { c with headerCheck := satSucc cap16 c.headerCheck }).rescan held
  else if isShortType (typeOfByte b1) then l.complete ⟨seatOfByte b1, typeOfByte b1, [b2, b3]⟩
  else if maxPayload < n then
    (l.count fun c => { c with length := satSucc cap16 c.length }).rescan held
  else l.collect (.body b1 n [])

/-- The decision on the n + 2 bytes of a body (R200). -/
def Link.checkPayload (b1 : Byte) (n : Nat) (got : List Byte) (l : Link) : Link :=
  if natOf (got.drop n) = (payloadCheck (got.take n)).toNat then
    l.complete ⟨seatOfByte b1, typeOfByte b1, got.take n⟩
  else (l.count fun c => { c with payloadCheck := satSucc cap16 c.payloadCheck }).hunt

/-- The receive assembler takes a byte with its stop bit (R199, R200). -/
def Link.takeByte (b : Byte) (l : Link) : Link :=
  match l.assembler with
  | .hunting => if b = leadByte then l.collect (.header []) else l
  | .header held =>
    match held with
    | [b1, b2, b3] => l.checkHeader b1 b2 b3 b
    | _ => l.collect (.header (held ++ [b]))
  | .body b1 n got =>
    if got.length + 1 < n + 2 then l.collect (.body b1 n (got ++ [b]))
    else l.checkPayload b1 n (got ++ [b])

/-- A byte without its stop bit: counted, and any record in progress is abandoned (R200). -/
def Link.byteFault (l : Link) : Link := (l.count fun c => { c with byteError := satSucc cap16 c.byteError }).hunt

/-- RECEIVE_BYTE (R199, R200); once a RESET_PART is taken the assembler takes no bytes (R213). -/
def execReceiveByte (b : Byte) (stopBit : Bool) (s : State) : Host.Outcome State Fault Refusal :=
  done (if s.link.resetPhase ≠ .running then s
    else s.onLink (if stopBit then Link.takeByte b else Link.byteFault))

/-- The record in progress abandoned at a gap: counted, and the assembler hunts again (R200). -/
def Link.gapFault (l : Link) : Link := (l.count fun c => { c with gap := satSucc cap16 c.gap }).hunt

/-- GAP_TIMEOUT, when the time the gap timer has left has passed; a byte received before it started the timer again (R200;
log 2, log 3). -/
def execGapTimeout (s : State) : Host.Outcome State Fault Refusal :=
  done (atExpiry s.link.gapTimer (fun s => s.onLink Link.gapFault) s)

/-- A RESET_PART's ACK draws nearer, or has left: the part reset is then due (R213). -/
def ResetPhase.advance : ResetPhase → ResetPhase
  | .running => .running
  | .ackQueued left => if left ≤ 1 then .due else .ackQueued (left - 1)
  | .due => .due

/-- TRANSMIT_COMPLETE: the oldest record leaves the transmit queue (R205). With an empty queue, or with the part reset due,
nothing is being sent and there is no such event (log 2). -/
def execTransmitComplete (s : State) : Host.Outcome State Fault Refusal :=
  done (if s.link.resetPhase = .due ∨ s.link.tx = [] then s
    else s.onLink fun l => { l with tx := l.tx.tail, resetPhase := l.resetPhase.advance })

/-- IGNORED_RECORD: a part-to-console or unassigned type is discarded and counted, without reply (R202). -/
def execIgnoredRecord (seat : Seat) (type : BitVec 6) (body : List Byte) (s : State) :
    Host.Outcome State Fault Refusal :=
  done (if isIgnoredType type then
      decodeRecord ⟨seat, type, body⟩
        (fun s => s.onLink (Link.count fun c => { c with ignored := satSucc cap16 c.ignored })) s
    else s)

/-- The active move's id and phase as reported: a move abandoned by a ZONE_STOP reads as none (R69). -/
def reportedMove (s : State) : Nat × Option Phase :=
  match s.pln.inHand with
  | none => (0, none)
  | some m => if m.phase = .abandoned then (0, none) else (m.move.id, some m.phase)

/-- The part's state as STATE carries it (R208). -/
def stateReport (s : State) : StateReport where
  flight := s.fcu.flight
  cause := s.fcu.cause
  queueCount := s.pln.queue.length
  moveId := (reportedMove s).1
  phase := (reportedMove s).2
  streamState := s.pln.stream.state
  occupancy := s.pln.stream.samples.length
  expected := s.pln.stream.expected
  ref := s.fru.ref
  frames := s.fru.frames
  chanStates := s.ch.chans.map fun c => c.state
  badFrames := s.ch.chans.map fun c => c.badFrames
  flags := s.flt.flags
  trip := s.flt.trip
  line := s.flt.line
  consent := s.fcu.consent
  permit := s.fcu.permit
  defaulted := s.sto.defaulted
  boxValid := s.env.boxValid
  poseValid := s.fcu.pose.valid
  poseOrigin := s.fcu.pose.origin
  counters := s.link.counters
  stickDiscards := s.pln.stick.discards
  streamDiscards := s.pln.stream.discards
  streamGaps := s.pln.stream.gaps

/-- QUERY_STATE: answered with STATE (R208). -/
def execQueryState (seat : Seat) (d0 d1 : Byte) (s : State) : Host.Outcome State Fault Refusal :=
  done (decodeCommand 0x08 seat [d0, d1] (fun s => reply seat (.state (stateReport s)) s) s)

/-- SUBSCRIBE's effect: the sender's own mask replaced whole, or BAD_VALUE (R207). -/
def subscribe (seat : Seat) (d0 : Byte) (s : State) : State :=
  match maskOf d0 with
  | none => refuse seat .badValue 0 s
  | some m => (ack seat 0x17 d0.toNat s).onLink fun l => { l with masks := l.masks.set (seatIndex seat) m }

/-- SUBSCRIBE (R207). -/
def execSubscribe (seat : Seat) (d0 d1 : Byte) (s : State) : Host.Outcome State Fault Refusal :=
  done (decodeCommand 0x17 seat [d0, d1] (subscribe seat d0) s)

end Sys2Proof.Machine
end

