-- ==== Sys2Proof/Machine/Store.lean ====
section
/-! DEFINITION. The settings store and the part reset: PART_RESET, SAVE_SETTINGS, RESET_PART, and the beginnings and ends
of the two writes (11 R209 to R213; 03 R47, R48). -/

namespace Sys2Proof.Machine

open Sys2Proof

/-! ## Part reset -/

/-- The settings image as a part reset finds it: a save being written leaves it as far as the write had come (R212). -/
def settingsImageAtReset (s : State) : Option Settings :=
  match s.sto.save with
  | .writing copy => remnantImage (Config.remnant s.freeCount) s.sto.settingsImage copy
  | _ => s.sto.settingsImage

/-- The retained-pose image as a part reset finds it: a pose write may leave it with a bad check (R48). -/
def poseImageAtReset (s : State) : Option RetainedPose :=
  match s.sto.poseWriting with
  | some pose => remnantImage (Config.remnant s.freeCount) s.sto.poseImage pose
  | none => s.sto.poseImage

/-- What a load reads of an image: nothing when the external memory does not answer (R210). -/
def readImage {α : Type} (answers : Bool) (image : Option α) : Option α := if answers then image else none

/-- The load: every owner takes its fields of the settings and of the retained pose, and everything else its reset value
(R210, R213). -/
def loadedState (strap : Strap) (settings : Settings) (pose : RetainedPose) : State :=
  { State.reset with
    link := Link.reset strap
    fcu := ⟨.parked, .noCause, false, false, pose⟩
    pln := { State.reset.pln with pos := pose.pos, holdPos := pose.pos }
    env := ⟨settings.box, false, settings.limits, settings.zones, 1000 * settings.limits.vmax⟩
    sol := ⟨settings.anchors, settings.home, false⟩
    mrk := ⟨settings.markers.map fun o => o.map fun k => ⟨k, false⟩, false⟩
    fru :=
      { State.reset.fru with
        timing := settings.timing, nextEvent := some settings.timing.ts,
        snapshot := { State.reset.fru.snapshot with pos := pose.pos } }
    ch := { State.reset.ch with chans := settings.chLimits.map Channel.reset } }

/-- The emergency-stop line examined: when asserted it is one occurrence of ESTOP (R190). -/
def examineLine (s : State) : State := if s.flt.line then report .estop 0 none s else s

/-- The part reset: the images are read, the checks of the load run, the inside flags computed, and the line examined
(R210, R132, R190). The store's contents, the line and the waiting commands are outside the part and stand. -/
def partReset (strap : Strap) (answers : Bool) (s : State) : State :=
  let settingsImage := settingsImageAtReset s
  let poseImage := poseImageAtReset s
  let settings := readImage answers settingsImage
  let pose := (readImage answers poseImage).getD RetainedPose.default
  let loaded := loadedState strap (settings.getD Settings.default) pose
  let loaded := { loaded with
    sto := ⟨settingsImage, poseImage, .idle, none, false, settings.isNone⟩,
    flt := { loaded.flt with line := s.flt.line }, freeCount := s.freeCount + 1, pending := s.pending }
  examineLine (recomputeInside pose.pos (runAcceptance loaded))

/-- PART_RESET (R210). -/
def execPartReset (strap : Strap) (storeAnswers : Bool) (s : State) : Host.Outcome State Fault Refusal :=
  done (partReset strap storeAnswers s)

/-! ## Saving -/

/-- SAVE_SETTINGS taken: the copy is made now, and its writing begins now or when a pose write in progress ends (R211). A
pose write whose turn has come begins first, so that no save overtakes it (R48; log 20). -/
def startSave (s : State) : State :=
  (beginPoseWrite s).onSto fun t =>
    { t with save := if t.poseWriting.isSome then .waiting (workingCopy s) else .writing (workingCopy s) }

/-- SAVE_SETTINGS (R211; WRONG_STATE before BUSY, where a save still runs in TRIPPED: log 31). -/
def execSaveSettings (seat : Seat) (d0 d1 : Byte) (s : State) : Host.Outcome State Fault Refusal :=
  done (decodeCommand 0x1D seat [d0, d1]
    (fun s => answer seat 0x1D
      [(s.fcu.flight ≠ .parked, .wrongState, 0), (busy s, .busy, 0)] startSave s) s)

/-- SAVE_WRITE_START: a waiting save begins writing once the pose write has ended (R211). -/
def execSaveWriteStart (s : State) : Host.Outcome State Fault Refusal :=
  done (match s.sto.save with
    | .waiting copy => if s.sto.poseWriting.isSome then s else s.onSto fun t => { t with save := .writing copy }
    | _ => s)

/-- A save that succeeded: the image holds the copy, settings-defaulted is cleared, SAVE_DONE detail 0 (R212). -/
def saveSucceeded (copy : Settings) (s : State) : State :=
  notice .saveDone 0 (s.onSto fun t => { t with settingsImage := some copy, save := .idle, defaulted := false })

/-- A save that failed: the image may be bad, SAVE_DONE detail 1 (R212). What the image holds is a free value (log 5). -/
def saveFailed (copy : Settings) (s : State) : State :=
  notice .saveDone 1
    { s.onSto fun t =>
        { t with settingsImage := remnantImage (Config.remnant s.freeCount) t.settingsImage copy, save := .idle } with
      freeCount := s.freeCount + 1 }

/-- SAVE_WRITE_END: SAVE_DONE is sent, and once it is a waiting pose write begins (R212). -/
def execSaveWriteEnd (readsBack : Bool) (s : State) : Host.Outcome State Fault Refusal :=
  done (match s.sto.save with
    | .writing copy => beginPoseWrite (if readsBack then saveSucceeded copy s else saveFailed copy s)
    | _ => s)

/-! ## The retained-pose write -/

/-- POSE_WRITE_START: a write that waited for another pose write begins, with the record as it then stands (R48). -/
def execPoseWriteStart (s : State) : Host.Outcome State Fault Refusal := done (beginPoseWrite s)

/-- POSE_WRITE_END: the image holds the record, with a fresh check (R48). -/
def execPoseWriteEnd (s : State) : Host.Outcome State Fault Refusal :=
  done (match s.sto.poseWriting with
    | some pose => s.onSto fun t => { t with poseImage := some pose, poseWriting := none }
    | none => s)

/-! ## RESET_PART -/

/-- RESET_PART taken: its ACK is the last record of the transmit queue, and LINK stops receiving and decoding (R213). -/
def startResetPart (s : State) : State := s.onLink fun l => { l with resetPhase := .ackQueued l.tx.length }

/-- RESET_PART (R213). -/
def execResetPart (seat : Seat) (d0 d1 : Byte) (s : State) : Host.Outcome State Fault Refusal :=
  done (decodeCommand 0x1E seat [d0, d1]
    (fun s => answer seat 0x1E [(s.fcu.flight ≠ .parked, .wrongState, 0)] startResetPart s) s)

end Sys2Proof.Machine
end

