-- ==== Sys2Proof/Machine/Flight.lean ====
section
/-! DEFINITION. The flight control unit's commands: ARM, PARK, HOLD, CONSENT and SERVICE_PERMIT (03; the stops of HOLD also
04 R84, R85 and 05 R102). -/

namespace Sys2Proof.Machine

open Sys2Proof

/-- Why a pose is blocked: 0xFF when it lies outside the shrunk workspace, else the lowest slot containing it; none when
it is free (R51, check 7; R176, check 5). -/
def poseBlock (e : Env) (p : Vec3) : Option Nat := if inBox e.shrunk p then e.blockedAt p else some 0xFF

/-- ARM's checks, in their order (R51). -/
def armChecks (s : State) : List (Bool × ErrorCode × Nat) :=
  let pose := s.fcu.pose
  [(s.fcu.flight ≠ .parked, .wrongState, 0),
    (!s.fcu.consent, .noConsent, 0),
    (anySet s tripFlags || s.flt.line, .faultPresent, 0),
    (busy s, .busy, 0),
    (!s.env.boxValid, .noWorkspace, 0),
    (winchBits (notReady s) ≠ 0, .channelNotReady, winchBits (notReady s)),
    (winchBits (lengthInvalid s) ≠ 0 || !pose.valid, .notReferenced,
      winchBits (lengthInvalid s) + (if pose.valid then 0 else 16)),
    ((poseBlock s.env pose.pos).isSome, .poseBlocked, (poseBlock s.env pose.pos).getD 0),
    (winchBits (overTolerance s pose.pos) ≠ 0, .poseMismatch, winchBits (overTolerance s pose.pos))]

/-- ARM taken: ARMING at the retained pose, at rest, and a release request to every channel (R52). -/
def startArming (s : State) : State :=
  onAllChans Channel.release
    ((s.onFcu fun f => { f with flight := .arming }).onPln fun p =>
      { p with pos := s.fcu.pose.pos, holdPos := s.fcu.pose.pos, vel := Vec3.zero })

/-- ARM (R51, R52). -/
def execArm (seat : Seat) (d0 d1 : Byte) (s : State) : Host.Outcome State Fault Refusal :=
  done (decodeCommand 0x09 seat [d0, d1] (fun s => answer seat 0x09 (armChecks s) startArming s) s)

/-- PARK taken: PARKING at the hold position, a brake request to every channel, a PRIMED stream cancelled (R56). -/
def startParking (s : State) : State :=
  cancelPrimed (onAllChans Channel.brake
    ((s.onFcu fun f => { f with flight := .parking }).onPln fun p => { p with vel := Vec3.zero }))

/-- PARK (R56). -/
def execPark (seat : Seat) (d0 d1 : Byte) (s : State) : Host.Outcome State Fault Refusal :=
  done (decodeCommand 0x0A seat [d0, d1]
    (fun s => answer seat 0x0A [(s.fcu.flight ≠ .hold, .wrongState, 0)] startParking s) s)

/-- The stop cause of a HOLD by its seat (R59). -/
def holdCause (seat : Seat) : StopCause := if seat = .safety then .safetyHold else .holdRequest

/-- The stop rate of a HOLD by its seat: Δv_e from SAFETY, else the mode's own (R59). -/
def holdRate (seat : Seat) (own : Nat) (s : State) : Nat := if seat = .safety then stepEmergency s else own

/-- A HOLD in TRACK: a path stop of a moving move (R84), its step flag cleared as the state leaves TRACK (R69); the end of a
dwell (R85). -/
def holdInTrack (seat : Seat) (s : State) : State :=
  match s.pln.inHand with
  | none => s
  | some m => match m.phase with
    | .moving =>
      startStop .path (holdRate seat (stepMove m.accel s.fru.timing.ts) s) (holdCause seat)
        (s.onPln fun p => { p with inHand := some { m with stepFlag := false } })
    | .dwelling => enterHold (holdCause seat) (emptyHand s)
    | .suspended => s
    | .abandoned => s

/-- A HOLD in STOPPING: from SAFETY it raises a lower rate to Δv_e; nothing lowers a rate (R60). -/
def holdInStopping (seat : Seat) (s : State) : State :=
  match s.pln.stop with
  | none => s
  | some st =>
    if seat = .safety ∧ st.rate < stepEmergency s then startStop st.kind (stepEmergency s) .safetyHold s else s

/-- What a HOLD does by flight state, after its ACK (R55, R58, R59, R60, R62). -/
def holdEffect (seat : Seat) (s : State) : State :=
  match s.fcu.flight with
  | .hold => if seat = .safety then cancelPrimed s else s
  | .track => holdInTrack seat s
  | .stick => startStop .axis (holdRate seat (stepStick s) s) (holdCause seat) (stickRest s)
  | .stream => startStop .axis (holdRate seat (stepStream s) s) (holdCause seat) (cancelStream s)
  | .stopping => holdInStopping seat s
  | _ => s

/-- The states that refuse HOLD (R57, R58, R64). -/
def refusesHold (f : FlightState) : Bool := f = .parked || f = .parking || f = .tripped

/-- HOLD (R59). -/
def execHold (seat : Seat) (d0 d1 : Byte) (s : State) : Host.Outcome State Fault Refusal :=
  done (decodeCommand 0x0B seat [d0, d1]
    (fun s => answer seat 0x0B [(refusesHold s.fcu.flight, .wrongState, 0)] (holdEffect seat) s) s)

/-- CONSENT's effect: the arming consent takes the value, or BAD_VALUE (R49). -/
def consent (seat : Seat) (d0 : Byte) (s : State) : State :=
  match flagByte d0.toNat with
  | none => refuse seat .badValue 0 s
  | some v => (ack seat 0x12 0 s).onFcu fun f => { f with consent := v }

/-- CONSENT (R49). -/
def execConsent (seat : Seat) (d0 d1 : Byte) (s : State) : Host.Outcome State Fault Refusal :=
  done (decodeCommand 0x12 seat [d0, d1] (consent seat d0) s)

/-- SERVICE_PERMIT's effect: the permit takes the value, or BAD_VALUE (R50). -/
def servicePermit (seat : Seat) (d0 : Byte) (s : State) : State :=
  match flagByte d0.toNat with
  | none => refuse seat .badValue 0 s
  | some v => (ack seat 0x13 0 s).onFcu fun f => { f with permit := v }

/-- SERVICE_PERMIT (R50). -/
def execServicePermit (seat : Seat) (d0 d1 : Byte) (s : State) : Host.Outcome State Fault Refusal :=
  done (decodeCommand 0x13 seat [d0, d1] (servicePermit seat d0) s)

end Sys2Proof.Machine
end

