-- ==== Sys2Proof/Machine/Channels.lean ====
section
/-! DEFINITION. The winch channels: one period on the drive link, the answers, the three timeouts, the setting operations
and the drive restart (09; 03 R53, R54, R57). -/

namespace Sys2Proof.Machine

open Sys2Proof

/-! ## The period -/

/-- The frame a channel state calls for (R155). -/
def frameOf (c : Channel) : FrameKind :=
  if c.restartPending then .restart
  else match c.state with
    | .absent => .poll
    | .ready => .poll
    | .faulted => .poll
    | .releasing => .release
    | .streaming => .setpoint c.newest
    | .braking => .brake
    | .setting => .setLength c.requested

/-- A channel sends its one frame of a servo event, which opens a period (R155). -/
def Channel.send (c : Channel) : Channel :=
  { c with sent := some ⟨frameOf c, c.seq⟩, seq := c.seq + 1, answered := false, restartPending := false }

/-- Whether the period a channel's previous frame opened closes as a miss; the first servo event closes none (R157). -/
def Channel.misses (c : Channel) : Bool := c.sent.isSome && !c.answered

/-- Whether the close of the period takes the miss count to 3 (R166). -/
def Channel.thirdMiss (c : Channel) : Bool := c.misses && c.miss = 2

/-- The states in which a third miss sets CHANNEL_LOST (R166). -/
def ChanState.lostOnMiss : ChanState → Bool
  | .releasing => true
  | .streaming => true
  | .braking => true
  | .setting => true
  | .absent => false
  | .ready => false
  | .faulted => false

/-- A channel closes its period: a miss is counted, and a third takes it to ABSENT (R157, R166). -/
def Channel.close (c : Channel) : Channel :=
  if c.thirdMiss && c.state ≠ .absent then c.toAbsent
  else if c.misses then { c with miss := satSucc 3 c.miss }
  else c

/-- What a third miss reports, by the state it was taken in (R166). It looks at the channel's state alone: an involved
channel of a setting operation that is done already is READY, and the operation goes on (R179; log 32). -/
def reportThirdMiss (w : Winch) (before : Channel) (s : State) : State :=
  if before.thirdMiss = false ∨ before.state = .absent then s
  else if before.state.lostOnMiss then report .channelLost (winchNumber w) none s
  else notice .driveAbsent (winchNumber w) s

/-- The four channels close their periods and send their frames, each by its own state; then what third misses report is
taken in channel order (R155, R157, R166; log 8). -/
def runChannels (s : State) : State :=
  let before := s.ch.chans
  allWinches.foldl (fun t w => reportThirdMiss w (before.get (winchIndex w)) t)
    (onAllChans (fun c => c.close.send) s)

/-! ## Bad frames -/

/-- A bad frame: the counter rises; from 15 to 16 FEEDBACK_ERRORS is one occurrence (R156, R173). -/
def badFrame (w : Winch) (s : State) : State :=
  let was := (s.chan w).badFrames
  let s := s.onChan w fun c => { c with badFrames := satSucc cap16 c.badFrames }
  if was = 15 then report .feedbackErrors (winchNumber w) none s else s

/-- The answer a frame's bytes carry, when it is valid for the channel's present period (R156). -/
def validAnswer (c : Channel) (bytes : List Byte) : Option AnswerFields :=
  match answerOf bytes, c.sent with
  | some a, some f => if a.echo = f.seq ∧ c.answered = false ∧ c.restartPending = false then some a else none
  | _, _ => none

/-! ## Streaming checks -/

/-- The length of the setpoint an answer is compared with: that of the SETPOINT frame it echoes (R171). -/
def echoedSetpoint (c : Channel) : Nat :=
  match c.sent with
  | some f => match f.kind with
    | .setpoint l => l
    | _ => c.newest
  | none => c.newest

/-- Whether an answer is beyond the following limit (R171). -/
def beyondFollowing (c : Channel) (a : AnswerFields) : Bool :=
  !a.lengthValid || decide (1000 * c.limits.following < absDiff (echoedSetpoint c) a.length)

/-- The counts and the live warning after a RELEASED answer in STREAMING (R170, R171, R172). -/
def Channel.check (a : AnswerFields) (c : Channel) : Channel :=
  { c with
    slackCount := if a.tension < c.limits.tmin then c.slackCount + 1 else 0
    overCount := if c.limits.tmax < a.tension then c.overCount + 1 else 0
    followCount := if beyondFollowing c a then c.followCount + 1 else 0
    warning := decide (a.tension < c.limits.twarnLo) || decide (c.limits.twarnHi < a.tension) }

/-- A report made when a condition holds. -/
def reportIf (cond : Bool) (f : Flag) (channel : Nat) (s : State) : State := if cond then report f channel none s else s

/-- The streaming checks of an answer: counts and warning, then TENSION_WARN, SLACK or OVERTENSION, and FOLLOWING
(R170 to R172; log 7). -/
def streamingChecks (w : Winch) (a : AnswerFields) (s : State) : State :=
  let was := s.chan w
  let now := was.check a
  let n := winchNumber w
  reportIf (now.followCount = 3) .following n
    (reportIf (now.overCount = 2) .overtension n
      (reportIf (now.slackCount = 2) .slack n
        (reportIf (now.warning && !was.warning) .tensionWarn n (s.onChan w fun _ => now))))

/-! ## Answers -/

/-- A drive lost while the part asked it for something: the channel's new state, then CHANNEL_LOST (R161 to R164). -/
def loseChannel (w : Winch) (f : Channel → Channel) (s : State) : State :=
  report .channelLost (winchNumber w) none (s.onChan w f)

/-- A FAULTED answer taken outside FAULTED (R158). -/
def faultChannel (w : Winch) (s : State) : State :=
  report .driveFault (winchNumber w) none (s.onChan w fun c => { c.calm with state := .faulted, timer := none })

/-- A drive found again, or one that left its fault (R159, R165). -/
def findDrive (w : Winch) (d : DriveState) (s : State) : State :=
  match d with
  | .starting => if (s.chan w).state = .absent then s else s.onChan w Channel.toAbsent
  | .braked => notice .drivePresent (winchNumber w) (s.onChan w Channel.toReady)
  | .released => notice .drivePresent (winchNumber w) (s.onChan w Channel.toBraking)
  | .faulted => s

/-- An answer in READY (R160), of an involved channel of a setting operation that is done already too: the operation goes on
(R179; log 32). -/
def answerInReady (w : Winch) (d : DriveState) (s : State) : State :=
  match d with
  | .starting => notice .driveAbsent (winchNumber w) (s.onChan w Channel.toAbsent)
  | .braked => s
  | .released => s.onChan w Channel.toBraking
  | .faulted => s

/-- An answer in RELEASING (R161). -/
def answerInReleasing (w : Winch) (d : DriveState) (s : State) : State :=
  match d with
  | .starting => loseChannel w Channel.toAbsent s
  | .braked => s
  | .released => s.onChan w fun c => { c.calm with state := .streaming, timer := none }
  | .faulted => s

/-- An answer in STREAMING (R162). -/
def answerInStreaming (w : Winch) (a : AnswerFields) (s : State) : State :=
  match a.drive with
  | .starting => loseChannel w Channel.toAbsent s
  | .braked => loseChannel w Channel.toReady s
  | .released => streamingChecks w a s
  | .faulted => s

/-- An answer in BRAKING (R163). -/
def answerInBraking (w : Winch) (d : DriveState) (s : State) : State :=
  match d with
  | .starting => loseChannel w Channel.toAbsent s
  | .braked => s.onChan w Channel.toReady
  | .released => s
  | .faulted => s

/-- Whether an answer in SETTING shows the requested length taken (R164). -/
def lengthTaken (c : Channel) (a : AnswerFields) : Bool :=
  a.drive = .braked && a.lengthValid && a.length = c.requested

/-- The setting operation completes: the retained pose takes the point, the inside flags are recomputed, the kind becomes
NONE, REFERENCE_DONE is sent (R177). -/
def completeSetting (s : State) : State :=
  let op := s.ch.op
  let declare := op.kind = .declare
  let s := writePose ⟨op.point, true, if declare then .declare else .reference⟩ s
  let s := recomputeInside op.point s
  notice .referenceDone (if declare then 1 else 0) (s.onCh fun c => { c with op := { c.op with kind := .noSetting } })

/-- Completion, once every involved channel is done: one that has left SETTING stays done, whatever its state since (R177;
log 32). -/
def settleSetting (s : State) : State :=
  if settingInProgress s && !(s.ch.chans.any fun c => c.state = .setting) then completeSetting s else s

/-- An answer in SETTING (R164). -/
def answerInSetting (w : Winch) (a : AnswerFields) (s : State) : State :=
  if a.drive = .starting then loseChannel w Channel.toAbsent s
  else if lengthTaken (s.chan w) a then settleSetting (s.onChan w Channel.toReady)
  else s

/-- The channel acts on a valid answer, by the drive state and its own state (R158 to R165). -/
def actOnAnswer (w : Winch) (a : AnswerFields) (s : State) : State :=
  let state := (s.chan w).state
  if a.drive = .faulted then (if state = .faulted then s else faultChannel w s)
  else match state with
    | .absent => findDrive w a.drive s
    | .faulted => findDrive w a.drive s
    | .ready => answerInReady w a.drive s
    | .releasing => answerInReleasing w a.drive s
    | .streaming => answerInStreaming w a s
    | .braking => answerInBraking w a.drive s
    | .setting => answerInSetting w a s

/-- ARMING ends when the fourth channel streams: HOLD at the hold position, stop cause ARMED, the ARMED notice (R53). -/
def finishArming (s : State) : State :=
  notice .armed 0
    (((s.onFcu fun f => { f with flight := .hold, cause := .armed }).onPln fun p =>
        { p with holdPos := p.pos, vel := Vec3.zero }).onMrk fun m => { m with holdPending := false })

/-- PARKING ends when the fourth channel is READY: PARKED, the retained pose at the hold position, the PARKED notice
(R57). -/
def finishParking (s : State) : State :=
  notice .parked 0 (writePose ⟨s.pln.holdPos, true, .park⟩ (s.onFcu fun f => { f with flight := .parked }))

/-- FCU watches the channel states in ARMING and PARKING (R53, R57). -/
def watchChannels (s : State) : State :=
  if s.fcu.flight = .arming ∧ (s.ch.chans.all fun c => c.state = .streaming) then finishArming s
  else if s.fcu.flight = .parking ∧ (s.ch.chans.all fun c => c.state = .ready) then finishParking s
  else s

/-- A valid answer copied into the last answer, the period answered, the miss count 0 (R158). -/
def Channel.take (a : AnswerFields) (c : Channel) : Channel :=
  { c with last := ⟨some a.drive, a.lengthValid, a.length, a.tension⟩, answered := true, miss := 0 }

/-- An answer arriving on a drive link: a bad frame, or taken and acted on (R156, R158). -/
def driveAnswer (w : Winch) (bytes : List Byte) (s : State) : State :=
  match validAnswer (s.chan w) bytes with
  | none => badFrame w s
  | some a => watchChannels (actOnAnswer w a (s.onChan w (Channel.take a)))

/-- DRIVE_ANSWER (R158). -/
def execDriveAnswer (w : Winch) (bytes : List Byte) (s : State) : Host.Outcome State Fault Refusal :=
  done (driveAnswer w bytes s)

/-! ## Timeouts -/

/-- What a channel's state timer does when it expires in a state; there is no such expiry in another state, with the timer
stopped, or before the time left has passed (R167; log 2, log 3). -/
def stateExpiry (w : Winch) (state : ChanState) (act : State → State) (s : State) : State :=
  if (s.chan w).state = state then atExpiry (s.chan w).timer act s else s

/-- Arming ends in failure: PARKING, a brake request to every channel, ARM_FAILED (R54). -/
def failArming (w : Winch) (s : State) : State :=
  notice .armFailed (winchNumber w)
    (onAllChans Channel.brake
      ((s.onFcu fun f => { f with flight := .parking }).onPln fun p => { p with vel := Vec3.zero }))

/-- A release timeout: ARM_TIMEOUT, and in ARMING the arming fails (R167, R54). -/
def releaseTimeout (w : Winch) (s : State) : State :=
  let s := report .armTimeout (winchNumber w) none (s.onChan w fun c => { c with timer := none })
  if s.fcu.flight = .arming then failArming w s else s

/-- RELEASE_TIMEOUT (R54). -/
def execReleaseTimeout (w : Winch) (s : State) : Host.Outcome State Fault Refusal :=
  done (stateExpiry w .releasing (releaseTimeout w) s)

/-- BRAKE_TIMEOUT: CHANNEL_LOST, the channel stays BRAKING, and the timeout starts again (R167). -/
def execBrakeTimeout (w : Winch) (s : State) : Host.Outcome State Fault Refusal :=
  done (stateExpiry w .braking (loseChannel w fun c => { c with timer := some stateTimeout }) s)

/-- A setting operation fails: SETTING channels to READY, the retained pose invalid and stored, the kind NONE,
REFERENCE_FAILED naming the channel (R178). -/
def failSetting (w : Winch) (s : State) : State :=
  notice .referenceFailed (winchNumber w) (writePose { s.fcu.pose with valid := false } (endSettingOp s))

/-- A set timeout: SETTING_TIMEOUT, and the operation fails (R167, R178). -/
def settingTimeout (w : Winch) (s : State) : State := failSetting w (report .settingTimeout (winchNumber w) none s)

/-- SET_TIMEOUT (R167, R178). -/
def execSetTimeout (w : Winch) (s : State) : Host.Outcome State Fault Refusal :=
  done (stateExpiry w .setting (settingTimeout w) s)

/-! ## Setting operations -/

/-- A setting operation starts: its record, and a set request with its setpoint to every involved channel (R175,
R176). -/
def startSetting (kind : SettingKind) (point : Vec3) (involved : Quad Bool) (s : State) : State :=
  let lengths := setpointsAt s point
  let requests := involved.zip lengths fun i l => (i, l)
  s.onCh fun c =>
    { c with
      chans := c.chans.zip requests fun ch r => if r.1 then ch.setRequest r.2 else ch
      op := ⟨kind, point, involved⟩ }

/-- The home point in µm. -/
def homePoint (s : State) : Vec3 := toMicrons s.sol.home

/-- REFERENCE's checks (R175). -/
def referenceChecks (s : State) : List (Bool × ErrorCode × Nat) :=
  [(s.fcu.flight ≠ .parked, .wrongState, 0),
    (busy s, .busy, 0),
    (!s.sol.homeValid, .badValue, 0),
    ((s.env.blockedAt (homePoint s)).isSome, .homeBlocked, (s.env.blockedAt (homePoint s)).getD 0),
    (winchBits (notReady s) ≠ 0, .channelNotReady, winchBits (notReady s))]

/-- REFERENCE (R175). -/
def execReference (seat : Seat) (d0 d1 : Byte) (s : State) : Host.Outcome State Fault Refusal :=
  done (decodeCommand 0x1B seat [d0, d1]
    (fun s => answer seat 0x1B (referenceChecks s)
      (fun s => startSetting .reference (homePoint s) (Quad.fill true) s) s) s)

/-- How many of four are so. -/
def countTrue (q : Quad Bool) : Nat := (q.toList.filter id).length

/-- Bits for the channels with length-valid yes whose length differs from the setpoint by more than the pose tolerance
(R176, check 8). -/
def validMismatch (s : State) (p : Vec3) : Quad Bool := (overTolerance s p).zip (lengthInvalid s) fun far inv => far && !inv

/-- DECLARE_POSE's checks after LINK's, at a point in mm (R176). -/
def declareChecks (pointMm : Vec3) (s : State) : List (Bool × ErrorCode × Nat) :=
  let p := toMicrons pointMm
  [(s.fcu.flight ≠ .parked, .wrongState, 0),
    (busy s, .busy, 0),
    (!legalPositionMm pointMm, .badValue, 0),
    (!s.env.boxValid, .noWorkspace, 0),
    ((poseBlock s.env p).isSome, .poseBlocked, (poseBlock s.env p).getD 0),
    (winchBits (notReady s) ≠ 0, .channelNotReady, winchBits (notReady s)),
    (1 < countTrue (lengthInvalid s), .notReferenced, winchBits (lengthInvalid s)),
    (winchBits (validMismatch s p) ≠ 0, .poseMismatch, winchBits (validMismatch s p))]

/-- DECLARE_POSE taken: the operation starts on the channels with an invalid length, and completes at once when there is
none (R176, R177). -/
def startDeclare (p : Vec3) (s : State) : State := settleSetting (startSetting .declare p (lengthInvalid s) s)

/-- DECLARE_POSE (R176). -/
def execDeclarePose (seat : Seat) (payload : List Byte) (s : State) : Host.Outcome State Fault Refusal :=
  let pointMm := vecAt payload 0 4
  done (decodeCommand 0x2D seat payload
    (fun s => answer seat 0x2D (declareChecks pointMm s) (startDeclare (toMicrons pointMm)) s) s)

/-! ## Restarting a drive -/

/-- A channel told to restart its drive (R180). -/
def Channel.restart (c : Channel) : Channel :=
  { c.toAbsent with restartPending := true, last := { c.last with lengthValid := false } }

/-- RESTART_DRIVE's checks (R180; their order is the model's choice, log 31). -/
def restartChecks (d0 : Byte) (s : State) : List (Bool × ErrorCode × Nat) :=
  [(s.fcu.flight ≠ .parked ∧ s.fcu.flight ≠ .tripped, .wrongState, 0),
    (settingInProgress s, .busy, 0),
    ((winchOf d0.toNat).isNone, .badValue, 0)]

/-- RESTART_DRIVE taken: the named channel alone changes (R180). -/
def restartDrive (d0 : Byte) (s : State) : State :=
  match winchOf d0.toNat with
  | some w => s.onChan w Channel.restart
  | none => s

/-- RESTART_DRIVE (R180). -/
def execRestartDrive (seat : Seat) (d0 d1 : Byte) (s : State) : Host.Outcome State Fault Refusal :=
  done (decodeCommand 0x1C seat [d0, d1]
    (fun s => answer seat 0x1C (restartChecks d0 s) (restartDrive d0) s) s)

end Sys2Proof.Machine
end

