-- ==== Sys2Proof/Machine/Markers.lean ====
section
/-! DEFINITION. The marker unit: the examination of a committed position, and MARKER_SET, MARKER_CLEAR and MARKER_READ
(07). -/

namespace Sys2Proof.Machine

open Sys2Proof

/-- The four marker slots in number order. -/
def markerSlots : List (Fin 4) := [0, 1, 2, 3]

/-- A slot of the marker table named by a number, if there is such a slot (R126). -/
def slotOf (n : Nat) : Option (Fin 4) := if h : n < 4 then some ⟨n, h⟩ else none

/-- The state with one marker slot replaced. -/
def putMarker (i : Fin 4) (m : Option Marker) (s : State) : State := s.onMrk fun k => { k with markers := k.markers.set i m }

/-- MRK acts on the entry of an armed marker: MARKER_ENTERED, and hold-pending for a HOLD_AT_END marker entered by a TRACK
sample (R133). -/
def actOnEntry (sampleState : FlightState) (i : Fin 4) (m : Marker) (s : State) : State :=
  let s := if m.spec.holdAtEnd ∧ sampleState = .track then s.onMrk fun k => { k with holdPending := true } else s
  notice .markerEntered i.val s

/-- One slot examined at a committed position (R131). -/
def examineMarker (sampleState : FlightState) (p : Vec3) (s : State) (i : Fin 4) : State :=
  match s.mrk.markers.get i with
  | none => s
  | some m =>
    let now := insideMarker m.spec p
    let t := putMarker i (some { m with inside := now }) s
    if now && !m.inside && m.spec.armed then actOnEntry sampleState i m t else t

/-- The states whose samples MRK examines (R131). -/
def examines (f : FlightState) : Bool :=
  f = .hold || f = .track || f = .stick || f = .stream || f = .stopping

/-- MRK examines a committed position, by the flight state in which PLN produced it, the slots in number order (R131). -/
def examineMarkers (sampleState : FlightState) (p : Vec3) (s : State) : State :=
  if examines sampleState then markerSlots.foldl (examineMarker sampleState p) s else s

/-- MARKER_READ's effect: MARKER_INFO for the slot, or NO_SUCH_MARKER (R129). -/
def markerRead (seat : Seat) (d0 : Byte) (s : State) : State :=
  match slotOf d0.toNat with
  | none => refuse seat .noSuchMarker 0 s
  | some i => reply seat (.markerInfo d0.toNat (s.mrk.markers.get i) s.mrk.holdPending) s

/-- MARKER_READ (R129). -/
def execMarkerRead (seat : Seat) (d0 d1 : Byte) (s : State) : Host.Outcome State Fault Refusal :=
  done (decodeCommand 0x19 seat [d0, d1] (markerRead seat d0) s)

/-- MARKER_CLEAR's effect: the slot emptied, detail 1 when it was empty already (R128). -/
def markerClear (seat : Seat) (d0 : Byte) (s : State) : State :=
  match slotOf d0.toNat with
  | none => refuse seat .noSuchMarker 0 s
  | some i =>
    if s.mrk.markers.get i = none then ack seat 0x1A 1 s else putMarker i none (ack seat 0x1A 0 s)

/-- MARKER_CLEAR (R128). -/
def execMarkerClear (seat : Seat) (d0 d1 : Byte) (s : State) : Host.Outcome State Fault Refusal :=
  done (decodeCommand 0x1A seat [d0, d1] (markerClear seat d0) s)

/-- MARKER_SET's effect: the slot written whole, its inside flag from the present commanded position, no notice. R127 gives no
order to the two refusals: with a marker number above 3 and an illegal field at once the model answers NO_SUCH_MARKER
(R127; log 27). -/
def markerSet (seat : Seat) (payload : List Byte) (s : State) : State :=
  match slotOf (unsignedAt payload 0 1) with
  | none => refuse seat .noSuchMarker 0 s
  | some i => match markerOf payload with
    | none => refuse seat .badValue 0 s
    | some spec => putMarker i (some ⟨spec, insideMarker spec (commandedPosition s)⟩) (ack seat 0x27 0 s)

/-- MARKER_SET (R127). -/
def execMarkerSet (seat : Seat) (payload : List Byte) (s : State) : Host.Outcome State Fault Refusal :=
  done (decodeCommand 0x27 seat payload (markerSet seat payload) s)

end Sys2Proof.Machine
end

