-- ==== Sys2Proof/Machine/Queue.lean ====
section
/-! DEFINITION. The move queue: beginning a move, the path profile, arrival and the move-end decision, and the commands
RESUME, STEP, FLUSH_MOVES and APPEND_MOVE (04). -/

namespace Sys2Proof.Machine

open Sys2Proof

/-! ## The path -/

/-- The target of a move in µm. -/
def Move.targetPos (m : Move) : Vec3 := toMicrons m.target

/-- A move's acceleration at its begin, in mm/s² (R66). -/
def beginAccel (l : Limits) (m : Move) : Nat :=
  match m.accel with
  | some a => min a l.amoveMax
  | none => l.amove

/-- The path length: the length root of the squared distance (R76). -/
def pathLength (start target : Vec3) : Nat := lengthRoot (sqDist target start)

/-- A coordinate of the path at a progress s of D: S plus (T − S)·s/D rounded (R78). -/
def pathCoordinate (start target : Int) (s dist : Nat) : Int := start + roundInt ((target - start) * s) dist

/-- The point of the path at a progress (R78). -/
def pathPoint (start target : Vec3) (s dist : Nat) : Vec3 :=
  ⟨pathCoordinate start.x target.x s dist, pathCoordinate start.y target.y s dist, pathCoordinate start.z target.z s dist⟩

/-- The ceiling step of the profile: toward cm, by at most Δv (R77, step 1). -/
def ceilingStep (v dv cm : Nat) : Nat := if v ≤ cm then min (v + dv) cm else max (v - dv) cm

/-- The path speed of the next sample, a in µm/s² (R77, steps 1 and 2). -/
def profileSpeed (a dv cm v r : Nat) : Nat := min (ceilingStep v dv cm) (max (v - dv) (isqrt (2 * a * r)))

/-- The step of a sample on a path, at least 1 µm and at most r (R77, step 3; R84). -/
def pathStep (v r ts : Nat) : Nat := min r (max 1 (roundNat (v * ts) 1000000))

/-- The speed of a path stop's next sample (R30, R84). -/
def stopSpeed (v rate : Nat) : Nat := v - rate

/-- The servo events a dwell lasts, at least 1 (R79). -/
def dwellEvents (ms ts : Nat) : Nat := max 1 (roundNat (ms * 1000) ts)

/-! ## Beginning a move -/

/-- Whether a move's segment passes its begin validation (R74). -/
def beginPasses (m : Move) (s : State) : Bool :=
  let start := commandedPosition s
  inBox s.env.shrunk start && inBox s.env.shrunk m.targetPos && !s.env.pathBlocked start m.targetPos

/-- A begin that failed: the move discarded, a whole-queue flush, PATH_REJECTED, and HOLD at the present position
(R75). -/
def rejectPath (s : State) : State := enterHold .pathRejected (report .pathRejected 0 none (flushQueue (emptyHand s)))

/-- The move in hand at its begin (R69, R74, R76). -/
def freshHand (m : Move) (step : Bool) (s : State) : MoveInHand :=
  let start := commandedPosition s
  { move := m, accel := beginAccel s.env.limits m, start := start, dist := pathLength start m.targetPos, prog := 0,
    speed := 0, phase := .moving, dwellLeft := 0, stepFlag := step }

/-- A move that passed starts: TRACK, with MOVE_BEGUN if flagged (R76). -/
def startMove (m : Move) (step : Bool) (s : State) : State :=
  let hand := freshHand m step s
  let s := (s.onFcu fun f => { f with flight := .track }).onPln fun p => { p with inHand := some hand }
  if m.notifyBegin then moveNotice .moveBegun m s else s

/-- Arrival: v becomes 0, MOVE_DONE if flagged; then a dwell begins, or the move-end decision `onEnd` is made (R79). -/
def arriveWith (onEnd : State → State) (hand : MoveInHand) (s : State) : State :=
  let hand := { hand with prog := hand.dist, speed := 0 }
  let s := s.onPln fun p => { p with inHand := some hand }
  let s := if hand.move.notifyDone then moveNotice .moveDone hand.move s else s
  match hand.move.dwell with
  | none => onEnd s
  | some ms =>
    if ms = 0 then onEnd s
    else s.onPln fun p =>
      { p with inHand := some { hand with phase := .dwelling, dwellLeft := dwellEvents ms s.fru.timing.ts } }

/-- The begin of a move that has left the queue: its validation, its start, and its arrival at once when it has no
length (R74, R75, R76). -/
def beginWith (onEnd : State → State) (m : Move) (step : Bool) (s : State) : State :=
  if beginPasses m s then
    let hand := freshHand m step s
    let s := startMove m step s
    if hand.dist = 0 then arriveWith onEnd hand s else s
  else rejectPath s

/-! ## Move-end -/

/-- The first two cases of the move-end decision: a marker hold, then a finished STEP (R81). -/
def earlyEnd (step : Bool) (s : State) : Option State :=
  if s.mrk.holdPending then some (enterHold .markerHold s)
  else if step then some (enterHold .stepDone s)
  else none

/-- The move-end decision over the records of the queue, the move in hand emptied first; moves without length begun here
chain on (R81, R76). -/
def moveEndFrom : List Move → Bool → State → State
  | [], step, s =>
    let s := emptyHand s
    match earlyEnd step s with
    | some t => t
    | none => enterHold .queueDrained (notice .queueDrained 0 s)
  | head :: rest, step, s =>
    let s := emptyHand s
    match earlyEnd step s with
    | some t => t
    | none =>
      if head.tagged then enterHold .cueReached (moveNotice .cueReached head s)
      else beginWith (moveEndFrom rest false) head false (s.onPln fun p => { p with queue := rest })

/-- The move-end decision (R81). -/
def moveEnd (step : Bool) (s : State) : State := moveEndFrom s.pln.queue step s

/-! ## RESUME and STEP -/

/-- The suspended move, if the move in hand is one (R69). -/
def suspendedMove (s : State) : Option Move :=
  match s.pln.inHand with
  | some m => if m.phase = .suspended then some m.move else none
  | none => none

/-- The move RESUME or STEP would begin, with the state in which it has left the queue: the suspended move, else the
head, whatever its tag (R82). -/
def nextMove (s : State) : Option (Move × State) :=
  match suspendedMove s with
  | some m => some (m, emptyHand s)
  | none => match s.pln.queue with
    | [] => none
    | head :: rest => some (head, s.onPln fun p => { p with queue := rest })

/-- RESUME and STEP: WRONG_STATE, QUEUE_EMPTY, or ACK with detail 0 when the move began and 1 when it failed; a move that
begins cancels a PRIMED stream first (R82, R83, R124). -/
def resumeWith (type : BitVec 6) (step : Bool) (seat : Seat) (s : State) : State :=
  if s.fcu.flight ≠ .hold then refuse seat .wrongState 0 s
  else match nextMove s with
    | none => refuse seat .queueEmpty 0 s
    | some (m, t) =>
      if beginPasses m t then beginWith (moveEnd step) m step (cancelPrimed (ack seat type 0 t))
      else beginWith (moveEnd step) m step (ack seat type 1 t)

/-- RESUME (R82). -/
def execResume (seat : Seat) (d0 d1 : Byte) (s : State) : Host.Outcome State Fault Refusal :=
  done (decodeCommand 0x0C seat [d0, d1] (resumeWith 0x0C false seat) s)

/-- STEP (R83). -/
def execStep (seat : Seat) (d0 d1 : Byte) (s : State) : Host.Outcome State Fault Refusal :=
  done (decodeCommand 0x0D seat [d0, d1] (resumeWith 0x0D true seat) s)

/-! ## FLUSH_MOVES -/

/-- A suspended move discarded; an active one left as it stands (R86). -/
def discardSuspended (s : State) : State := if (suspendedMove s).isSome then emptyHand s else s

/-- FLUSH_MOVES taken: from DIRECTOR its own records are removed, from PILOT or SAFETY the whole queue and a suspended
move (R86, R87). -/
def flushMoves (seat : Seat) (s : State) : State :=
  if seat = .director then s.onPln fun p => { p with queue := p.queue.filter fun m => m.origin ≠ .director }
  else discardSuspended (flushQueue s)

/-- FLUSH_MOVES (R86, R87). -/
def execFlushMoves (seat : Seat) (d0 d1 : Byte) (s : State) : Host.Outcome State Fault Refusal :=
  done (decodeCommand 0x14 seat [d0, d1] (fun s => answer seat 0x14 [] (flushMoves seat) s) s)

/-! ## APPEND_MOVE -/

/-- The most records the move queue holds (R68). -/
def queueCapacity : Nat := 32

/-- The target of the suspended or active move (R71, case 2). -/
def handTarget (s : State) : Option Vec3 :=
  match s.pln.inHand with
  | some m => if m.phase = .abandoned then none else some m.move.targetPos
  | none => none

/-- The resting place the flight state gives, if any (R71, cases 3 and 4). -/
def restingPlace (s : State) : Option Vec3 :=
  match s.fcu.flight with
  | .hold => some s.pln.holdPos
  | .arming => some s.pln.holdPos
  | .parking => some s.pln.holdPos
  | .parked => if s.fcu.pose.valid then some s.fcu.pose.pos else none
  | _ => none

/-- The predicted start of an appended move (R71). -/
def predictedStart (s : State) : Option Vec3 :=
  match s.pln.queue.getLast? with
  | some m => some m.targetPos
  | none => (handTarget s).or (restingPlace s)

/-- APPEND_MOVE's checks, in their order (R72, R65). -/
def appendChecks (m : Move) (payload : List Byte) (s : State) : List (Bool × ErrorCode × Nat) :=
  [(s.fcu.flight = .tripped, .wrongState, 0),
    (payload.length ≠ moveLength payload, .badLength, 0),
    (!legalMove payload m, .badValue, 0),
    (queueCapacity ≤ s.pln.queue.length, .queueFull, 0),
    (!s.env.boxValid, .noWorkspace, 0),
    (!inBox s.env.shrunk m.targetPos, .outOfWorkspace, 0),
    ((s.env.blockedAt m.targetPos).isSome, .targetBlocked, 0),
    ((predictedStart s).any fun p => s.env.pathBlocked p m.targetPos, .pathBlocked, 0)]

/-- The record as it is stored: cruise speed and accel clamped to the limits in force (R66). -/
def clampMove (l : Limits) (m : Move) : Move :=
  { m with cruise := min m.cruise l.vmax, accel := m.accel.map fun a => min a l.amoveMax }

/-- APPEND_MOVE's effect: refused by the first failing check, or appended at the tail with ACK detail 1 when a field was
clamped and 0 otherwise (R66, R72). -/
def appendMove (seat : Seat) (payload : List Byte) (s : State) : State :=
  let m := moveOf payload seat
  match firstError (appendChecks m payload s) with
  | some (code, detail) => refuse seat code detail s
  | none =>
    let stored := clampMove s.env.limits m
    (ack seat 0x21 (if stored = m then 0 else 1) s).onPln fun p => { p with queue := p.queue ++ [stored] }

/-- APPEND_MOVE (R72). -/
def execAppendMove (seat : Seat) (payload : List Byte) (s : State) : Host.Outcome State Fault Refusal :=
  done (decodeCommand 0x21 seat payload (appendMove seat payload) s)

end Sys2Proof.Machine
end

