-- ==== Sys2Proof/Machine/Stick.lean ====
section
/-! DEFINITION. Stick flying: TAKE_STICK, DROP_STICK, the STICK record and the stick timer's expiry (05; 04 R89). -/

namespace Sys2Proof.Machine

open Sys2Proof

/-- The full stick timeout in µs (R92, R95). -/
def stickTimeoutFull (s : State) : Nat := 1000 * s.env.limits.stickTimeout

/-- One axis of the path speed decomposed: v·(T − S)/D rounded, limited to ±vmax in µm/s (R89). -/
def decomposeAxis (vmax speed dist : Nat) (start target : Int) : Int :=
  clampInt (-(1000 * vmax : Nat)) (1000 * vmax : Nat) (roundInt (speed * (target - start)) dist)

/-- The axis velocities with which the stick takes a moving move over (R89). -/
def decompose (vmax : Nat) (m : MoveInHand) : Vec3 :=
  let t := toMicrons m.move.target
  ⟨decomposeAxis vmax m.speed m.dist m.start.x t.x, decomposeAxis vmax m.speed m.dist m.start.y t.y,
    decomposeAxis vmax m.speed m.dist m.start.z t.z⟩

/-- A moving move suspended where the carrier is: at rest, its step flag cleared (R84, R89). -/
def MoveInHand.suspend (m : MoveInHand) : MoveInHand := { m with phase := .suspended, speed := 0, stepFlag := false }

/-- What TAKE_STICK in TRACK does to the move in hand, and the velocities it hands over (R89). -/
def handOverMove (s : State) : State :=
  match s.pln.inHand with
  | none => s.onPln fun p => { p with vel := Vec3.zero }
  | some m => match m.phase with
    | .moving => s.onPln fun p => { p with inHand := some m.suspend, vel := decompose s.env.limits.vmax m }
    | .dwelling => s.onPln fun p => { p with inHand := none, vel := Vec3.zero }
    | .suspended => s.onPln fun p => { p with vel := Vec3.zero }
    | .abandoned => s.onPln fun p => { p with vel := Vec3.zero }

/-- The stick takes the carrier: q 0, the timer started with the full timeout, the state STICK (R96). -/
def enterStick (s : State) : State :=
  (s.onFcu fun f => { f with flight := .stick }).onPln fun p =>
    { p with stick := { p.stick with q := Vec3.zero, timer := some (stickTimeoutFull s) } }

/-- TAKE_STICK by flight state, after its ACK (R96, R97, R98). -/
def takeStick (s : State) : State :=
  match s.fcu.flight with
  | .hold => enterStick ((cancelPrimed s).onPln fun p => { p with vel := Vec3.zero })
  | .track => enterStick (handOverMove s)
  | .stream => enterStick (cancelStream s)
  | _ => s

/-- The states in which TAKE_STICK is taken (R96). -/
def takesStick (f : FlightState) : Bool := f = .hold || f = .track || f = .stream || f = .stick

/-- TAKE_STICK (R96). -/
def execTakeStick (seat : Seat) (d0 d1 : Byte) (s : State) : Host.Outcome State Fault Refusal :=
  done (decodeCommand 0x0E seat [d0, d1]
    (fun s => answer seat 0x0E [(!takesStick s.fcu.flight, .wrongState, 0)] takeStick s) s)

/-- DROP_STICK taken: an axis stop at Δv_s with stop cause STICK_DROPPED (R102). -/
def dropStick (s : State) : State := startStop .axis (stepStick s) .stickDropped (stickRest s)

/-- DROP_STICK (R102). -/
def execDropStick (seat : Seat) (d0 d1 : Byte) (s : State) : Host.Outcome State Fault Refusal :=
  done (decodeCommand 0x0F seat [d0, d1]
    (fun s => answer seat 0x0F [(s.fcu.flight ≠ .stick, .wrongState, 0)] dropStick s) s)

/-- A STICK record at PLN: taken from PILOT with 6 bytes in STICK, discarded and counted otherwise; never a reply
(R93). -/
def stickRecord (seat : Seat) (payload : List Byte) (s : State) : State :=
  if seat = .pilot ∧ payload.length = 6 ∧ s.fcu.flight = .stick then
    s.onPln fun p =>
      { p with stick :=
          { p.stick with q := clampDeflection (vecAt payload 0 2), timer := some (stickTimeoutFull s) } }
  else
    s.onPln fun p => { p with stick := { p.stick with discards := satSucc cap16 p.stick.discards } }

/-- STICK: LINK hands it to PLN without its checks (R202, R93). -/
def execStick (seat : Seat) (payload : List Byte) (s : State) : Host.Outcome State Fault Refusal :=
  done (decodeRecord ⟨seat, 0x20, payload⟩ (stickRecord seat payload) s)

/-- The stick timer expires: q becomes 0, the timer stops, STICK_TIMEOUT is one occurrence (R101). -/
def stickTimeout (s : State) : State := report .stickTimeout 0 none (stickRest s)

/-- STICK_TIMER_EXPIRY in STICK, when the time the timer has left has passed; a timer that a STICK record started again has
its full timeout to run, so that expiry does not happen (R101; log 2, log 3). -/
def execStickTimerExpiry (s : State) : Host.Outcome State Fault Refusal :=
  done (if s.fcu.flight = .stick then atExpiry s.pln.stick.timer stickTimeout s else s)

end Sys2Proof.Machine
end

