-- ==== Sys2Proof/Machine/Stream.lean ====
section
/-! DEFINITION. Streamed paths: the buffer's appends and its occupancy bands, STREAM_START, STREAM_DATA and STREAM_END
(06). -/

namespace Sys2Proof.Machine

open Sys2Proof

/-- The most samples the buffer holds (R105). -/
def streamCapacity : Nat := 64

/-! ## Occupancy bands -/

/-- The three band conditions at an occupancy: LOW, CRITICAL, HIGH (R114). -/
def bandLow (l : Limits) (n : Nat) : Bool := n ≤ l.lowWater

/-- CRITICAL (R114). -/
def bandCritical (n : Nat) : Bool := n ≤ 2

/-- HIGH (R114). -/
def bandHigh (n : Nat) : Bool := 60 ≤ n

/-- The notice of a band's entry, when it is entered and the state sends it (R114). -/
def bandNotice (code : NoticeCode) (sends was now : Bool) (n : Nat) (s : State) : State :=
  if sends && !was && now then notice code n s else s

/-- The band flags of a stream at its occupancy (R114). -/
def Stream.banded (l : Limits) (st : Stream) : Stream :=
  { st with inLow := bandLow l st.samples.length, inCritical := bandCritical st.samples.length,
            inHigh := bandHigh st.samples.length }

/-- The evaluation of the bands after an event that changed the occupancy: not in IDLE; the notices of an entry in PRIMED
and PLAYING (R114). -/
def evaluateBands (s : State) : State :=
  let st := s.pln.stream
  let n := st.samples.length
  let sends := st.state = .primed ∨ st.state = .playing
  if st.state = .idle then s
  else
    bandNotice .streamHigh sends st.inHigh (bandHigh n) n
      (bandNotice .streamCritical sends st.inCritical (bandCritical n) n
        (bandNotice .streamLow sends st.inLow (bandLow s.env.limits n) n
          (s.onPln fun p => { p with stream := p.stream.banded s.env.limits })))

/-! ## STREAM_START -/

/-- A stream primed with its start frame and first index (R109). -/
def Stream.primed (f0 : Nat) (i0 : BitVec 16) (st : Stream) : Stream :=
  { st with state := .primed, samples := [], expected := i0, startFrame := f0, gapReported := false, inLow := true,
            inCritical := true, inHigh := false }

/-- STREAM_START's checks (R109). -/
def streamStartChecks (f0 : Nat) (s : State) : List (Bool × ErrorCode × Nat) :=
  [(s.fcu.flight ≠ .hold ∨ s.pln.stream.state ≠ .idle, .wrongState, 0), (f0 ≤ s.fru.frames, .lateStart, 0)]

/-- STREAM_START (R109). -/
def execStreamStart (seat : Seat) (payload : List Byte) (s : State) : Host.Outcome State Fault Refusal :=
  let f0 := unsignedAt payload 0 4
  let i0 := BitVec.ofNat 16 (unsignedAt payload 4 2)
  done (decodeCommand 0x22 seat payload
    (fun s => answer seat 0x22 (streamStartChecks f0 s)
      (fun s => s.onPln fun p => { p with stream := p.stream.primed f0 i0 }) s) s)

/-! ## STREAM_DATA -/

/-- Positions given consecutive indices from E (R111). -/
def indexed (e : BitVec 16) (positions : List Vec3) : List Sample :=
  positions.zipIdx.map fun pi => ⟨e + BitVec.ofNat 16 pi.2, pi.1⟩

/-- Samples appended at the tail as far as they fit; E advances past each, and an append fills the gap (R111). -/
def Stream.append (positions : List Vec3) (st : Stream) : Stream :=
  let fits := positions.take (streamCapacity - st.samples.length)
  { st with samples := st.samples ++ indexed st.expected fits, expected := st.expected + BitVec.ofNat 16 fits.length,
            gapReported := st.gapReported && fits.isEmpty }

/-- An in-order record: its samples appended, STREAM_OVERFLOW when some do not fit, then the bands (R111). -/
def appendInOrder (positions : List Vec3) (s : State) : State :=
  let overflows := streamCapacity < s.pln.stream.samples.length + positions.length
  let s := s.onPln fun p => { p with stream := p.stream.append positions }
  evaluateBands (if overflows then report .streamOverflow 0 none s else s)

/-- A record ahead of E: discarded and counted, with one STREAM_GAP per gap (R113). -/
def streamAhead (s : State) : State :=
  let reported := s.pln.stream.gapReported
  let e := s.pln.stream.expected
  let s := s.onPln fun p =>
    { p with stream := { p.stream with gaps := satSucc cap16 p.stream.gaps, gapReported := true } }
  if reported then s else notice .streamGap (e.toNat % 256) s

/-- A discarded STREAM_DATA record is counted (R106, R110). -/
def discardStreamData (s : State) : State :=
  s.onPln fun p => { p with stream := { p.stream with discards := satSucc cap16 p.stream.discards } }

/-- Samples whose first index is J, taken by δ = J − E modulo 65,536: in order, behind, or ahead (R110 to R113). -/
def takeSamples (j : BitVec 16) (positions : List Vec3) (s : State) : State :=
  let δ := (j - s.pln.stream.expected).toNat
  if δ = 0 then appendInOrder positions s
  else if 32768 ≤ δ then
    (if positions.length ≤ 65536 - δ then s else appendInOrder (positions.drop (65536 - δ)) s)
  else streamAhead s

/-- Whether the stream state accepts samples (R107). -/
def StreamState.accepts : StreamState → Bool
  | .primed => true
  | .playing => true
  | .idle => false
  | .ending => false

/-- A STREAM_DATA record at PLN: discarded and counted, or taken; never a reply (R110). -/
def streamRecord (seat : Seat) (payload : List Byte) (s : State) : State :=
  match sampleCount payload with
  | none => discardStreamData s
  | some k =>
    let positions := samplesOf payload k
    if seat = .director ∧ positions.all legalPosition ∧ s.pln.stream.state.accepts then
      takeSamples (BitVec.ofNat 16 (unsignedAt payload 0 2)) positions s
    else discardStreamData s

/-- STREAM_DATA: LINK hands it to PLN without its checks (R202, R110). -/
def execStreamData (seat : Seat) (payload : List Byte) (s : State) : Host.Outcome State Fault Refusal :=
  done (decodeRecord ⟨seat, 0x23, payload⟩ (streamRecord seat payload) s)

/-! ## STREAM_END -/

/-- The end of a stream in ENDING: IDLE, and an axis stop at Δv_st with stop cause STREAM_ENDED (R122). -/
def endStream (s : State) : State :=
  startStop .axis (stepStream s) .streamEnded (s.onPln fun p => { p with stream := { p.stream with state := .idle } })

/-- STREAM_END taken, by the stream state (R121). -/
def streamEnd (s : State) : State :=
  match s.pln.stream.state with
  | .primed => cancelStream s
  | .playing =>
    if s.pln.stream.samples = [] then endStream s
    else s.onPln fun p => { p with stream := { p.stream with state := .ending } }
  | .idle => s
  | .ending => s

/-- STREAM_END (R121). -/
def execStreamEnd (seat : Seat) (d0 d1 : Byte) (s : State) : Host.Outcome State Fault Refusal :=
  done (decodeCommand 0x15 seat [d0, d1]
    (fun s => answer seat 0x15 [(!s.pln.stream.state.accepts, .wrongState, 0)] streamEnd s) s)

end Sys2Proof.Machine
end

