-- ==== Sys2Proof/Machine/Servo.lean ====
section
/-! DEFINITION. The servo event: the planner's sample by flight state, its commitment, and what it concludes (03 R43, R44,
R61; 04 R77 to R80, R84; 05 R99, R100, R103; 06 R115 to R123); then the channels, the schedule of the next event, the pose
snapshot and FRAME_POSE (08 R139, R147, R149, R150). -/

namespace Sys2Proof.Machine

open Sys2Proof

/-! ## Samples -/

/-- The kinds of sample PLN produces. A follower sample carries the stream position it plays and whether it is the
stream's first. -/
inductive SampleKind where
  | rest
  | moving
  | dwelling
  | pathStop
  | stick
  | follow (played : Vec3) (first : Bool)
  | axisStop
deriving DecidableEq, Repr

/-- A sample prepared: its kind, its candidate position, and the state with the planner's own quantities updated. -/
structure Prepared where
  kind : SampleKind
  cand : Vec3
  state : State
deriving DecidableEq, Repr

/-- The speed ceiling computed at the position before the step (R36). -/
def computeCeiling (s : State) : State :=
  s.onEnv fun e => { e with ceiling := e.ceilingAt s.pln.pos (tensionWarning s) }

/-- A move's step along its path: progress and speed after it, and its point (R77, R78). -/
def advanceHand (m : MoveInHand) (speed step : Nat) : MoveInHand := { m with prog := m.prog + step, speed := speed }

/-- The point of the move in hand at its progress (R78). -/
def MoveInHand.point (m : MoveInHand) : Vec3 := pathPoint m.start m.move.targetPos m.prog m.dist

/-- The move in hand after a path sample under a ceiling in µm/s (R77). -/
def profileStep (ts ceiling : Nat) (m : MoveInHand) : MoveInHand :=
  let r := m.dist - m.prog
  let v := profileSpeed (1000 * m.accel) (stepMove m.accel ts) (min ceiling (1000 * m.move.cruise)) m.speed r
  advanceHand m v (pathStep v r ts)

/-- A path sample in MOVING (R77). -/
def prepareMoving (m : MoveInHand) (s : State) : Prepared :=
  let s := computeCeiling s
  let m := profileStep s.fru.timing.ts s.env.ceiling m
  ⟨.moving, m.point, s.onPln fun p => { p with inHand := some m }⟩

/-- A dwell sample: the target again, the dwell left falls by one (R80). -/
def prepareDwelling (m : MoveInHand) (s : State) : Prepared :=
  let s := computeCeiling s
  ⟨.dwelling, m.move.targetPos, s.onPln fun p => { p with inHand := some { m with dwellLeft := m.dwellLeft - 1 } }⟩

/-- The hold sample (R44). -/
def prepareRest (s : State) : Prepared := ⟨.rest, s.pln.holdPos, s.onPln fun p => { p with vel := Vec3.zero }⟩

/-- A sample in TRACK, by the phase of the move in hand. -/
def prepareTrack (s : State) : Prepared :=
  match s.pln.inHand with
  | none => ⟨.rest, s.pln.pos, s⟩
  | some m => match m.phase with
    | .moving => prepareMoving m s
    | .dwelling => prepareDwelling m s
    | .suspended => ⟨.rest, s.pln.pos, s⟩
    | .abandoned => ⟨.rest, s.pln.pos, s⟩

/-- The move in hand after a path stop's sample at a rate: no step at rest (R30, R84). -/
def stopStep (ts rate : Nat) (m : MoveInHand) : MoveInHand :=
  let v := stopSpeed m.speed rate
  if v = 0 then { m with speed := 0 } else advanceHand m v (pathStep v (m.dist - m.prog) ts)

/-- A sample of a path stop (R30, R84): at rest the previous position again. -/
def preparePathStop (rate : Nat) (m : MoveInHand) (s : State) : Prepared :=
  let m := stopStep s.fru.timing.ts rate m
  ⟨.pathStop, if m.speed = 0 then s.pln.pos else m.point, s.onPln fun p => { p with inHand := some m }⟩

/-- The candidate of an axis sample from candidate velocities: soft walls, then the step (R100, R103, R118). -/
def prepareAxes (kind : SampleKind) (vel : Vec3) (s : State) : Prepared :=
  let ts := s.fru.timing.ts
  let v := s.env.softWalls ts s.pln.pos vel
  ⟨kind, vadd s.pln.pos (Vec3.ofAxes fun a => displacement (v.get a) ts), s.onPln fun p => { p with vel := v }⟩

/-- A target velocity limited to −c..+c (R99, R117). -/
def limitTo (c : Nat) (v : Vec3) : Vec3 := Vec3.ofAxes fun a => clampInt (-(c : Int)) c (v.get a)

/-- Each axis velocity moved toward its target by at most a step (R99, R117). -/
def approachAxes (step : Nat) (vel target : Vec3) : Vec3 := Vec3.ofAxes fun a => approach (vel.get a) (target.get a) step

/-- The target velocity of a deflection: q·v_stick, exact (R99). -/
def stickTarget (vstick : Nat) (q : Vec3) : Vec3 := Vec3.ofAxes fun a => q.get a * vstick

/-- A stick sample (R99, R100). -/
def prepareStick (s : State) : Prepared :=
  let s := computeCeiling s
  let target := limitTo s.env.ceiling (stickTarget s.env.limits.vstick s.pln.stick.q)
  prepareAxes .stick (approachAxes (stepStick s) s.pln.vel target) s

/-- A sample of an axis stop: each velocity falls toward 0 by at most the rate (R103, R123). -/
def prepareAxisStop (rate : Nat) (s : State) : Prepared :=
  prepareAxes .axisStop (approachAxes rate s.pln.vel Vec3.zero) s

/-- The velocity that would reach a position in one servo period: the difference·1,000,000/Ts rounded (R117). -/
def followTarget (ts : Nat) (p played : Vec3) : Vec3 :=
  Vec3.ofAxes fun a => roundInt ((played.get a - p.get a) * 1000000) ts

/-- A follower sample: the head sample leaves the buffer, the bands are evaluated, and the follower aims at it (R117). -/
def prepareFollow (first : Bool) (head : Sample) (rest : List Sample) (s : State) : Prepared :=
  let s := evaluateBands (s.onPln fun p => { p with stream := { p.stream with samples := rest } })
  let s := computeCeiling s
  let target := limitTo s.env.ceiling (followTarget s.fru.timing.ts s.pln.pos head.pos)
  prepareAxes (.follow head.pos first) (approachAxes (stepStream s) s.pln.vel target) s

/-- An empty buffer while PLAYING: STREAM_UNDERRUN, the stream cancelled, an axis stop at Δv_st (R120). -/
def underrun (s : State) : State :=
  startStop .axis (stepStream s) .streamUnderrun (cancelStream (report .streamUnderrun 0 none s))

/-- A sample in STREAM: the follower's, or on an empty buffer the first sample of the stop (R117, R120). -/
def prepareStream (s : State) : Prepared :=
  match s.pln.stream.samples with
  | head :: rest => prepareFollow false head rest s
  | [] =>
    if s.pln.stream.state = .playing then prepareAxisStop (stepStream s) (underrun s)
    else prepareAxisStop (stepStream s) (endStream s)

/-- The first axis on which a start of play is over the join tolerance (R115). -/
def joinAxis (tolerance : Nat) (p q : Vec3) : Nat :=
  if tolerance < (p.x - q.x).natAbs then 0 else if tolerance < (p.y - q.y).natAbs then 1 else 2

/-- Start of play at the frame start of F0: refused on an empty buffer or a failed join, with the hold sample as usual;
else PLAYING in STREAM, the head sample played (R115, R116). -/
def prepareStartOfPlay (s : State) : Prepared :=
  let tolerance := 1000 * s.env.limits.joinTol
  match s.pln.stream.samples with
  | [] => prepareRest (cancelStream (report .streamUnderrun 0 none s))
  | head :: rest =>
    if tolerance < chebyshev head.pos s.pln.holdPos then
      prepareRest (cancelStream (notice .joinRefused (joinAxis tolerance head.pos s.pln.holdPos) s))
    else
      prepareFollow true head rest
        ((s.onFcu fun f => { f with flight := .stream }).onPln fun p =>
          { p with vel := Vec3.zero, stream := { p.stream with state := .playing } })

/-- Whether a frame start is the one a PRIMED stream starts at (R115). -/
def startsPlay (frameStart : Bool) (s : State) : Bool :=
  frameStart && s.pln.stream.state = .primed && s.fru.frames = s.pln.stream.startFrame

/-- A sample in STOPPING, by the kind of the stop (R84, R103, R123). -/
def prepareStopping (s : State) : Prepared :=
  match s.pln.stop, s.pln.inHand with
  | some ⟨.path, rate⟩, some m => preparePathStop rate m s
  | some ⟨.path, _⟩, none => ⟨.axisStop, s.pln.pos, s⟩
  | some ⟨.axis, rate⟩, _ => prepareAxisStop rate s
  | none, _ => prepareAxisStop (stepEmergency s) s

/-- PLN's sample of a servo event, by flight state; none in PARKED, PARKING and TRIPPED (R43). -/
def prepareSample (frameStart : Bool) (s : State) : Option Prepared :=
  match s.fcu.flight with
  | .arming => some (prepareRest s)
  | .hold => some (if startsPlay frameStart s then prepareStartOfPlay s else prepareRest s)
  | .track => some (prepareTrack s)
  | .stick => some (prepareStick s)
  | .stream => some (prepareStream s)
  | .stopping => some (prepareStopping s)
  | .parked => none
  | .parking => none
  | .tripped => none

/-! ## Commitment and conclusion -/

/-- SOL hands each channel its setpoint at the committed position (R10). -/
def handSetpoints (s : State) : State :=
  let setpoints := setpointsAt s s.pln.pos
  s.onCh fun c => { c with chans := c.chans.zip setpoints fun ch n => { ch with newest := n } }

/-- The candidate of a sample after the hard clamp (R40). -/
def Prepared.committed (p : Prepared) : Vec3 := p.state.env.hardClamp p.state.pln.pos p.cand

/-- Whether the clamp changed a candidate (R41). -/
def Prepared.struck (p : Prepared) : Bool := p.committed ≠ p.cand

/-- A sample committed: position and velocities, WALL_STRIKE when the clamp changed it, then SOL and MRK (R40, R41, R43,
R131; WALL_STRIKE before MRK: R100, R103, R118, R123, and for the other samples log 7). -/
def Prepared.commit (p : Prepared) : State :=
  let s := p.state.onPln fun n => { n with pos := p.committed, vel := restClamped p.cand p.committed n.vel }
  let s := if p.struck then report .wallStrike 0 none s else s
  examineMarkers p.state.fcu.flight p.committed (handSetpoints s)

/-- A clamp ends TRACK or a path stop: the move abandoned, the queue flushed, HOLD at the clamped position (R41). -/
def strikeEnd (s : State) : State := enterHold .wallStrike (flushQueue (emptyHand s))

/-- The end of a path stop that arrives on its target: MOVE_DONE if flagged unless the move was abandoned; no dwell, no
move-end decision (R84, R30). -/
def stopArrived (m : MoveInHand) (s : State) : State :=
  let s := if m.phase ≠ .abandoned ∧ m.move.notifyDone then moveNotice .moveDone m.move s else s
  enterHold s.fcu.cause (emptyHand s)

/-- The end of a path stop at rest before the target: the move suspended, or dropped when it was abandoned (R84, R30). -/
def stopRested (m : MoveInHand) (s : State) : State :=
  enterHold s.fcu.cause
    (if m.phase = .abandoned then emptyHand s else s.onPln fun p => { p with inHand := some m.suspend })

/-- The end of an axis stop: STREAM_ENDED first when that is the stop cause, then HOLDING (R61, R122). -/
def endAxisStop (s : State) : State :=
  enterHold s.fcu.cause (if s.fcu.cause = .streamEnded then notice .streamEnded 0 s else s)

/-- A lag over the limit: STREAM_LAG, the stream cancelled, an axis stop at Δv_st (R119). -/
def lagEnd (s : State) : State :=
  startStop .axis (stepStream s) .streamLag (cancelStream (report .streamLag 0 none s))

/-- What a follower sample concludes: STREAM_PLAYING after the first, then the lag, then the end of an ENDING stream
(R116, R118, R119, R122). -/
def concludeFollow (played : Vec3) (first : Bool) (s : State) : State :=
  let s := if first then notice .streamPlaying 0 s else s
  if 1000 * s.env.limits.lagLimit < chebyshev played s.pln.pos then lagEnd s
  else if s.pln.stream.state = .ending ∧ s.pln.stream.samples = [] then endStream s
  else s

/-- What a path sample concludes for the move in hand (R79, R80, R84). -/
def concludePath (kind : SampleKind) (m : MoveInHand) (s : State) : State :=
  match kind with
  | .moving => if m.prog = m.dist then arriveWith (moveEnd m.stepFlag) m s else s
  | .dwelling => if m.dwellLeft = 0 then moveEnd m.stepFlag s else s
  | .pathStop => if m.speed = 0 then stopRested m s else if m.prog = m.dist then stopArrived m s else s
  | _ => s

/-- What a committed sample concludes, by its kind and whether the clamp struck (R41, R61, R79 to R81, R84, R116 to
R122). -/
def conclude (kind : SampleKind) (struck : Bool) (s : State) : State :=
  match kind with
  | .rest => s
  | .stick => s
  | .follow played first => concludeFollow played first s
  | .axisStop => if s.pln.vel = Vec3.zero then endAxisStop s else s
  | .moving => if struck then strikeEnd s else s.pln.inHand.elim s fun m => concludePath .moving m s
  | .dwelling => if struck then strikeEnd s else s.pln.inHand.elim s fun m => concludePath .dwelling m s
  | .pathStop => if struck then strikeEnd s else s.pln.inHand.elim s fun m => concludePath .pathStop m s

/-- PLN's part of a servo event (R43). -/
def planSample (frameStart : Bool) (s : State) : State :=
  match prepareSample frameStart s with
  | none => s
  | some p => conclude p.kind p.struck p.commit

/-! ## The timebase's part -/

/-- The largest frame count: at it the count is exhausted (R147). -/
def frameCountMax : Nat := 0xFFFFFFFF

/-- Whether the frame count is exhausted (R147). -/
def exhausted (s : State) : Bool := frameCountMax ≤ s.fru.frames

/-- An interval of Ts changed by an amount in a direction (R143). -/
def pulledInterval (ts amount : Nat) : Option PullDir → Nat
  | some .shorten => ts - amount
  | some .lengthen => ts + amount
  | none => ts

/-- The frame count raised at a frame start (R147). -/
def countFrame (frameStart : Bool) (s : State) : State :=
  if frameStart ∧ exhausted s = false then s.onFru fun f => { f with frames := f.frames + 1 } else s

/-- A pull whose remainder is 0 is complete at the servo event that ends its last interval: LOCKED, REFERENCE_LOCKED detail
1 (R144). -/
def completePull (s : State) : State :=
  if s.fru.ref = .pulling ∧ s.fru.pullLeft = 0 then
    notice .referenceLocked 1 (s.onFru fun f => { f with ref := .locked, miss := 0, pullDir := none })
  else s

/-- With the count exhausted the reference state reads FREE_RUN and nothing of an acquisition stands (R147). -/
def settleExhaustion (s : State) : State :=
  if exhausted s then
    s.onFru fun f =>
      { f with ref := .freeRun, lastRef := none, good := 0, miss := 0, pullDir := none, pullLeft := 0 }
  else s

/-- The schedule after a servo event of a frame index at the present time: the next index and the next event time, by the
reference state (R139, R143, R147). -/
def schedule (index : Nat) (s : State) : State :=
  let next := if exhausted s then 1 else (index + 1) % s.fru.timing.n
  s.onFru fun f =>
    let take := min f.pullLeft (pullStep f.timing)
    match f.ref with
    | .pulling =>
      { f with frameIndex := next, nextEvent := some (f.now + pulledInterval f.timing.ts take f.pullDir),
               pullLeft := f.pullLeft - take }
    | .locked =>
      { f with frameIndex := next, nextEvent := if next = 0 then none else some (f.now + f.timing.ts) }
    | .freeRun => { f with frameIndex := next, nextEvent := some (f.now + f.timing.ts) }
    | .acquiring => { f with frameIndex := next, nextEvent := some (f.now + f.timing.ts) }

/-- The pose snapshot renewed, with the stale flags of the period the event ended (R149). -/
def renewSnapshot (stale : Quad Bool) (s : State) : State :=
  s.onFru fun f =>
    { f with snapshot :=
        { frames := f.frames, pos := commandedPosition s, lengths := s.ch.chans.map fun c => c.last.length,
          tensions := s.ch.chans.map fun c => c.last.tension, stale := stale, ref := f.ref } }

/-- The FRAME_POSE of a frame start, among the notices handed over at the same event at a place the manual leaves open
(R150; log 6). -/
def handFramePose (s : State) : State :=
  let h : Handed := ⟨.framePose, .framePose s.fru.snapshot⟩
  if (s.link.masks.any fun m => m.framePose) && !s.link.handed.isEmpty then
    let place := Config.framePosePlace s.freeCount % (s.link.handed.length + 1)
    { s.onLink fun l => { l with handed := l.handed.take place ++ h :: l.handed.drop place } with
      freeCount := s.freeCount + 1 }
  else s.onLink fun l => { l with handed := l.handed ++ [h] }

/-- The stale flags of the period a servo event ends: no valid answer was taken in it (R149). -/
def staleFlags (s : State) : Quad Bool := s.ch.chans.map fun c => !c.answered

/-- What follows the planner's sample at a servo event of a frame index: the channels, what FRU itself does at the event, the
schedule, and the snapshot with the stale flags of the period that ended (R139, R149; log 7). -/
def finishServo (index : Nat) (stale : Quad Bool) (fruStep : State → State) (s : State) : State :=
  let s := schedule index (settleExhaustion (fruStep (runChannels s)))
  renewSnapshot stale (s.onFru fun f => { f with lastServo := f.now })

/-- One servo event at the present time, with its frame index and what FRU itself does at it: the frame count, PLN with ENV,
SOL and MRK, all that follows the sample, and FRAME_POSE at a frame start (R139, R150; log 7). -/
def raiseServo (index : Nat) (fruStep : State → State) (s : State) : State :=
  let frameStart : Bool := index = 0
  let u := finishServo index (staleFlags s) fruStep (planSample frameStart (countFrame frameStart s))
  if frameStart then handFramePose u else u

/-- SERVO_EVENT: the interval timer reaches the next event time (R139). While the next event is not timed, there is no such
event (log 2). -/
def execServoEvent (s : State) : Host.Outcome State Fault Refusal :=
  done (match s.fru.nextEvent with
    | none => s
    | some due => raiseServo s.fru.frameIndex completePull (advanceTo due s))

end Sys2Proof.Machine
end

