-- ==== Sys2Proof/Machine/Settings.lean ====
section
/-! DEFINITION. The settings records taken in PARKED: SET_ANCHOR, SET_WORKSPACE, SET_HOME, SET_LIMITS,
SET_CHANNEL_LIMITS, and READ_SETTINGS (01 R6 to R18, 02 R20, 09 R169). -/

namespace Sys2Proof.Machine

open Sys2Proof

/-- The checks every settings record begins with: WRONG_STATE outside PARKED, BUSY while a save or a setting operation is
in progress. R6 gives SET_ANCHOR this order, and BAD_VALUE after it; that the other settings records take it too is the
model's choice (R7, R12, R17, R20, R137, R169; log 31). -/
def settingsGate (s : State) : List (Bool × ErrorCode × Nat) :=
  [(s.fcu.flight ≠ .parked, .wrongState, 0), (busy s, .busy, 0)]

/-- SETTINGS_INFO's content (R16, R216). -/
def settingsReport (s : State) : SettingsReport where
  anchors := s.sol.anchors
  home := s.sol.home
  homeValid := s.sol.homeValid
  box := s.env.box
  boxValid := s.env.boxValid
  limits := s.env.limits
  timing := s.fru.timing
  chLimits := s.ch.chans.map fun c => c.limits
  defaulted := s.sto.defaulted

/-- READ_SETTINGS (R16). -/
def execReadSettings (seat : Seat) (d0 d1 : Byte) (s : State) : Host.Outcome State Fault Refusal :=
  done (decodeCommand 0x1F seat [d0, d1] (fun s => reply seat (.settingsInfo (settingsReport s)) s) s)

/-- The ACK of a record that ran the acceptance check, its result as detail (R14). -/
def ackAcceptance (seat : Seat) (type : BitVec 6) (s : State) : State :=
  ack seat type (acceptanceDetail s.sol.anchors s.env.box) s

/-- SET_ANCHOR's effect: one anchor record replaced whole, the acceptance check run at once (R6). -/
def setAnchor (seat : Seat) (payload : List Byte) (s : State) : State :=
  let a := anchorOf payload
  let w := winchOf (unsignedAt payload 0 1)
  match firstError (settingsGate s ++ [(w.isNone || !legalAnchor a, .badValue, 0)]), w with
  | some (code, detail), _ => refuse seat code detail s
  | none, none => refuse seat .badValue 0 s
  | none, some w =>
    ackAcceptance seat 0x28
      (runAcceptance (s.onSol fun o => { o with anchors := o.anchors.set (winchIndex w) a }))

/-- SET_ANCHOR (R6). -/
def execSetAnchor (seat : Seat) (payload : List Byte) (s : State) : Host.Outcome State Fault Refusal :=
  done (decodeCommand 0x28 seat payload (setAnchor seat payload) s)

/-- SET_WORKSPACE's effect: the box replaced whole, the acceptance check run at once (R12; the order of its refusals: log
31). -/
def setWorkspace (seat : Seat) (payload : List Byte) (s : State) : State :=
  let b := boxAt payload 0
  match firstError
      (settingsGate s ++ [(!legalBox b || !extentsExceed b s.env.limits.margin, .badValue, 0)]) with
  | some (code, detail) => refuse seat code detail s
  | none => ackAcceptance seat 0x29 (runAcceptance (s.onEnv fun e => { e with box := b }))

/-- SET_WORKSPACE (R12). -/
def execSetWorkspace (seat : Seat) (payload : List Byte) (s : State) : Host.Outcome State Fault Refusal :=
  done (decodeCommand 0x29 seat payload (setWorkspace seat payload) s)

/-- Whether a margin is too large for the held box; a box without extent, as the defaulted one, is not tested (R20). -/
def marginTooLarge (box : Box) (margin : Nat) : Bool := boxOrdered box && !extentsExceed box margin

/-- SET_LIMITS's checks (R20). The rule gives them no order; WRONG_STATE, BUSY, BAD_VALUE is the model's choice (log 31). -/
def limitsChecks (l : Limits) (s : State) : List (Bool × ErrorCode × Nat) :=
  settingsGate s ++ [(!legalLimits l || marginTooLarge s.env.box l.margin, .badValue, 0)]

/-- SET_LIMITS (R20): every field replaced at once, the home valid flag re-evaluated (R8). -/
def execSetLimits (seat : Seat) (payload : List Byte) (s : State) : Host.Outcome State Fault Refusal :=
  let l := limitsOf payload
  done (decodeCommand 0x2A seat payload
    (fun s => answer seat 0x2A (limitsChecks l s)
      (fun s => evaluateHome (s.onEnv fun e => { e with limits := l })) s) s)

/-- SET_CHANNEL_LIMITS's effect: one channel's five limits replaced (R169; the order of its refusals: log 31). -/
def setChannelLimits (seat : Seat) (payload : List Byte) (s : State) : State :=
  let l := channelLimitsOf payload
  let w := winchOf (unsignedAt payload 0 1)
  match firstError (settingsGate s ++ [(w.isNone || !legalChannelLimits l, .badValue, 0)]), w with
  | some (code, detail), _ => refuse seat code detail s
  | none, none => refuse seat .badValue 0 s
  | none, some w => (ack seat 0x2B 0 s).onChan w fun c => { c with limits := l }

/-- SET_CHANNEL_LIMITS (R169). -/
def execSetChannelLimits (seat : Seat) (payload : List Byte) (s : State) : Host.Outcome State Fault Refusal :=
  done (decodeCommand 0x2B seat payload (setChannelLimits seat payload) s)

/-- SET_HOME's checks (R7; their order is the model's choice, log 31). -/
def homeChecks (p : Vec3) (s : State) : List (Bool × ErrorCode × Nat) :=
  settingsGate s ++
    [(!legalPositionMm p, .badValue, 0), (!s.env.boxValid, .noWorkspace, 0),
      (!inBox s.env.shrunk (toMicrons p), .badValue, 0)]

/-- SET_HOME (R7). -/
def execSetHome (seat : Seat) (payload : List Byte) (s : State) : Host.Outcome State Fault Refusal :=
  let p := vecAt payload 0 4
  done (decodeCommand 0x2E seat payload
    (fun s => answer seat 0x2E (homeChecks p s)
      (fun s => s.onSol fun o => { o with home := p, homeValid := true }) s) s)

end Sys2Proof.Machine
end

