-- ==== Sys2Proof/Machine/Timebase.lean ====
section
/-! DEFINITION. The frame reference: REFERENCE_EDGE by reference state, the two silence timeouts, WINDOW_CLOSE, SET_TIMING
and READ_POSE (08 R137 to R151). -/

namespace Sys2Proof.Machine

open Sys2Proof

/-! ## Measuring edges -/

/-- Whether an edge lies within the window around the instant it is due, N·Ts after the last reference instant
(R141, R145). -/
def inWindow (t : Timing) (last now : Nat) : Bool :=
  decide (last + framePeriod t ≤ now + refWindow t) && decide (now ≤ last + framePeriod t + refWindow t)

/-- Whether the latest servo event stands at the present µs, so that an edge now coincides with it (R138). -/
def coincides (s : State) : Bool := s.fru.now = s.fru.lastServo && 0 < s.fru.frames

/-- Whether the latest servo event was a frame start: the next index is 1 (R139). -/
def lastWasFrameStart (s : State) : Bool := s.fru.frameIndex = 1

/-- A SETPOINT frame carries the setpoint its channel holds now; any other frame stands as it was sent (R10). -/
def Channel.amendFrame (c : Channel) : Channel :=
  { c with sent := c.sent.map fun f => match f.kind with
    | .setpoint _ => { f with kind := .setpoint c.newest }
    | _ => f }

/-- The start of play at a servo event that an edge makes the frame start: PLN compares F0 with the count and, where a PRIMED
stream starts, its sample takes the place of the hold sample, in the frames of the event too (R115, R124, R148; log 11). -/
def promoteSample (s : State) : State :=
  if s.fcu.flight = .hold ∧ startsPlay true s then onAllChans Channel.amendFrame (planSample true s) else s

/-- The snapshot of a servo event made a frame start: the count, the reference state and the position as they stand after it
(R149). -/
def amendSnapshot (s : State) : State :=
  s.onFru fun f =>
    { f with snapshot := { f.snapshot with frames := f.frames, ref := f.ref, pos := commandedPosition s } }

/-- The servo event just raised at this instant is the frame start: it is counted, PLN reads the count, the frame begins
there, the snapshot follows, and FRAME_POSE is handed over (R142, R145; log 11). -/
def promoteServo (fruStep : State → State) (s : State) : State :=
  handFramePose (amendSnapshot (schedule 0 (settleExhaustion (fruStep (promoteSample (countFrame true s))))))

/-- A frame start on an edge now: one servo event at the edge, which is the one already raised there when they coincide, and
which is a frame start already when it was one (R142, R145; log 11). -/
def edgeFrameStart (fruStep : State → State) (s : State) : State :=
  if coincides s then (if lastWasFrameStart s then fruStep s else promoteServo fruStep s) else raiseServo 0 fruStep s

/-! ## Reaching lock -/

/-- The phase φ: the time from an edge now to the next frame-start servo event, below N·Ts (R143). -/
def phaseOf (f : Fru) : Nat :=
  let rest := if f.frameIndex = 0 then 0 else f.timing.n - f.frameIndex
  let raw := (f.nextEvent.getD f.now - f.now) + rest * f.timing.ts
  if framePeriod f.timing ≤ raw then raw - framePeriod f.timing else raw

/-- The pull decided at an edge: its direction and remainder, or LOCKED at once when the phase is 0 (R143). -/
def decidePull (s : State) : State :=
  let φ := phaseOf s.fru
  let period := framePeriod s.fru.timing
  if φ = 0 then
    notice .referenceLocked 1
      (s.onFru fun f => { f with ref := .locked, miss := 0, pullDir := none, pullLeft := 0 })
  else if 2 * φ ≤ period then
    s.onFru fun f => { f with ref := .pulling, pullDir := some .shorten, pullLeft := φ }
  else s.onFru fun f => { f with ref := .pulling, pullDir := some .lengthen, pullLeft := period - φ }

/-- The lock by a jump: LOCKED, with REFERENCE_LOCKED detail 0 (R142). -/
def jumpLocked (s : State) : State :=
  notice .referenceLocked 0 (s.onFru fun f => { f with ref := .locked, miss := 0 })

/-- The fourth good interval: a jump in PARKED and TRIPPED, a pull in any other flight state (R142). -/
def reachLock (s : State) : State :=
  if s.fcu.flight = .parked ∨ s.fcu.flight = .tripped then edgeFrameStart jumpLocked s else decidePull s

/-! ## The edge by reference state -/

/-- An edge in FREE_RUN starts acquisition (R140). -/
def edgeInFreeRun (s : State) : State :=
  s.onFru fun f => { f with ref := .acquiring, lastRef := some f.now, good := 0 }

/-- An edge in ACQUIRING: a good interval counted, lock at the fourth, or a fresh measurement (R141). -/
def edgeInAcquiring (last : Nat) (s : State) : State :=
  if inWindow s.fru.timing last s.fru.now then
    let s := s.onFru fun f => { f with lastRef := some f.now, good := min 4 (f.good + 1) }
    if s.fru.good = 4 then reachLock s else s
  else s.onFru fun f => { f with lastRef := some f.now, good := 0 }

/-- An edge in PULLING: the pull decided again, or ended in ACQUIRING (R144). -/
def edgeInPulling (last : Nat) (s : State) : State :=
  if inWindow s.fru.timing last s.fru.now then decidePull (s.onFru fun f => { f with lastRef := some f.now })
  else
    s.onFru fun f =>
      { f with ref := .acquiring, lastRef := some f.now, good := 0, pullDir := none, pullLeft := 0 }

/-- An edge in LOCKED: a frame start inside the window; ignored outside it (R145, R146; log 12). -/
def edgeInLocked (last : Nat) (s : State) : State :=
  if inWindow s.fru.timing last s.fru.now then
    edgeFrameStart id (s.onFru fun f => { f with lastRef := some f.now, miss := 0 })
  else s

/-- An edge of the frame reference at the present time, by the reference state; ignored while the count is exhausted (R140
to R147). -/
def referenceEdge (s : State) : State :=
  if exhausted s then s
  else
    let last := s.fru.lastRef.getD s.fru.now
    match s.fru.ref with
    | .freeRun => edgeInFreeRun s
    | .acquiring => edgeInAcquiring last s
    | .pulling => edgeInPulling last s
    | .locked => edgeInLocked last s

/-- REFERENCE_EDGE (R145): at its instant, or at the present time when that is later (log 3). -/
def execReferenceEdge (t : Nat) (s : State) : Host.Outcome State Fault Refusal :=
  done (referenceEdge (advanceTo t s))

/-! ## Silence -/

/-- The instant at which silence since the last reference instant ends an acquisition or a pull (R141, R144). -/
def silenceInstant (f : Fru) : Nat := f.lastRef.getD f.now + 2 * framePeriod f.timing

/-- The acquisition given up: FREE_RUN with no flag and no notice (R141). -/
def endAcquisition (s : State) : State :=
  s.onFru fun f => { f with ref := .freeRun, lastRef := none, good := 0 }

/-- ACQUIRE_SILENCE_TIMEOUT, in ACQUIRING alone (R141; log 2, log 3). -/
def execAcquireSilenceTimeout (s : State) : Host.Outcome State Fault Refusal :=
  done (if s.fru.ref = .acquiring then atInstant (silenceInstant s.fru) endAcquisition s else s)

/-- The pull discarded, the reference FREE_RUN and REFERENCE_LOST one occurrence (R144, R146). -/
def loseReference (s : State) : State :=
  report .referenceLost 0 none
    (s.onFru fun f =>
      { f with ref := .freeRun, lastRef := none, good := 0, miss := 0, pullDir := none, pullLeft := 0 })

/-- PULL_SILENCE_TIMEOUT, in PULLING alone (R144; log 2, log 3). -/
def execPullSilenceTimeout (s : State) : Host.Outcome State Fault Refusal :=
  done (if s.fru.ref = .pulling then atInstant (silenceInstant s.fru) loseReference s else s)

/-- What FRU does at the synthetic frame start of a closed window: the second miss loses the lock (R146). -/
def closeMiss (s : State) : State := if 2 ≤ s.fru.miss then loseReference s else s

/-- The instant at which the window after a reference instant closes (R146). -/
def closeInstant (last : Nat) (f : Fru) : Nat := last + framePeriod f.timing + refWindow f.timing

/-- A window closed with no edge: the reference instant moves on by N·Ts, the miss count rises, and a synthetic frame start
is raised (R146). After a pull that completed later than N·Ts + w past the kept last reference instant R144 does not say
which window is open: the model closes that past window, at the present time, at the µs of the completing servo event or
after it (log 28). -/
def windowClose (last : Nat) (s : State) : State :=
  raiseServo 0 closeMiss
    (s.onFru fun f => { f with lastRef := some (last + framePeriod f.timing), miss := f.miss + 1 })

/-- WINDOW_CLOSE (R146), at the close of the window. Outside LOCKED no window is open (log 2, log 3). -/
def execWindowClose (s : State) : Host.Outcome State Fault Refusal :=
  done (match s.fru.ref, s.fru.lastRef with
    | .locked, some last => atInstant (closeInstant last s.fru) (windowClose last) s
    | _, _ => s)

/-! ## SET_TIMING and READ_POSE -/

/-- Ts and N of a SET_TIMING payload (R215). -/
def timingOf (p : List Byte) : Timing := ⟨unsignedAt p 0 2, unsignedAt p 2 1⟩

/-- The timebase restarted: the interval in progress runs to its end at the old length, the event that ends it is a frame
start unless the count is exhausted, and the reference is FREE_RUN (R137). -/
def restartTimebase (timing : Timing) (s : State) : State :=
  let index := if exhausted s then 1 else 0
  s.onFru fun f =>
    { f with timing := timing, ref := .freeRun, frameIndex := index,
             nextEvent := some (f.nextEvent.getD (f.lastServo + f.timing.ts)), lastRef := none, good := 0, miss := 0,
             pullDir := none, pullLeft := 0 }

/-- SET_TIMING (R137; the order of its refusals: log 31). -/
def execSetTiming (seat : Seat) (payload : List Byte) (s : State) : Host.Outcome State Fault Refusal :=
  let timing := timingOf payload
  done (decodeCommand 0x2C seat payload
    (fun s => answer seat 0x2C (settingsGate s ++ [(!legalTiming timing, .badValue, 0)]) (restartTimebase timing) s) s)

/-- The flight states whose commanded position READ_POSE takes as it stands (R151). -/
def posesLive (f : FlightState) : Bool := f = .parked || f = .parking || f = .tripped

/-- The commanded position POSE carries: in PARKED, PARKING and TRIPPED the one R43 gives as the record is decoded, else the
one the snapshot took at the latest servo event (R151; log 26 on R43's words). -/
def posePosition (s : State) : Vec3 :=
  if posesLive s.fcu.flight then commandedPosition s else s.fru.snapshot.pos

/-- POSE's content: the snapshot of the latest servo event, with the present frame count and reference state, and the
commanded position by flight state (R151). -/
def poseReport (s : State) : Snapshot :=
  { s.fru.snapshot with frames := s.fru.frames, ref := s.fru.ref, pos := posePosition s }

/-- READ_POSE (R151). -/
def execReadPose (seat : Seat) (d0 d1 : Byte) (s : State) : Host.Outcome State Fault Refusal :=
  done (decodeCommand 0x16 seat [d0, d1] (fun s => reply seat (.pose (poseReport s)) s) s)

end Sys2Proof.Machine
end

