-- ==== Sys2Proof/Machine/Zones.lean ====
section
/-! DEFINITION. The zone table's commands: ZONE_READ, ZONE_PUT, ZONE_SET, ZONE_REMOVE, and the ZONE_STOP an activation may
start (02 R22 to R31). -/

namespace Sys2Proof.Machine

open Sys2Proof

/-- The number of zone slots (R22). -/
def zoneSlots : Nat := 24

/-- A slot's content; nothing beyond slot 23. -/
def Env.zoneAt (e : Env) (slot : Nat) : Option Zone := (e.zones[slot]?).getD none

/-- The zone table with one slot replaced. -/
def Env.putZone (e : Env) (slot : Nat) (z : Option Zone) : Env := { e with zones := e.zones.setIfInBounds slot z }

/-- The lock test: fails for a seat but SAFETY that does not present a nonzero lock code held (R24). -/
def lockRefuses (seat : Seat) (presented : Nat) : Option Zone → Bool
  | none => false
  | some z => seat ≠ .safety && z.lock ≠ 0 && presented ≠ z.lock

/-- Whether an active KEEP_OUT zone would hold the present commanded position; in PARKED with the retained pose invalid
there is no position to test (R28). -/
def zoneOccupied (s : State) (z : Zone) : Bool :=
  match keepOutBox s.env.limits.margin (some z) with
  | none => false
  | some b =>
    if s.fcu.flight = .parked ∧ s.fcu.pose.valid = false then false else inBox b (commandedPosition s)

/-- The move whose remainder an activation is tested against, with whether it is abandoned already: in TRACK the move in
MOVING, in a path STOPPING the move being stopped (R29, R31). -/
def flyingMove (s : State) : Option MoveInHand :=
  match s.pln.inHand with
  | none => none
  | some m =>
    if s.fcu.flight = .track ∧ m.phase = .moving then some m
    else if s.fcu.flight = .stopping ∧ (s.pln.stop.map Stop.kind) = some .path then some m
    else none

/-- A ZONE_STOP starts, or takes a path stop over: the move abandoned, the queue flushed, the flag raised, the stop at Δv_e
with stop cause ZONE_STOP (R30, R31). -/
def startZoneStop (m : MoveInHand) (s : State) : State :=
  let s := s.onPln fun p => { p with inHand := some { m with phase := .abandoned, stepFlag := false } }
  startStop .path (stepEmergency s) .zoneStop (report .zoneStop 0 none (flushQueue s))

/-- The decision after an accepted activation: a ZONE_STOP when the remainder of the flying move meets the new inflated
box; a second cut of a move already abandoned is one more occurrence only (R29, R31). -/
def zoneStopDecision (z : Zone) (s : State) : State :=
  match keepOutBox s.env.limits.margin (some z), flyingMove s with
  | some b, some m =>
    if segmentMeets (commandedPosition s) (toMicrons m.move.target) b then
      (if m.phase = .abandoned then report .zoneStop 0 none s else startZoneStop m s)
    else s
  | _, _ => s

/-- ZONE_READ's effect: ZONE_INFO for the slot, or NO_SUCH_ZONE (R23). -/
def zoneRead (seat : Seat) (d0 : Byte) (s : State) : State :=
  if zoneSlots ≤ d0.toNat then refuse seat .noSuchZone 0 s
  else reply seat (.zoneInfo d0.toNat (s.env.zoneAt d0.toNat)) s

/-- ZONE_READ (R23). -/
def execZoneRead (seat : Seat) (d0 d1 : Byte) (s : State) : Host.Outcome State Fault Refusal :=
  done (decodeCommand 0x18 seat [d0, d1] (zoneRead seat d0) s)

/-- A slot takes a zone, and the ZONE_STOP decision follows (R25, R26, R29). -/
def takeZone (slot : Nat) (z : Zone) (s : State) : State :=
  zoneStopDecision z (s.onEnv fun e => e.putZone slot (some z))

/-- ZONE_PUT's effect, its checks in order (R25). -/
def zonePut (seat : Seat) (payload : List Byte) (s : State) : State :=
  let slot := unsignedAt payload 0 1
  if zoneSlots ≤ slot then refuse seat .noSuchZone 0 s
  else match zoneOf payload s.env.limits.vmax seat with
    | none => refuse seat .badValue 0 s
    | some z =>
      answer seat 0x24
        [(lockRefuses seat (unsignedAt payload 1 2) (s.env.zoneAt slot), .locked, 0), (zoneOccupied s z, .zoneOccupied, 0)]
        (takeZone slot z) s

/-- ZONE_PUT (R25). -/
def execZonePut (seat : Seat) (payload : List Byte) (s : State) : Host.Outcome State Fault Refusal :=
  done (decodeCommand 0x24 seat payload (zonePut seat payload) s)

/-- ZONE_SET's effect, its checks in order. R26 gives no order between NO_SUCH_ZONE and BAD_VALUE; the model looks at the
slot first (R26; log 30). -/
def zoneSet (seat : Seat) (payload : List Byte) (s : State) : State :=
  let slot := unsignedAt payload 0 1
  match s.env.zoneAt slot with
  | none => refuse seat .noSuchZone 0 s
  | some z => match flagByte (unsignedAt payload 3 1) with
    | none => refuse seat .badValue 0 s
    | some active =>
      let z' := { z with active := active }
      answer seat 0x25
        [(lockRefuses seat (unsignedAt payload 1 2) (some z), .locked, 0), (zoneOccupied s z', .zoneOccupied, 0)]
        (takeZone slot z') s

/-- ZONE_SET (R26). -/
def execZoneSet (seat : Seat) (payload : List Byte) (s : State) : Host.Outcome State Fault Refusal :=
  done (decodeCommand 0x25 seat payload (zoneSet seat payload) s)

/-- ZONE_REMOVE's effect: an empty slot answers ACK detail 1; a zone is removed after the lock test (R27). -/
def zoneRemove (seat : Seat) (payload : List Byte) (s : State) : State :=
  let slot := unsignedAt payload 0 1
  if zoneSlots ≤ slot then refuse seat .noSuchZone 0 s
  else match s.env.zoneAt slot with
    | none => ack seat 0x26 1 s
    | some z =>
      answer seat 0x26 [(lockRefuses seat (unsignedAt payload 1 2) (some z), .locked, 0)]
        (fun s => s.onEnv fun e => e.putZone slot none) s

/-- ZONE_REMOVE (R27). -/
def execZoneRemove (seat : Seat) (payload : List Byte) (s : State) : Host.Outcome State Fault Refusal :=
  done (decodeCommand 0x26 seat payload (zoneRemove seat payload) s)

end Sys2Proof.Machine
end

