-- ==== Sys2Proof/Machine/Dispatch.lean ====
section
/-! DEFINITION. The meaning of every command: one direct call per constructor. -/

namespace Sys2Proof.Machine

open Sys2Proof

/-- A command's effect on the part (95). -/
def exec (i : Instr) (s : State) : Host.Outcome State Fault Refusal :=
  match i with
  | .partReset strap storeAnswers => Sys2Proof.Machine.execPartReset strap storeAnswers s
  | .estopAssertion => Sys2Proof.Machine.execEstopAssertion s
  | .estopDeassertion => Sys2Proof.Machine.execEstopDeassertion s
  | .receiveByte b stopBit => Sys2Proof.Machine.execReceiveByte b stopBit s
  | .gapTimeout => Sys2Proof.Machine.execGapTimeout s
  | .transmitComplete => Sys2Proof.Machine.execTransmitComplete s
  | .ignoredRecord seat type body => Sys2Proof.Machine.execIgnoredRecord seat type body s
  | .queryState seat d0 d1 => Sys2Proof.Machine.execQueryState seat d0 d1 s
  | .arm seat d0 d1 => Sys2Proof.Machine.execArm seat d0 d1 s
  | .park seat d0 d1 => Sys2Proof.Machine.execPark seat d0 d1 s
  | .hold seat d0 d1 => Sys2Proof.Machine.execHold seat d0 d1 s
  | .resume seat d0 d1 => Sys2Proof.Machine.execResume seat d0 d1 s
  | .step seat d0 d1 => Sys2Proof.Machine.execStep seat d0 d1 s
  | .takeStick seat d0 d1 => Sys2Proof.Machine.execTakeStick seat d0 d1 s
  | .dropStick seat d0 d1 => Sys2Proof.Machine.execDropStick seat d0 d1 s
  | .trip seat d0 d1 => Sys2Proof.Machine.execTrip seat d0 d1 s
  | .clearFaults seat d0 d1 => Sys2Proof.Machine.execClearFaults seat d0 d1 s
  | .consent seat d0 d1 => Sys2Proof.Machine.execConsent seat d0 d1 s
  | .servicePermit seat d0 d1 => Sys2Proof.Machine.execServicePermit seat d0 d1 s
  | .flushMoves seat d0 d1 => Sys2Proof.Machine.execFlushMoves seat d0 d1 s
  | .streamEnd seat d0 d1 => Sys2Proof.Machine.execStreamEnd seat d0 d1 s
  | .readPose seat d0 d1 => Sys2Proof.Machine.execReadPose seat d0 d1 s
  | .subscribe seat d0 d1 => Sys2Proof.Machine.execSubscribe seat d0 d1 s
  | .zoneRead seat d0 d1 => Sys2Proof.Machine.execZoneRead seat d0 d1 s
  | .markerRead seat d0 d1 => Sys2Proof.Machine.execMarkerRead seat d0 d1 s
  | .markerClear seat d0 d1 => Sys2Proof.Machine.execMarkerClear seat d0 d1 s
  | .reference seat d0 d1 => Sys2Proof.Machine.execReference seat d0 d1 s
  | .restartDrive seat d0 d1 => Sys2Proof.Machine.execRestartDrive seat d0 d1 s
  | .saveSettings seat d0 d1 => Sys2Proof.Machine.execSaveSettings seat d0 d1 s
  | .resetPart seat d0 d1 => Sys2Proof.Machine.execResetPart seat d0 d1 s
  | .readSettings seat d0 d1 => Sys2Proof.Machine.execReadSettings seat d0 d1 s
  | .stick seat payload => Sys2Proof.Machine.execStick seat payload s
  | .appendMove seat payload => Sys2Proof.Machine.execAppendMove seat payload s
  | .streamStart seat payload => Sys2Proof.Machine.execStreamStart seat payload s
  | .streamData seat payload => Sys2Proof.Machine.execStreamData seat payload s
  | .zonePut seat payload => Sys2Proof.Machine.execZonePut seat payload s
  | .zoneSet seat payload => Sys2Proof.Machine.execZoneSet seat payload s
  | .zoneRemove seat payload => Sys2Proof.Machine.execZoneRemove seat payload s
  | .markerSet seat payload => Sys2Proof.Machine.execMarkerSet seat payload s
  | .setAnchor seat payload => Sys2Proof.Machine.execSetAnchor seat payload s
  | .setWorkspace seat payload => Sys2Proof.Machine.execSetWorkspace seat payload s
  | .setLimits seat payload => Sys2Proof.Machine.execSetLimits seat payload s
  | .setChannelLimits seat payload => Sys2Proof.Machine.execSetChannelLimits seat payload s
  | .setTiming seat payload => Sys2Proof.Machine.execSetTiming seat payload s
  | .declarePose seat payload => Sys2Proof.Machine.execDeclarePose seat payload s
  | .setHome seat payload => Sys2Proof.Machine.execSetHome seat payload s
  | .servoEvent => Sys2Proof.Machine.execServoEvent s
  | .referenceEdge t => Sys2Proof.Machine.execReferenceEdge t s
  | .acquireSilenceTimeout => Sys2Proof.Machine.execAcquireSilenceTimeout s
  | .pullSilenceTimeout => Sys2Proof.Machine.execPullSilenceTimeout s
  | .windowClose => Sys2Proof.Machine.execWindowClose s
  | .driveAnswer w bytes => Sys2Proof.Machine.execDriveAnswer w bytes s
  | .releaseTimeout w => Sys2Proof.Machine.execReleaseTimeout w s
  | .brakeTimeout w => Sys2Proof.Machine.execBrakeTimeout w s
  | .setTimeout w => Sys2Proof.Machine.execSetTimeout w s
  | .stickTimerExpiry => Sys2Proof.Machine.execStickTimerExpiry s
  | .saveWriteStart => Sys2Proof.Machine.execSaveWriteStart s
  | .saveWriteEnd readsBack => Sys2Proof.Machine.execSaveWriteEnd readsBack s
  | .poseWriteStart => Sys2Proof.Machine.execPoseWriteStart s
  | .poseWriteEnd => Sys2Proof.Machine.execPoseWriteEnd s

end Sys2Proof.Machine
end

