-- ==== Sys2Proof/Safety.lean ====
section
/-! DEFINITION. What statements about the part speak of: when a record is decoded now, and the laws of the part as
predicates on a state. -/

namespace Sys2Proof.Machine

open Sys2Proof

/-! ## Decoding -/

/-- A record is decoded now: LINK decodes (no RESET_PART taken, R213), the transmit queue has room (R201), the record is
the oldest of the decode queue or the queue is empty (log 1), and no notice of an earlier step is left uncopied (an
invariant: EveryCommandCompletesCleanly). -/
def State.decodesNow (s : State) (r : Record) : Prop :=
  s.link.resetPhase = .running ∧ s.link.tx.length < txCapacity ∧
    (s.link.decodeQueue = [] ∨ s.link.decodeQueue.head? = some r) ∧ s.link.handed = []

/-- A record is decoded now and passes LINK's checks, so its owner takes it (R203). -/
def State.takesRecord (s : State) (r : Record) : Prop :=
  s.decodesNow r ∧ linkCheck r.seat r.type r.body s.fcu.permit = none

/-- The state with the record decoded gone from the decode queue (R201). -/
def State.afterDecode (s : State) : State := s.onLink fun l => { l with decodeQueue := l.decodeQueue.tail }

/-- The record decoded and answered with ACK on its seat, and nothing else (R204). -/
def State.acked (s : State) (seat : Seat) (type : BitVec 6) (detail : Nat) : State :=
  reply seat (.ack type (BitVec.ofNat 8 detail)) s.afterDecode

/-- The record decoded and answered with ERROR_REPORT on its seat, and nothing else (R204). -/
def State.refused (s : State) (seat : Seat) (code : ErrorCode) (detail : Nat) : State :=
  reply seat (.errorReport code (BitVec.ofNat 8 detail)) s.afterDecode

/-- A run of bytes received one after another, each with its stop bit. -/
def feed : List Byte → State → Host.Outcome State Fault Refusal
  | [], s => .next s
  | b :: rest, s => match exec (.receiveByte b true) s with
    | .next t => feed rest t
    | o => o

/-! ## What statements name -/

/-- What an image in the external memory may be when a part reset ends its writing: as it stood, of a bad check, or the
copy whole (R48, R212). Without a writing it stands as it was. -/
def imageLeft {α : Type} (old writing image : Option α) : Prop :=
  image = old ∨ ∃ copy, writing = some copy ∧ (image = none ∨ image = some copy)

/-- The copy a save is writing. -/
def SaveState.written : SaveState → Option Settings
  | .writing copy => some copy
  | .waiting _ => none
  | .idle => none

/-- A channel after the brake request and the end of a setting operation that a trip brings: RELEASING and STREAMING to
BRAKING with its timeout, counts and warning cleared; SETTING to READY, its timeout stopped (R168, R170, R172, R179). -/
def Channel.afterTrip (c : Channel) : Channel :=
  match c.state with
  | .releasing =>
    { c with state := .braking, timer := some 500000, slackCount := 0, overCount := 0, followCount := 0, warning := false }
  | .streaming =>
    { c with state := .braking, timer := some 500000, slackCount := 0, overCount := 0, followCount := 0, warning := false }
  | .setting => { c with state := .ready, timer := none }
  | _ => c

/-- One occurrence of a TRIP flag outside TRIPPED: the flag, the trip record, the planner emptied, the channels braked, the
setting operation ended, the retained pose and its write, and the TRIP_NOTICE, with REFERENCE_FAILED after it when a
setting operation was abandoned (R63, R179, R183 to R189). -/
def tripEffect (f : Flag) (channel : Nat) (seat : Option Seat) (s : State) : State :=
  let was := s.flag f
  let p := commandedPosition s
  let abandons := s.ch.op.kind ≠ .noSetting
  let pose : RetainedPose :=
    ⟨p, if abandons then false else if s.fcu.flight = .parked then s.fcu.pose.valid else true, .trip⟩
  let notices : List Handed :=
    (if was.set then [] else [⟨.everySeat, .tripNotice f true channel seat s.fcu.flight p s.fru.frames⟩]) ++
      (if abandons then [⟨.subscribers .cue, .notice .referenceFailed 0⟩] else [])
  { s with
    link := { s.link with handed := s.link.handed ++ notices }
    fcu := { s.fcu with flight := .tripped, cause := .trip, consent := false, pose := pose }
    pln :=
      { s.pln with
        queue := [], inHand := none, vel := Vec3.zero, stop := none
        stick := { s.pln.stick with q := Vec3.zero, timer := none }
        stream :=
          { s.pln.stream with
            state := .idle, samples := [], gapReported := false, inLow := false, inCritical := false, inHigh := false } }
    mrk := { s.mrk with holdPending := false }
    ch := { chans := s.ch.chans.map Channel.afterTrip, op := { s.ch.op with kind := .noSetting } }
    flt :=
      { s.flt with
        flags := s.flt.flags.set f.number
          (if was.set then ⟨true, if was.count < 255 then was.count + 1 else 255, channel⟩ else ⟨true, 1, channel⟩)
        trip := ⟨some f, channel, seat, s.fcu.flight, p, s.fru.frames⟩ }
    sto :=
      if s.sto.save ≠ .idle ∨ s.sto.poseWriting ≠ none ∨ s.sto.poseWaiting = true then
        { s.sto with poseWaiting := true }
      else { s.sto with poseWriting := some pose } }

/-- The move RESUME or STEP would begin and what the queue holds once it has left: the suspended move, else the head,
whatever its tag (R82). -/
def State.offers (s : State) (m : Move) (rest : List Move) : Prop :=
  (∃ h, s.pln.inHand = some h ∧ h.phase = .suspended ∧ m = h.move ∧ rest = s.pln.queue) ∨
    ((∀ h, s.pln.inHand = some h → h.phase ≠ .suspended) ∧ s.pln.queue = m :: rest)

/-- The move the planner is flying: in TRACK the one in MOVING, in a path stop the one being stopped (R29, R31). -/
def State.flies (s : State) (m : MoveInHand) : Prop :=
  s.pln.inHand = some m ∧
    ((s.fcu.flight = .track ∧ m.phase = .moving) ∨
      (s.fcu.flight = .stopping ∧ ∃ st, s.pln.stop = some st ∧ st.kind = .path))

/-- An active KEEP_OUT zone cuts what is left of a flown move: the closed segment from the commanded position to the move's
target meets the zone's inflated box (R29). -/
def State.cutBy (s : State) (z : Zone) (m : MoveInHand) : Prop :=
  s.flies m ∧ z.kind = .keepOut ∧ z.active = true ∧
    segmentMeets s.pln.pos (toMicrons m.move.target) (inflatedBox s.env.limits.margin z.box) = true

/-- An active KEEP_OUT zone would hold the present commanded position (R28); in PARKED with the retained pose invalid there
is none to test. -/
def State.occupies (s : State) (z : Zone) : Prop :=
  z.kind = .keepOut ∧ z.active = true ∧ ¬ (s.fcu.flight = .parked ∧ s.fcu.pose.valid = false) ∧
    inBox (inflatedBox s.env.limits.margin z.box) (commandedPosition s) = true

/-- A seat's edit of a slot passes the lock test (R24). -/
def lockPasses (seat : Seat) (presented : Nat) (held : Option Zone) : Prop :=
  ∀ z, held = some z → seat = .safety ∨ z.lock = 0 ∨ presented = z.lock

/-- The stream cancelled: the buffer empty, IDLE, the gap and band flags cleared, E and the counters kept (R107). -/
def Stream.emptied (st : Stream) : Stream :=
  { st with state := .idle, samples := [], gapReported := false, inLow := false, inCritical := false, inHigh := false }

/-- A PRIMED stream cancelled, any other as it stands (R56, R58, R97, R124). -/
def Stream.unprimed (st : Stream) : Stream := if st.state = .primed then st.emptied else st

/-- The flight states in which PLN produces a sample at each servo event (R43). -/
def producesSamples : FlightState → Bool
  | .parked => false
  | .parking => false
  | .tripped => false
  | _ => true

/-! ## The laws of the part -/

/-- The first law, as it stands between steps: in the states that produce samples the commanded position lies in the
shrunk workspace and in no active inflated KEEP_OUT box (R40). -/
def positionLaw (s : State) : Prop := producesSamples s.fcu.flight = true → s.env.free s.pln.pos = true

/-- The second law's ground: a workspace marked valid passes the acceptance check with the anchor table as it stands, and in
every state that produces samples the workspace is valid (R15, R51). -/
def workspaceLaw (s : State) : Prop :=
  (s.env.boxValid = true → boxPasses s.sol.anchors s.env.box = true) ∧
    (producesSamples s.fcu.flight = true → s.env.boxValid = true)

/-- A channel's frame carries a setpoint (R10). -/
def Channel.sendsSetpoint (c : Channel) (length : Nat) : Prop := ∃ q, c.sent = some ⟨.setpoint length, q⟩

/-- The sixth law: no axis speed and no path speed exceeds vmax (R77, R99, R117); with it, that the velocities are 0 where
no sample is produced (R43) and that a move has a speed only while it is flown or stopped. -/
def speedLaw (s : State) : Prop :=
  (∀ a, (s.pln.vel.get a).natAbs ≤ 1000 * s.env.limits.vmax) ∧
    (producesSamples s.fcu.flight = false → s.pln.vel = Vec3.zero) ∧
    ∀ m, s.pln.inHand = some m →
      m.speed ≤ 1000 * s.env.limits.vmax ∧
        (m.speed ≠ 0 → (s.fcu.flight = .track ∧ m.phase = .moving) ∨
          (s.fcu.flight = .stopping ∧ ∃ st, s.pln.stop = some st ∧ st.kind = .path))

/-- The bounds of the two link queues (R201, R205). -/
def linkBounds (s : State) : Prop := s.link.tx.length ≤ txCapacity ∧ s.link.decodeQueue.length ≤ decodeCapacity

/-- The third law's bound: the move queue never holds more than 32 records (R68). -/
def queueLaw (s : State) : Prop := s.pln.queue.length ≤ queueCapacity

/-- The index the sample at a place of the buffer must carry: E minus the occupancy, plus the place (R105). -/
def sampleIndex (st : Stream) (i : Nat) : BitVec 16 :=
  st.expected - BitVec.ofNat 16 st.samples.length + BitVec.ofNat 16 i

/-- The fourth law: at most 64 samples, in consecutive index order up to E (R105). -/
def streamLaw (s : State) : Prop :=
  s.pln.stream.samples.length ≤ streamCapacity ∧
    s.pln.stream.samples.map Sample.index =
      (List.range s.pln.stream.samples.length).map (sampleIndex s.pln.stream)

/-- A stream plays or plays out only in STREAM (R116, R122, R124). -/
def streamFlight (s : State) : Prop :=
  (s.pln.stream.state = .playing ∨ s.pln.stream.state = .ending) → s.fcu.flight = .stream

/-- The fifth law's second part, that in PARKED and TRIPPED no channel is RELEASING or STREAMING (R63), and the same in
PARKING, which R54 and R56 enter with a brake request to every channel. -/
def brakeLaw (s : State) : Prop :=
  producesSamples s.fcu.flight = false → ∀ w, (s.chan w).state ≠ .releasing ∧ (s.chan w).state ≠ .streaming

/-- The seventh law: a setting operation only in PARKED, and a channel SETTING only while an operation in progress holds it
as involved (R174). -/
def settingLaw (s : State) : Prop :=
  (s.ch.op.kind ≠ .noSetting → s.fcu.flight = .parked) ∧
    ∀ w, (s.chan w).state = .setting → s.ch.op.kind ≠ .noSetting ∧ s.ch.op.involved.get (winchIndex w) = true

/-- The tenth law: while any TRIP flag is set, the flight state is TRIPPED (R186). -/
def tripLaw (s : State) : Prop := ∀ f : Flag, f.isTrip = true → (s.flag f).set = true → s.fcu.flight = .tripped

/-- A message is a reply: an ACK, an ERROR_REPORT or a result record (R204). -/
def Message.isReply : Message → Bool
  | .ack .. => true
  | .errorReport .. => true
  | .notice .. => false
  | .state _ => true
  | .pose _ => true
  | .zoneInfo .. => true
  | .settingsInfo _ => true
  | .moveNotice .. => false
  | .framePose _ => false
  | .tripNotice .. => false
  | .markerInfo .. => true

/-- A command is one of the records that get a reply: neither STICK nor STREAM_DATA nor an ignored record (R204). -/
def repliedCommand : Instr → Bool
  | .ignoredRecord .. => false
  | .stick .. => false
  | .streamData .. => false
  | c => (recordOf c).isSome

end Sys2Proof.Machine
end

