-- ==== Sys2Proof/Certificates/Slice0/Obligations.lean ====
section
/-! DEFINITION. The statements about the part, for the provers. Each is a Prop; OBLIGATIONS.json lists them. A statement of a
command's result gives its next state whole wherever it is written as an update of the state before, so that it says what
the command leaves alone as well. -/

open Sys2Proof Sys2Proof.Machine

/-! ## The step and every command -/

/-- A step runs the command at the front of the queue on the state with the queue's rest; with none waiting the part
idles, which is the model's choice (log 4). -/
def Obligations.StepRunsFrontCommand : Prop :=
  (∀ (s : State) (c : Instr) (rest : List Instr), s.pending = c :: rest → step s = exec c { s with pending := rest }) ∧
    ∀ s : State, s.pending = [] → step s = .next s

/-- Every command answers a next state, leaves the waiting commands alone, and leaves no notice uncopied. -/
def Obligations.EveryCommandCompletesCleanly : Prop :=
  ∀ (c : Instr) (s : State), ∃ t, exec c s = .next t ∧ t.pending = s.pending ∧ t.link.handed = []

/-! ## Reset -/

/-- The part right after a reset whose two images fail their checks holds the reset values and the defaults of the rules.
The model's choices among them: that the images are taken as failing (log 9), no frame sent yet by a channel (log 10), and
the snapshot's frame count 0 and reference state FREE_RUN (log 29). The defaults an image that fails leaves are spelled as
well. -/
def Obligations.ResetStateHoldsResetValues : Prop :=
  let s := State.reset
  (s.link.assembler = .hunting ∧ s.link.gapTimer = none ∧ s.link.decodeQueue = [] ∧ s.link.tx = [] ∧
    s.link.masks =
      ⟨⟨true, true, true, true, false⟩, ⟨true, true, true, true, false⟩, ⟨true, false, false, false, false⟩,
        ⟨false, false, false, false, false⟩⟩ ∧
    s.link.counters = ⟨0, 0, 0, 0, 0, 0, 0, 0⟩ ∧ s.link.resetPhase = .running) ∧
  s.fcu = ⟨.parked, .noCause, false, false, ⟨⟨0, 0, 0⟩, false, .unset⟩⟩ ∧
  (s.pln.queue = [] ∧ s.pln.inHand = none ∧ s.pln.stick = ⟨⟨0, 0, 0⟩, none, 0⟩ ∧
    s.pln.stream = ⟨.idle, [], 0, 0, false, false, false, false, 0, 0⟩ ∧ s.pln.holdPos = ⟨0, 0, 0⟩ ∧
    s.pln.vel = ⟨0, 0, 0⟩) ∧
  (s.env.box = ⟨⟨0, 0, 0⟩, ⟨0, 0, 0⟩⟩ ∧ s.env.boxValid = false ∧
    s.env.limits = ⟨1000, 10000, 2000, 6000, 2000, 4000, 6000, 2500, 200, 4000, 500, 50, 16, 20⟩ ∧
    (∀ z ∈ s.env.zones.toList, z = none) ∧ s.env.ceiling = 10000000) ∧
  (s.sol.home = ⟨0, 0, 0⟩ ∧ s.sol.homeValid = false ∧
    ∀ w, s.sol.anchors.get w = ⟨⟨0, 0, 0⟩, ⟨0, 0, 0⟩, 0, 0, 0⟩) ∧
  ((∀ i, s.mrk.markers.get i = none) ∧ s.mrk.holdPending = false) ∧
  (s.fru.timing = ⟨2000, 10⟩ ∧ s.fru.ref = .freeRun ∧ s.fru.frameIndex = 0 ∧ s.fru.nextEvent = some 2000 ∧
    s.fru.lastRef = none ∧ s.fru.good = 0 ∧ s.fru.miss = 0 ∧ s.fru.pullDir = none ∧ s.fru.pullLeft = 0 ∧
    s.fru.frames = 0 ∧
    s.fru.snapshot = ⟨0, ⟨0, 0, 0⟩, ⟨0, 0, 0, 0⟩, ⟨0, 0, 0, 0⟩, ⟨true, true, true, true⟩, .freeRun⟩) ∧
  ((∀ w, s.chan w =
      { state := .absent, seq := 0, newest := 0, requested := 0, restartPending := false, last := ⟨none, false, 0, 0⟩,
        answered := false, miss := 0, slackCount := 0, overCount := 0, followCount := 0, warning := false,
        badFrames := 0, timer := none, limits := ⟨200, 500, 8000, 10000, 50⟩, sent := none }) ∧
    s.ch.op.kind = .noSetting) ∧
  ((∀ f, s.flag f = ⟨false, 0, 0⟩) ∧ s.flt.trip = ⟨none, 0, none, .parked, ⟨0, 0, 0⟩, 0⟩) ∧
  (s.sto.save = .idle ∧ s.sto.poseWriting = none ∧ s.sto.poseWaiting = false ∧ s.sto.defaulted = true) ∧
  (let d := Settings.default
   (∀ w, d.anchors.get w = ⟨⟨0, 0, 0⟩, ⟨0, 0, 0⟩, 0, 0, 0⟩) ∧ d.home = ⟨0, 0, 0⟩ ∧ d.box = ⟨⟨0, 0, 0⟩, ⟨0, 0, 0⟩⟩ ∧
     d.limits = s.env.limits ∧ d.timing = ⟨2000, 10⟩ ∧ (∀ w, d.chLimits.get w = ⟨200, 500, 8000, 10000, 50⟩) ∧
     (∀ z ∈ d.zones.toList, z = none) ∧ ∀ i, d.markers.get i = none)

/-- The reset state meets every law that the statements on laws keep. -/
def Obligations.LawsHoldAtReset : Prop :=
  linkBounds State.reset ∧ queueLaw State.reset ∧ streamLaw State.reset ∧ streamFlight State.reset ∧
    positionLaw State.reset ∧ workspaceLaw State.reset ∧ speedLaw State.reset ∧ brakeLaw State.reset ∧
    settingLaw State.reset ∧ tripLaw State.reset

/-- A part reset with the emergency-stop line deasserted: every block takes its fields of the two images, or the defaults
where an image fails its check or the external memory does not answer, and everything else its reset value; the acceptance
check, the home valid flag and the inside flags are computed. That an image whose writing the reset ended is left as it
was, of a bad check, or whole is the model's choice (log 5), and that the pose image counts as bad when the memory does
not answer is deduced (log 25). With the line asserted it is the load followed by one assertion of the line, which trips
the part from PARKED. -/
def Obligations.PartResetLoadsAndTrips : Prop :=
  (∀ (s : State) (strap : Strap) (answers : Bool), s.flt.line = false →
     ∃ (image : Option Settings) (poseImage : Option RetainedPose) (t : State),
       imageLeft s.sto.settingsImage s.sto.save.written image ∧ imageLeft s.sto.poseImage s.sto.poseWriting poseImage ∧
       exec (.partReset strap answers) s = .next t ∧
       let cfg := if answers then image.getD Settings.default else Settings.default
       let pose := if answers then poseImage.getD ⟨⟨0, 0, 0⟩, false, .unset⟩ else ⟨⟨0, 0, 0⟩, false, .unset⟩
       let valid := boxPasses cfg.anchors cfg.box
       t.link = { State.reset.link with strap := strap } ∧
       t.fcu = ⟨.parked, .noCause, false, false, pose⟩ ∧
       t.pln = { State.reset.pln with pos := pose.pos, holdPos := pose.pos } ∧
       t.env = ⟨cfg.box, valid, cfg.limits, cfg.zones, 1000 * cfg.limits.vmax⟩ ∧
       t.sol = ⟨cfg.anchors, cfg.home,
         valid && inBox (shrunkBox cfg.limits.margin cfg.box) (toMicrons cfg.home)⟩ ∧
       t.mrk = ⟨cfg.markers.map (Option.map fun m => ⟨m, insideMarker m pose.pos⟩), false⟩ ∧
       t.fru =
         { State.reset.fru with
           timing := cfg.timing, nextEvent := some cfg.timing.ts,
           snapshot := { State.reset.fru.snapshot with pos := pose.pos } } ∧
       t.ch = { State.reset.ch with chans := cfg.chLimits.map fun l => { State.reset.chan .w1 with limits := l } } ∧
       t.flt = { State.reset.flt with line := false } ∧
       t.sto = ⟨image, poseImage, .idle, none, false, !answers || image.isNone⟩ ∧
       t.pending = s.pending) ∧
  ∀ (s : State) (strap : Strap) (answers : Bool), s.flt.line = true →
    ∃ u t, exec (.partReset strap answers) { s with flt := { s.flt with line := false } } = .next u ∧
      exec .estopAssertion u = .next t ∧ exec (.partReset strap answers) s = .next t ∧ t.fcu.flight = .tripped ∧
      t.flag .estop = ⟨true, 1, 0⟩ ∧ t.flt.line = true

/-! ## Trips and flags -/

/-- One occurrence of any of the seven TRIP flags takes a trip outside TRIPPED, with its whole effect and its TRIP_NOTICE,
and so do an assertion of the emergency-stop line and a TRIP record after its ACK. In TRIPPED a further occurrence of a
TRIP flag updates the flag alone: a flag that was clear sends its TRIP_NOTICE with the trip record's fields, not as the
first, and one that was set sends nothing. A deassertion changes the level alone; that an assertion of a line that is
asserted is no event is the model's choice (log 2). -/
def Obligations.TripByLineAndRecord : Prop :=
  (∀ f : Flag, f.isTrip = true ↔
    f ∈ [Flag.slack, .overtension, .following, .channelLost, .driveFault, .estop, .operatorTrip]) ∧
  (∀ (f : Flag) (channel : Nat) (seat : Option Seat) (s : State), f.isTrip = true →
    let was := s.flag f
    (s.fcu.flight ≠ .tripped → report f channel seat s = tripEffect f channel seat s) ∧
    (s.fcu.flight = .tripped →
      report f channel seat s =
        if was.set then s.setFlag f ⟨true, if was.count < 255 then was.count + 1 else 255, channel⟩
        else
          handOver .everySeat
            (.tripNotice f false channel seat s.flt.trip.left s.flt.trip.pos s.flt.trip.frames)
            (s.setFlag f ⟨true, 1, channel⟩))) ∧
  ((∀ s : State, s.flt.line = false → s.fcu.flight ≠ .tripped →
     exec .estopAssertion s = .next (deliver (tripEffect .estop 0 none { s with flt := { s.flt with line := true } }))) ∧
   ∀ (s : State) (seat : Seat) (d0 d1 : Byte), s.takesRecord ⟨seat, 0x10, [d0, d1]⟩ → s.fcu.flight ≠ .tripped →
     exec (.trip seat d0 d1) s = .next (deliver (tripEffect .operatorTrip 0 (some seat) (s.acked seat 0x10 0)))) ∧
  (∀ (s : State) (seat : Seat) (d0 d1 : Byte), s.takesRecord ⟨seat, 0x10, [d0, d1]⟩ → s.fcu.flight = .tripped →
    let a := s.acked seat 0x10 0
    let was := s.flag .operatorTrip
    exec (.trip seat d0 d1) s =
      .next (if was.set then
          a.setFlag .operatorTrip ⟨true, if was.count < 255 then was.count + 1 else 255, 0⟩
        else
          deliver (handOver .everySeat
            (.tripNotice .operatorTrip false 0 (some seat) s.flt.trip.left s.flt.trip.pos s.flt.trip.frames)
            (a.setFlag .operatorTrip ⟨true, 1, 0⟩)))) ∧
  (∀ s : State, s.flt.line = false → s.fcu.flight = .tripped → s.link.handed = [] →
    let a : State := { s with flt := { s.flt with line := true } }
    let was := s.flag .estop
    exec .estopAssertion s =
      .next (if was.set then a.setFlag .estop ⟨true, if was.count < 255 then was.count + 1 else 255, 0⟩
        else
          deliver (handOver .everySeat
            (.tripNotice .estop false 0 none s.flt.trip.left s.flt.trip.pos s.flt.trip.frames)
            (a.setFlag .estop ⟨true, 1, 0⟩)))) ∧
  (∀ s : State, s.link.handed = [] →
    exec .estopDeassertion s = .next { s with flt := { s.flt with line := false } }) ∧
  ∀ s : State, s.flt.line = true → s.link.handed = [] → exec .estopAssertion s = .next s

/-- One occurrence of a flag that is no TRIP flag: it is set, its counter is 1 when it was clear and one more up to 255
when it was set, its channel number is the occurrence's, the notice of its own name is handed to LINK when it was clear;
nothing else changes. CLEAR_FAULTS is refused with BUSY while a channel is BRAKING. Otherwise it clears every flag but
those whose condition stands (ESTOP while the line is asserted, DRIVE_FAULT while a channel is FAULTED, TENSION_WARN while
a STREAMING channel has a live warning, REFERENCE_LOST while the reference is not LOCKED), zeroes the bad-frame counters,
and with no TRIP flag left in TRIPPED resets the trip record and returns to PARKED; the reply tells which categories still
hold a set flag. -/
def Obligations.FlagsRaisedAndCleared : Prop :=
  ([Flag.wallStrike, .zoneStop, .pathRejected, .referenceLost, .stickTimeout, .streamUnderrun, .streamOverflow, .streamLag,
      .tensionWarn, .armTimeout, .settingTimeout, .feedbackErrors].map Flag.noticeCode =
    [some NoticeCode.wallStrike, some .zoneStop, some .pathRejected, some .referenceLost, some .stickTimeout,
      some .streamUnderrun, some .streamOverflow, some .streamLag, some .tensionWarn, some .armTimeout,
      some .settingTimeout, some .feedbackErrors]) ∧
  (∀ (f : Flag) (code : NoticeCode) (channel : Nat) (seat : Option Seat) (s : State), f.noticeCode = some code →
     let was := s.flag f
     (was.set = true →
       report f channel seat s =
         s.setFlag f ⟨true, if was.count < 255 then was.count + 1 else 255, channel⟩) ∧
     (was.set = false → report f channel seat s = notice code channel (s.setFlag f ⟨true, 1, channel⟩))) ∧
  (∀ (s : State) (seat : Seat) (d0 d1 : Byte), s.takesRecord ⟨seat, 0x11, [d0, d1]⟩ →
    (∃ w, (s.chan w).state = .braking) → exec (.clearFaults seat d0 d1) s = .next (s.refused seat .busy 0)) ∧
  ∀ (s : State) (seat : Seat) (d0 d1 : Byte), s.takesRecord ⟨seat, 0x11, [d0, d1]⟩ →
    (∀ w, (s.chan w).state ≠ .braking) →
    let stands : Flag → Prop := fun f =>
      (f = .estop ∧ s.flt.line = true) ∨ (f = .driveFault ∧ ∃ w, (s.chan w).state = .faulted) ∨
        (f = .tensionWarn ∧ ∃ w, (s.chan w).state = .streaming ∧ (s.chan w).warning = true) ∨
        (f = .referenceLost ∧ s.fru.ref ≠ .locked)
    ∃ (t : State) (detail : Nat),
      exec (.clearFaults seat d0 d1) s = .next t ∧
      (∀ f, (stands f → t.flag f = s.flag f) ∧ (¬ stands f → t.flag f = ⟨false, 0, 0⟩)) ∧
      (∀ w, t.chan w = { s.chan w with badFrames := 0 }) ∧ t.ch.op = s.ch.op ∧ t.flt.line = s.flt.line ∧
      (let back := s.fcu.flight = .tripped ∧ ∀ f : Flag, f.isTrip = true → (t.flag f).set = false;
        (back → t.fcu = { s.fcu with flight := .parked } ∧ t.flt.trip = ⟨none, 0, none, .parked, ⟨0, 0, 0⟩, 0⟩) ∧
          (¬ back → t.fcu = s.fcu ∧ t.flt.trip = s.flt.trip)) ∧
      t.link = (s.acked seat 0x11 detail).link ∧ detail < 16 ∧
      (detail.testBit 0 = true ↔ ∃ f ∈ [Flag.wallStrike, .zoneStop, .pathRejected], (t.flag f).set = true) ∧
      (detail.testBit 1 = true ↔
        ∃ f ∈ [Flag.referenceLost, .stickTimeout, .streamUnderrun, .streamOverflow, .streamLag],
          (t.flag f).set = true) ∧
      (detail.testBit 2 = true ↔
        ∃ f ∈ [Flag.tensionWarn, .armTimeout, .settingTimeout, .feedbackErrors], (t.flag f).set = true) ∧
      (detail.testBit 3 = true ↔
        ∃ f ∈ [Flag.slack, .overtension, .following, .channelLost, .driveFault, .estop, .operatorTrip],
          (t.flag f).set = true) ∧
      t.pln = s.pln ∧ t.env = s.env ∧ t.sol = s.sol ∧ t.mrk = s.mrk ∧ t.fru = s.fru ∧ t.sto = s.sto

/-! ## The console link -/

/-- LINK's three checks, in order, refuse a record at its decode with the record's type as detail, and change nothing
else: SEAT_CLOSED for SERVICE while the permit is closed, NOT_PERMITTED for a seat that R203's table does not list for the
type, BAD_LENGTH for a long record whose payload length that table does not list for the type. The table stands here row by
row: type, seats, payload lengths; ARM, say, is taken from PILOT alone. -/
def Obligations.LinkRefusesInOrder : Prop :=
  let all : List Seat := [.pilot, .safety, .director, .service]
  let edits : List Seat := [.pilot, .safety, .director]
  let rows : List (BitVec 6 × List Seat × List Nat) :=
    [(0x08, all, []), (0x09, [.pilot], []), (0x0A, [.pilot, .safety], []), (0x0B, edits, []), (0x0C, [.pilot], []),
      (0x0D, [.pilot], []), (0x0E, [.pilot], []), (0x0F, [.pilot], []), (0x10, [.pilot, .safety], []),
      (0x11, [.safety], []), (0x12, [.safety], []), (0x13, [.safety], []), (0x14, edits, []), (0x15, [.director], []),
      (0x16, all, []), (0x17, all, []), (0x18, all, []), (0x19, all, []), (0x1A, [.pilot, .director], []),
      (0x1B, [.service], []), (0x1C, [.service], []), (0x1D, [.service], []), (0x1E, [.service], []), (0x1F, all, [])] ++
    [(0x21, [.pilot, .director], [17, 19, 21]), (0x22, [.director], [6]), (0x24, edits, [33]), (0x25, edits, [4]),
      (0x26, edits, [3]), (0x27, [.pilot, .director], [17]), (0x28, [.service], [37]), (0x29, [.service], [24]),
      (0x2A, [.service], [27]), (0x2B, [.service], [11]), (0x2C, [.service], [3]), (0x2D, [.service], [12]),
      (0x2E, [.service], [12])]
  ∀ (c : Instr) (r : Record) (s : State), repliedCommand c = true → recordOf c = some r → s.decodesNow r →
    let closed := r.seat = .service ∧ s.fcu.permit = false
    let listed := ∃ seats lengths, (r.type, seats, lengths) ∈ rows ∧ r.seat ∈ seats
    let fits := r.type.toNat < 0x20 ∨ ∃ seats lengths, (r.type, seats, lengths) ∈ rows ∧ r.body.length ∈ lengths
    (closed → exec c s = .next (s.refused r.seat .seatClosed r.type.toNat)) ∧
    (¬ closed → ¬ listed → exec c s = .next (s.refused r.seat .notPermitted r.type.toNat)) ∧
    (¬ closed → listed → ¬ fits → exec c s = .next (s.refused r.seat .badLength r.type.toNat)) ∧
    (s.takesRecord r ↔ (¬ closed ∧ listed ∧ fits))

/-- The eighth law: the decode of a record other than STICK, STREAM_DATA and the ignored types queues exactly one reply, on
the seat the record came from and before the notices of the same step; those three get none. -/
def Obligations.OneReplyPerDecode : Prop :=
  (∀ (c : Instr) (r : Record) (s : State), repliedCommand c = true → recordOf c = some r → s.decodesNow r →
    ∃ t m rest, exec c s = .next t ∧ t.link.tx = s.link.tx ++ ⟨r.seat, m⟩ :: rest ∧ m.isReply = true ∧
      ∀ x ∈ rest, x.msg.isReply = false) ∧
  ∀ (c : Instr) (r : Record) (s : State), repliedCommand c = false → recordOf c = some r → s.decodesNow r →
    ∃ t rest, exec c s = .next t ∧ t.link.tx = s.link.tx ++ rest ∧ ∀ x ∈ rest, x.msg.isReply = false

/-- A record that LINK cannot decode now changes nothing but the decode queue: once a RESET_PART is taken nothing at all;
with 64 records in the transmit queue, or behind an older record, it waits in the queue, which it joins unless it stands
there, or is discarded and counted when the queue holds 8 (log 1). A byte without its stop bit is counted and the
assembler hunts. The gap timer's expiry, at the present time plus the time it has left, is counted and the assembler
hunts; with the timer stopped there is no such event (log 2), nor before that instant (log 3). Once a RESET_PART is taken
the assembler takes no byte. TRANSMIT_COMPLETE takes the oldest record out of the transmit queue; when that was a
RESET_PART's ACK the part reset is due, after which nothing is sent (deduced, log 19); with nothing being sent there is no
such event (log 2). -/
def Obligations.RecordsWaitAndLeave : Prop :=
  (∀ (c : Instr) (r : Record) (s : State), Instr.wellFormed c = true → recordOf c = some r → s.link.handed = [] →
     (s.link.resetPhase ≠ .running → exec c s = .next s) ∧
     (s.link.resetPhase = .running →
       (64 ≤ s.link.tx.length ∨ ∃ head rest, s.link.decodeQueue = head :: rest ∧ head ≠ r) →
       exec c s =
         .next (if r ∈ s.link.decodeQueue then s
           else if s.link.decodeQueue.length < 8 then
             { s with link := { s.link with decodeQueue := s.link.decodeQueue ++ [r] } }
           else
             { s with
               link :=
                 { s.link with
                   counters :=
                     { s.link.counters with
                       overrun := if s.link.counters.overrun < 65535 then s.link.counters.overrun + 1 else 65535 } } }))) ∧
  (∀ s : State, s.link.handed = [] →
     (∀ b, s.link.resetPhase = .running →
       exec (.receiveByte b false) s =
         .next { s with
           link :=
             { s.link with
               assembler := .hunting, gapTimer := none
               counters :=
                 { s.link.counters with
                   byteError := if s.link.counters.byteError < 65535 then s.link.counters.byteError + 1 else 65535 } } }) ∧
     (∀ b stopBit, s.link.resetPhase ≠ .running → exec (.receiveByte b stopBit) s = .next s) ∧
     (∀ left, s.link.gapTimer = some left → s.fru.now + left ≤ s.fru.horizon →
       let a := advanceTo (s.fru.now + left) s
       exec .gapTimeout s =
         .next { a with
           link :=
             { a.link with
               assembler := .hunting, gapTimer := none
               counters :=
                 { s.link.counters with
                   gap := if s.link.counters.gap < 65535 then s.link.counters.gap + 1 else 65535 } } }) ∧
     ((∀ left, s.link.gapTimer = some left → s.fru.horizon < s.fru.now + left) → exec .gapTimeout s = .next s)) ∧
  ∀ s : State, s.link.handed = [] →
    (∀ x rest, s.link.tx = x :: rest →
      (s.link.resetPhase = .running → exec .transmitComplete s = .next { s with link := { s.link with tx := rest } }) ∧
      (∀ left, s.link.resetPhase = .ackQueued left → left ≤ 1 →
        exec .transmitComplete s = .next { s with link := { s.link with tx := rest, resetPhase := .due } }) ∧
      ∀ left, s.link.resetPhase = .ackQueued left → 1 < left →
        exec .transmitComplete s =
          .next { s with link := { s.link with tx := rest, resetPhase := .ackQueued (left - 1) } }) ∧
    (s.link.tx = [] ∨ s.link.resetPhase = .due → exec .transmitComplete s = .next s)

/-- The receive assembler while the part takes bytes: a lead byte begins a record, other bytes are passed over in HUNTING;
the first three bytes after the lead are held; the fourth decides the header, where a bad check or a length above 512 is
counted and the held bytes are scanned for a new lead, a short record is complete and a long one begins its body; the last
byte of a body decides the payload check. Each byte that leaves a record in progress starts the gap timer with 2,000 µs.
Byte 1 carries the seat in its top two bits and the type in its low six. -/
def Obligations.AssemblerTakesBytes : Prop :=
  (∀ b : Byte, (typeOfByte b).toNat = b.toNat % 64 ∧ (seatIndex (seatOfByte b)).val = b.toNat / 64) ∧
  ∀ (s : State) (b : Byte), s.link.resetPhase = .running → s.link.handed = [] →
    let hunting : Link → Link := fun l => { l with assembler := .hunting, gapTimer := none }
    let collecting : Assembler → Link → Link := fun a l => { l with assembler := a, gapTimer := some 2000 }
    let complete : Record → Link → Link := fun r l =>
      if l.decodeQueue.length < 8 then { l with decodeQueue := l.decodeQueue ++ [r] }
      else
        { l with
          counters := { l.counters with overrun := if l.counters.overrun < 65535 then l.counters.overrun + 1 else 65535 } }
    let next : Link → Prop := fun l => exec (.receiveByte b true) s = .next { s with link := l }
    (s.link.assembler = .hunting →
      (b = 0xD5 → next (collecting (.header []) s.link)) ∧ (b ≠ 0xD5 → next s.link)) ∧
    (∀ held, s.link.assembler = .header held → held.length < 3 → next (collecting (.header (held ++ [b])) s.link)) ∧
    (∀ b1 b2 b3, s.link.assembler = .header [b1, b2, b3] →
      let n := b2.toNat + 256 * b3.toNat
      let rescan : Link → Prop := fun l =>
        (0xD5 ∉ [b1, b2, b3, b] → next (hunting l)) ∧
        ∀ before kept, [b1, b2, b3, b] = before ++ 0xD5 :: kept → 0xD5 ∉ before → next (collecting (.header kept) l)
      (headerCheck [b1, b2, b3] ≠ b →
        rescan
          { s.link with
            counters :=
              { s.link.counters with
                headerCheck :=
                  if s.link.counters.headerCheck < 65535 then s.link.counters.headerCheck + 1 else 65535 } }) ∧
      (headerCheck [b1, b2, b3] = b → (typeOfByte b1).toNat < 0x20 →
        next (complete ⟨seatOfByte b1, typeOfByte b1, [b2, b3]⟩ (hunting s.link))) ∧
      (headerCheck [b1, b2, b3] = b → 0x20 ≤ (typeOfByte b1).toNat → 512 < n →
        rescan
          { s.link with
            counters :=
              { s.link.counters with
                length := if s.link.counters.length < 65535 then s.link.counters.length + 1 else 65535 } }) ∧
      (headerCheck [b1, b2, b3] = b → 0x20 ≤ (typeOfByte b1).toNat → n ≤ 512 →
        next (collecting (.body b1 n []) s.link))) ∧
    ∀ b1 n got, s.link.assembler = .body b1 n got →
      (got.length + 1 < n + 2 → next (collecting (.body b1 n (got ++ [b])) s.link)) ∧
      (got.length + 1 = n + 2 →
        let payload := (got ++ [b]).take n
        let check := (got ++ [b]).drop n
        (check = [BitVec.ofNat 8 (payloadCheck payload).toNat, BitVec.ofNat 8 ((payloadCheck payload).toNat / 256)] →
          next (complete ⟨seatOfByte b1, typeOfByte b1, payload⟩ (hunting s.link))) ∧
        (check ≠ [BitVec.ofNat 8 (payloadCheck payload).toNat, BitVec.ofNat 8 ((payloadCheck payload).toNat / 256)] →
          next
            { hunting s.link with
              counters :=
                { s.link.counters with
                  payloadCheck :=
                    if s.link.counters.payloadCheck < 65535 then s.link.counters.payloadCheck + 1 else 65535 } }))

/-- A record sent byte by byte in its wire form, short or long, with its header check and its payload check, is received
as that record: it stands last in the decode queue and the assembler hunts again. The wire form is the lead, byte 1, and two
data bytes with their check, or the length of at most 512 with its check and the payload with its own, low bytes first. -/
def Obligations.WireRecordIsReceived : Prop :=
  (∀ (seat : Seat) (type : BitVec 6) (body : List Byte),
    let b1 := BitVec.ofNat 8 (64 * (seatIndex seat).val + type.toNat)
    let n := body.length
    let len := [BitVec.ofNat 8 n, BitVec.ofNat 8 (n / 256)]
    let check := (payloadCheck body).toNat
    (type.toNat < 0x20 →
      wireBytes seat type body = 0xD5 :: b1 :: body ++ [headerCheck (b1 :: body)] ∧
        (bodyFits type body = true ↔ n = 2)) ∧
    (0x20 ≤ type.toNat →
      wireBytes seat type body =
        0xD5 :: b1 :: len ++ [headerCheck (b1 :: len)] ++ body ++ [BitVec.ofNat 8 check, BitVec.ofNat 8 (check / 256)] ∧
        (bodyFits type body = true ↔ n ≤ 512))) ∧
  ∀ (seat : Seat) (type : BitVec 6) (body : List Byte) (s : State), bodyFits type body = true →
    s.link.resetPhase = .running → s.link.handed = [] → s.link.assembler = .hunting → s.link.decodeQueue.length < 8 →
    feed (wireBytes seat type body) s =
      .next { s with
        link :=
          { s.link with
            assembler := .hunting, gapTimer := none, decodeQueue := s.link.decodeQueue ++ [⟨seat, type, body⟩] } }

/-- The wire forms of what the part sends. A record: the lead, seat and type, two data bytes or a payload with its length,
and the checks, whose registers take a byte as R198 says. Each record's type, its size, and each of its fields at its
place, low byte first and two's complement; the codes of the tables; bits 0 to 3 of a detail for W1 to W4. A drive frame:
kind and sequence number, the length two of them carry, and the check; and an answer as it is read. -/
def Obligations.WireForms : Prop :=
  let num : List Byte → Nat → Nat → Nat → Prop := fun p at' len v => unsignedAt p at' len = v % 256 ^ len
  let int4 : List Byte → Nat → Int → Prop := fun p at' v => (unsignedAt p at' 4 : Int) = v % 4294967296
  let vec : List Byte → Nat → Vec3 → Prop := fun p at' v => int4 p at' v.x ∧ int4 p (at' + 4) v.y ∧ int4 p (at' + 8) v.z
  let box : List Byte → Nat → Box → Prop := fun p at' b => vec p at' b.lo ∧ vec p (at' + 12) b.hi
  let flag : List Byte → Nat → Bool → Prop := fun p at' b => unsignedAt p at' 1 = if b then 1 else 0
  let byte : List Byte → Nat → Byte → Prop := fun p at' b => unsignedAt p at' 1 = b.toNat
  let each : {α : Type} → List α → Nat → Nat → (Nat → α → Prop) → Prop := fun xs start len holds =>
    ∀ i x, xs[i]? = some x → holds (start + i * len) x
  (∀ p at' len, unsignedAt p at' len = natOf ((p.drop at').take len)) ∧ natOf [] = 0 ∧
  (∀ b rest, natOf (b :: rest) = b.toNat + 256 * natOf rest) ∧
  (headerCheck [] = 0 ∧ payloadCheck [] = 0xFFFF ∧
    (∀ bytes b, headerCheck (bytes ++ [b]) =
      Nat.iterate (fun r : BitVec 8 => if r.msb then (r <<< 1) ^^^ 0x07 else r <<< 1) 8 (headerCheck bytes ^^^ b)) ∧
    ∀ bytes b, payloadCheck (bytes ++ [b]) =
      Nat.iterate (fun r : BitVec 16 => if r.msb then (r <<< 1) ^^^ 0x1021 else r <<< 1) 8
        (payloadCheck bytes ^^^ (BitVec.ofNat 16 b.toNat <<< 8))) ∧
  (∀ r : TxRecord,
    let b1 := BitVec.ofNat 8 (64 * (seatIndex r.seat).val + r.msg.type.toNat)
    let body := r.msg.body
    let n := body.length
    let check := (payloadCheck body).toNat
    (r.msg.type.toNat < 0x20 → n = 2 ∧ r.wire = 0xD5 :: b1 :: body ++ [headerCheck (b1 :: body)]) ∧
    (0x20 ≤ r.msg.type.toNat →
      let len := [BitVec.ofNat 8 n, BitVec.ofNat 8 (n / 256)]
      r.wire =
        0xD5 :: b1 :: len ++ [headerCheck (b1 :: len)] ++ body ++ [BitVec.ofNat 8 check, BitVec.ofNat 8 (check / 256)])) ∧
  (∀ answered detail, (Message.ack answered detail).type = 0x01 ∧
    (Message.ack answered detail).body = [BitVec.ofNat 8 answered.toNat, detail]) ∧
  (∀ code detail, (Message.errorReport code detail).type = 0x02 ∧
    (Message.errorReport code detail).body = [code.code, detail]) ∧
  (∀ code detail, (Message.notice code detail).type = 0x03 ∧ (Message.notice code detail).body = [code.code, detail]) ∧
  (∀ r : StateReport,
    let m := Message.state r
    let p := m.body
    m.type = 0x30 ∧ p.length = 118 ∧ byte p 0 r.flight.code ∧ byte p 1 r.cause.code ∧ num p 2 1 r.queueCount ∧
      num p 3 2 r.moveId ∧ byte p 5 (phaseCode r.phase) ∧ byte p 6 r.streamState.code ∧ num p 7 1 r.occupancy ∧
      num p 8 2 r.expected.toNat ∧ byte p 10 r.ref.code ∧ num p 11 4 r.frames ∧
      each r.chanStates.toList 15 1 (fun at' x => byte p at' x.code) ∧
      each r.badFrames.toList 19 2 (fun at' x => num p at' 2 x) ∧
      (∀ i, (unsignedAt p 27 4).testBit i = true ↔ ∃ h : i < 19, (r.flags[i]).set = true) ∧
      each r.flags.toList 31 1 (fun at' x => num p at' 1 x.count) ∧
      each r.flags.toList 50 1 (fun at' x => num p at' 1 x.channel) ∧
      unsignedAt p 69 1 = (match r.trip.cause with | some f => f.number.val | none => 255) ∧ num p 70 1 r.trip.channel ∧
      unsignedAt p 71 1 = (match r.trip.seat with | some x => (seatIndex x).val | none => 255) ∧
      byte p 72 r.trip.left.code ∧ vec p 73 r.trip.pos ∧ num p 85 4 r.trip.frames ∧ flag p 89 r.line ∧
      flag p 90 r.consent ∧ flag p 91 r.permit ∧ flag p 92 r.defaulted ∧ flag p 93 r.boxValid ∧ flag p 94 r.poseValid ∧
      byte p 95 r.poseOrigin.code ∧ num p 96 2 r.counters.dropped ∧ num p 98 2 r.counters.headerCheck ∧
      num p 100 2 r.counters.length ∧ num p 102 2 r.counters.payloadCheck ∧ num p 104 2 r.counters.gap ∧
      num p 106 2 r.counters.byteError ∧ num p 108 2 r.counters.ignored ∧ num p 110 2 r.counters.overrun ∧
      num p 112 2 r.stickDiscards ∧ num p 114 2 r.streamDiscards ∧ num p 116 2 r.streamGaps) ∧
  (∀ r : Snapshot,
    let m := Message.pose r
    let p := m.body
    m.type = 0x31 ∧ (Message.framePose r).type = 0x35 ∧ (Message.framePose r).body = p ∧ p.length = 42 ∧
      num p 0 4 r.frames ∧ vec p 4 r.pos ∧ each r.lengths.toList 16 4 (fun at' x => num p at' 4 x) ∧
      each r.tensions.toList 32 2 (fun at' x => num p at' 2 x) ∧
      (∀ i, (unsignedAt p 40 1).testBit i = true ↔ r.stale.toList[i]? = some true) ∧ byte p 41 r.ref.code) ∧
  (∀ (slot : Nat) (z : Option Zone),
    let m := Message.zoneInfo slot z
    let p := m.body
    m.type = 0x32 ∧ p.length = 32 ∧ num p 0 1 slot ∧ (z = none → p.tail = 1 :: List.replicate 30 0) ∧
      ∀ x, z = some x →
        unsignedAt p 1 1 = 0 ∧ flag p 3 x.active ∧ box p 4 x.box ∧ unsignedAt p 30 1 = (seatIndex x.owner).val ∧
          flag p 31 (decide (x.lock ≠ 0)) ∧
          (x.kind = .keepOut → unsignedAt p 2 1 = 0 ∧ unsignedAt p 28 2 = 0) ∧
          ∀ cap, x.kind = .slow cap → unsignedAt p 2 1 = 1 ∧ num p 28 2 cap) ∧
  (∀ r : SettingsReport,
    let m := Message.settingsInfo r
    let p := m.body
    let l := r.limits
    m.type = 0x33 ∧ p.length = 253 ∧
      each r.anchors.toList 0 36 (fun at' a =>
        vec p at' a.a ∧ vec p (at' + 12) a.b ∧ int4 p (at' + 24) a.run ∧ int4 p (at' + 28) a.lmin ∧
          int4 p (at' + 32) a.lmax) ∧
      vec p 144 r.home ∧ flag p 156 r.homeValid ∧ box p 157 r.box ∧ flag p 181 r.boxValid ∧
      each [l.margin, l.vmax, l.caution, l.ae, l.amove, l.amoveMax, l.vstick, l.astick, l.stickTimeout, l.astream,
        l.lagLimit, l.joinTol] 182 2 (fun at' x => num p at' 2 x) ∧
      num p 206 1 l.lowWater ∧ num p 207 2 l.poseTol ∧ num p 209 2 r.timing.ts ∧ num p 211 1 r.timing.n ∧
      each r.chLimits.toList 212 10 (fun at' c =>
        num p at' 2 c.tmin ∧ num p (at' + 2) 2 c.twarnLo ∧ num p (at' + 4) 2 c.twarnHi ∧ num p (at' + 6) 2 c.tmax ∧
          num p (at' + 8) 2 c.following) ∧
      flag p 252 r.defaulted) ∧
  (∀ code id origin target count,
    let m := Message.moveNotice code id origin target count
    let p := m.body
    m.type = 0x34 ∧ p.length = 17 ∧ byte p 0 code.code ∧ num p 1 2 id ∧ unsignedAt p 3 1 = (seatIndex origin).val ∧
      vec p 4 target ∧ num p 16 1 count) ∧
  (∀ f first channel seat left pos frames,
    let m := Message.tripNotice f first channel seat left pos frames
    let p := m.body
    m.type = 0x36 ∧ p.length = 21 ∧ unsignedAt p 0 1 = f.number.val ∧ flag p 1 first ∧ num p 2 1 channel ∧
      unsignedAt p 3 1 = (match seat with | some x => (seatIndex x).val | none => 255) ∧ byte p 4 left.code ∧ vec p 5 pos ∧
      num p 17 4 frames) ∧
  (∀ number marker holdPending,
    let m := Message.markerInfo number marker holdPending
    let p := m.body
    m.type = 0x37 ∧ p.length = 20 ∧ num p 0 1 number ∧ flag p 2 holdPending ∧
      (marker = none → unsignedAt p 1 1 = 1 ∧ p.drop 3 = List.replicate 17 0) ∧
      ∀ k, marker = some k →
        unsignedAt p 1 1 = 0 ∧ vec p 3 k.spec.point ∧ num p 15 2 k.spec.radius ∧ flag p 17 k.spec.holdAtEnd ∧
          flag p 18 k.spec.armed ∧ flag p 19 k.inside) ∧
  ([Seat.pilot, .safety, .director, .service].map (fun s => (seatIndex s).val) = [0, 1, 2, 3] ∧
    [Winch.w1, .w2, .w3, .w4].map (fun w => (winchIndex w).val) = [0, 1, 2, 3] ∧
    [Winch.w1, .w2, .w3, .w4].map winchNumber = [1, 2, 3, 4] ∧
    (∀ (q : Quad Bool) (w : Winch), (winchBits q).testBit (winchIndex w).val = q.get (winchIndex w)) ∧
    ∀ q : Quad Bool, winchBits q < 16) ∧
  ([FlightState.parked, .arming, .hold, .track, .stick, .stream, .stopping, .parking, .tripped].map FlightState.code =
      [0, 1, 2, 3, 4, 5, 6, 7, 8] ∧
    [StopCause.noCause, .armed, .holdRequest, .safetyHold, .stickDropped, .queueDrained, .cueReached, .stepDone,
      .markerHold, .pathRejected, .zoneStop, .wallStrike, .streamEnded, .streamUnderrun, .streamLag, .trip].map
        StopCause.code = [0, 1, 2, 3, 4, 5, 6, 7, 8, 9, 10, 11, 12, 13, 14, 15] ∧
    [none, some Phase.moving, some .dwelling, some .suspended, some .abandoned].map phaseCode = [0, 1, 2, 3, 0] ∧
    [StreamState.idle, .primed, .playing, .ending].map StreamState.code = [0, 1, 2, 3] ∧
    [RefState.freeRun, .acquiring, .pulling, .locked].map RefState.code = [0, 1, 2, 3] ∧
    [ChanState.absent, .ready, .releasing, .streaming, .braking, .setting, .faulted].map ChanState.code =
      [0, 1, 2, 3, 4, 5, 6] ∧
    [PoseOrigin.unset, .park, .trip, .reference, .declare].map PoseOrigin.code = [0, 1, 2, 3, 4] ∧
    [Flag.wallStrike, .zoneStop, .pathRejected, .referenceLost, .stickTimeout, .streamUnderrun, .streamOverflow,
      .streamLag, .tensionWarn, .armTimeout, .settingTimeout, .feedbackErrors, .slack, .overtension, .following,
      .channelLost, .driveFault, .estop, .operatorTrip].map (fun f => f.number.val) = List.range 19 ∧
    [ErrorCode.badLength, .wrongState, .notPermitted, .seatClosed, .badValue, .busy, .queueFull, .queueEmpty,
      .outOfWorkspace, .targetBlocked, .pathBlocked, .zoneOccupied, .locked, .noSuchZone, .noConsent, .faultPresent,
      .noWorkspace, .channelNotReady, .notReferenced, .poseBlocked, .poseMismatch, .homeBlocked, .lateStart,
      .noSuchMarker].map (fun e => e.code.toNat) = (List.range 24).map (· + 1) ∧
    [NoticeCode.moveBegun, .moveDone, .cueReached, .queueDrained, .markerEntered, .armed, .armFailed, .parked, .holding,
      .streamPlaying, .streamEnded, .referenceDone, .referenceFailed, .saveDone].map (fun n => n.code.toNat) =
        (List.range 14).map (· + 1) ∧
    [NoticeCode.wallStrike, .zoneStop, .pathRejected].map NoticeCode.code = [0x10, 0x11, 0x12] ∧
    [NoticeCode.referenceLocked, .referenceLost, .stickTimeout, .streamLow, .streamCritical, .streamHigh, .streamUnderrun,
      .streamOverflow, .streamGap, .streamLag, .joinRefused].map (fun n => n.code.toNat) =
        (List.range 11).map (· + 0x20) ∧
    [NoticeCode.tensionWarn, .armTimeout, .settingTimeout, .feedbackErrors, .drivePresent, .driveAbsent].map
      NoticeCode.code = [0x30, 0x31, 0x32, 0x33, 0x34, 0x35]) ∧
  (∀ f : DriveFrame,
    let sends : Nat → List Byte → Prop := fun kind rest =>
      let head := BitVec.ofNat 8 (16 * kind + f.seq.toNat) :: rest
      let check := (payloadCheck head).toNat
      f.wire = head ++ [BitVec.ofNat 8 check, BitVec.ofNat 8 (check / 256)]
    let four : Nat → List Byte := fun l =>
      [BitVec.ofNat 8 l, BitVec.ofNat 8 (l / 256), BitVec.ofNat 8 (l / 65536), BitVec.ofNat 8 (l / 16777216)]
    (f.kind = .poll → sends 1 []) ∧ (∀ l, f.kind = .setpoint l → sends 2 (four l)) ∧ (f.kind = .release → sends 3 []) ∧
      (f.kind = .brake → sends 4 []) ∧ (∀ l, f.kind = .setLength l → sends 5 (four l)) ∧
      (f.kind = .restart → sends 6 [])) ∧
  ∀ (bytes : List Byte) (a : AnswerFields),
    answerOf bytes = some a ↔
      bytes.length = 10 ∧ unsignedAt bytes 8 2 = (payloadCheck (bytes.take 8)).toNat ∧
        unsignedAt bytes 0 1 / 16 =
          (match a.drive with | .starting => 0 | .braked => 1 | .released => 2 | .faulted => 3) ∧
        a.echo.toNat = unsignedAt bytes 0 1 % 16 ∧ a.lengthValid = decide (unsignedAt bytes 1 1 % 2 = 1) ∧
        a.length = unsignedAt bytes 2 4 ∧ a.tension = unsignedAt bytes 6 2

/-- The copies of notices: one to each seat whose mask includes the category (a FRAME_POSE by its own flag, a TRIP_NOTICE
to every seat), in seat order; each enters the transmit queue while it finds fewer than 48 records and is dropped and
counted otherwise. Notices are copied in the order they were handed over. A NOTICE is handed over with its detail byte in
the category that its code's upper four bits give, a MOVE_NOTICE with the move's id, origin seat and target and the queue
count. -/
def Obligations.NoticeCopiesRule : Prop :=
  (∀ (code : NoticeCode) (s : State),
    let category : Category :=
      if code.code.toNat < 0x10 then .cue else if code.code.toNat < 0x20 then .envelope
      else if code.code.toNat < 0x30 then .timing else .channel
    let hands : Message → State := fun msg =>
      { s with link := { s.link with handed := s.link.handed ++ [⟨.subscribers category, msg⟩] } }
    (∀ detail, notice code detail s = hands (.notice code (BitVec.ofNat 8 detail))) ∧
    ∀ m : Move, moveNotice code m s = hands (.moveNotice code m.id m.origin m.target s.pln.queue.length)) ∧
  (∀ s : State, (deliver s).link = { s.link.handed.foldl copyNotice s.link with handed := [] }) ∧
  (∀ (l : Link) (h : Handed), l.counters.dropped ≤ 65535 →
    let seats := [Seat.pilot, .safety, .director, .service].filter (wanted l.masks h.audience)
    let room := 48 - l.tx.length
    copyNotice l h =
      { l with
        tx := l.tx ++ (seats.take room).map (fun seat => ⟨seat, h.msg⟩)
        counters := { l.counters with dropped := min 65535 (l.counters.dropped + (seats.length - room)) } }) ∧
  ∀ (masks : Quad Mask) (seat : Seat),
    let m := masks.get (seatIndex seat)
    wanted masks (.subscribers .cue) seat = m.cue ∧ wanted masks (.subscribers .envelope) seat = m.envelope ∧
      wanted masks (.subscribers .timing) seat = m.timing ∧ wanted masks (.subscribers .channel) seat = m.channel ∧
      wanted masks .framePose seat = m.framePose ∧ wanted masks .everySeat seat = true

/-- The records that read the part answer with what it holds and change nothing else: STATE, SETTINGS_INFO, POSE,
ZONE_INFO, MARKER_INFO; an ignored record changes its counter alone and gets no reply. POSE takes the position of the
latest servo event, but the present commanded position in PARKED, PARKING and TRIPPED; that R43's words on READ_POSE ask
for no more before the first servo event of an arming is deduced (log 26). -/
def Obligations.ReadsAnswerAndChangeNothing : Prop :=
  (∀ (s : State) (seat : Seat) (d0 d1 : Byte), s.takesRecord ⟨seat, 0x08, [d0, d1]⟩ →
    let move : Nat × Option Phase := match s.pln.inHand with
      | some h => if h.phase = .abandoned then (0, none) else (h.move.id, some h.phase)
      | none => (0, none)
    exec (.queryState seat d0 d1) s =
      .next (reply seat
        (.state
          { flight := s.fcu.flight, cause := s.fcu.cause, queueCount := s.pln.queue.length, moveId := move.1,
            phase := move.2, streamState := s.pln.stream.state, occupancy := s.pln.stream.samples.length,
            expected := s.pln.stream.expected, ref := s.fru.ref, frames := s.fru.frames,
            chanStates := s.ch.chans.map Channel.state, badFrames := s.ch.chans.map Channel.badFrames,
            flags := s.flt.flags, trip := s.flt.trip, line := s.flt.line, consent := s.fcu.consent,
            permit := s.fcu.permit, defaulted := s.sto.defaulted, boxValid := s.env.boxValid,
            poseValid := s.fcu.pose.valid, poseOrigin := s.fcu.pose.origin, counters := s.link.counters,
            stickDiscards := s.pln.stick.discards, streamDiscards := s.pln.stream.discards,
            streamGaps := s.pln.stream.gaps }) s.afterDecode)) ∧
  (∀ (s : State) (seat : Seat) (d0 d1 : Byte), s.takesRecord ⟨seat, 0x1F, [d0, d1]⟩ →
    exec (.readSettings seat d0 d1) s =
      .next (reply seat
        (.settingsInfo
          { anchors := s.sol.anchors, home := s.sol.home, homeValid := s.sol.homeValid, box := s.env.box,
            boxValid := s.env.boxValid, limits := s.env.limits, timing := s.fru.timing,
            chLimits := s.ch.chans.map Channel.limits, defaulted := s.sto.defaulted }) s.afterDecode)) ∧
  (∀ (s : State) (seat : Seat) (d0 d1 : Byte), s.takesRecord ⟨seat, 0x16, [d0, d1]⟩ →
    ∃ pos : Vec3,
      exec (.readPose seat d0 d1) s =
        .next (reply seat
          (.pose { s.fru.snapshot with frames := s.fru.frames, ref := s.fru.ref, pos := pos }) s.afterDecode) ∧
      match s.fcu.flight with
      | .parked => pos = s.fcu.pose.pos
      | .parking => pos = s.pln.holdPos
      | .tripped => pos = s.flt.trip.pos
      | _ => pos = s.fru.snapshot.pos) ∧
  (∀ (s : State) (seat : Seat) (d0 d1 : Byte), s.takesRecord ⟨seat, 0x18, [d0, d1]⟩ →
    (24 ≤ d0.toNat → exec (.zoneRead seat d0 d1) s = .next (s.refused seat .noSuchZone 0)) ∧
    ∀ h : d0.toNat < 24,
      exec (.zoneRead seat d0 d1) s = .next (reply seat (.zoneInfo d0.toNat s.env.zones[d0.toNat]) s.afterDecode)) ∧
  (∀ (s : State) (seat : Seat) (d0 d1 : Byte), s.takesRecord ⟨seat, 0x19, [d0, d1]⟩ →
    (4 ≤ d0.toNat → exec (.markerRead seat d0 d1) s = .next (s.refused seat .noSuchMarker 0)) ∧
    ∀ h : d0.toNat < 4,
      exec (.markerRead seat d0 d1) s =
        .next (reply seat (.markerInfo d0.toNat (s.mrk.markers.get ⟨d0.toNat, h⟩) s.mrk.holdPending) s.afterDecode)) ∧
  ∀ (s : State) (seat : Seat) (type : BitVec 6) (body : List Byte), type.toNat < 0x08 ∨ 0x2E < type.toNat →
    s.decodesNow ⟨seat, type, body⟩ →
    let a := s.afterDecode
    exec (.ignoredRecord seat type body) s =
      .next { a with
        link :=
          { a.link with
            counters :=
              { a.link.counters with
                ignored := if a.link.counters.ignored < 65535 then a.link.counters.ignored + 1 else 65535 } } }

/-- CONSENT and SERVICE_PERMIT take a data byte of 0 or 1 and refuse any other with BAD_VALUE; SUBSCRIBE replaces the
sender's own mask by bits 0 to 4 of its data byte, echoed as the ACK's detail, and refuses a byte with a higher bit. -/
def Obligations.ConsentPermitAndMask : Prop :=
  (∀ (s : State) (seat : Seat) (d0 d1 : Byte), s.takesRecord ⟨seat, 0x12, [d0, d1]⟩ →
    (d0.toNat ≤ 1 →
      exec (.consent seat d0 d1) s =
        .next { s.acked seat 0x12 0 with fcu := { s.fcu with consent := decide (d0.toNat = 1) } }) ∧
    (1 < d0.toNat → exec (.consent seat d0 d1) s = .next (s.refused seat .badValue 0))) ∧
  (∀ (s : State) (seat : Seat) (d0 d1 : Byte), s.takesRecord ⟨seat, 0x13, [d0, d1]⟩ →
    (d0.toNat ≤ 1 →
      exec (.servicePermit seat d0 d1) s =
        .next { s.acked seat 0x13 0 with fcu := { s.fcu with permit := decide (d0.toNat = 1) } }) ∧
    (1 < d0.toNat → exec (.servicePermit seat d0 d1) s = .next (s.refused seat .badValue 0))) ∧
  ∀ (s : State) (seat : Seat) (d0 d1 : Byte), s.takesRecord ⟨seat, 0x17, [d0, d1]⟩ →
    let a := s.acked seat 0x17 d0.toNat
    (d0.toNat < 32 →
      exec (.subscribe seat d0 d1) s =
        .next { a with
          link :=
            { a.link with
              masks := s.link.masks.set (seatIndex seat)
                ⟨d0.getLsbD 0, d0.getLsbD 1, d0.getLsbD 2, d0.getLsbD 3, d0.getLsbD 4⟩ } }) ∧
    (32 ≤ d0.toNat → exec (.subscribe seat d0 d1) s = .next (s.refused seat .badValue 0))

/-! ## Flight -/

/-- ARM with every check passed: ACK, ARMING at the retained pose with velocity 0, and every channel RELEASING with its
release timeout running. PARK in HOLD: ACK, PARKING, a brake request to every channel and a PRIMED stream cancelled; in any
other flight state WRONG_STATE. -/
def Obligations.ArmAndParkTaken : Prop :=
  (∀ (s : State) (seat : Seat) (d0 d1 : Byte), s.takesRecord ⟨seat, 0x09, [d0, d1]⟩ →
     s.fcu.flight = .parked → s.fcu.consent = true →
     (∀ f : Flag, f.isTrip = true → (s.flag f).set = false) → s.flt.line = false →
     s.sto.save = .idle → s.ch.op.kind = .noSetting → s.env.boxValid = true →
     (∀ w, (s.chan w).state = .ready) → (∀ w, (s.chan w).last.lengthValid = true) → s.fcu.pose.valid = true →
     s.env.free s.fcu.pose.pos = true →
     (∀ w, ((s.chan w).last.length : Int) - setpointAt (s.sol.anchors.get (winchIndex w)) s.fcu.pose.pos ≤
         1000 * s.env.limits.poseTol ∧
       (setpointAt (s.sol.anchors.get (winchIndex w)) s.fcu.pose.pos : Int) - (s.chan w).last.length ≤
         1000 * s.env.limits.poseTol) →
     exec (.arm seat d0 d1) s =
       .next { s.acked seat 0x09 0 with
         fcu := { s.fcu with flight := .arming }
         pln := { s.pln with pos := s.fcu.pose.pos, holdPos := s.fcu.pose.pos, vel := Vec3.zero }
         ch := { s.ch with chans := s.ch.chans.map fun c => { c with state := .releasing, timer := some 500000 } } }) ∧
  ∀ (s : State) (seat : Seat) (d0 d1 : Byte), s.takesRecord ⟨seat, 0x0A, [d0, d1]⟩ →
    (s.fcu.flight ≠ .hold → exec (.park seat d0 d1) s = .next (s.refused seat .wrongState 0)) ∧
    (s.fcu.flight = .hold →
      exec (.park seat d0 d1) s =
        .next { s.acked seat 0x0A 0 with
          fcu := { s.fcu with flight := .parking }
          pln := { s.pln with vel := Vec3.zero, stream := s.pln.stream.unprimed }
          ch :=
            { s.ch with
              chans := s.ch.chans.map fun c =>
                if c.state = .releasing ∨ c.state = .streaming then
                  { c with
                    state := .braking, timer := some 500000, slackCount := 0, overCount := 0, followCount := 0,
                    warning := false }
                else c } })

/-- ARM's checks in their order: the first that fails refuses it with its code and detail and changes nothing else. -/
def Obligations.ArmRefusedInOrder : Prop :=
  ∀ (s : State) (seat : Seat) (d0 d1 : Byte), s.takesRecord ⟨seat, 0x09, [d0, d1]⟩ →
    let pose := s.fcu.pose
    let fails : ErrorCode → Nat → Prop := fun code detail => exec (.arm seat d0 d1) s = .next (s.refused seat code detail)
    let faulted := (∃ f : Flag, f.isTrip = true ∧ (s.flag f).set = true) ∨ s.flt.line = true
    let underWay := s.sto.save ≠ .idle ∨ s.ch.op.kind ≠ .noSetting
    let idle := winchBits (s.ch.chans.map fun c => decide (c.state ≠ .ready))
    let lost := winchBits (s.ch.chans.map fun c => !c.last.lengthValid)
    let far := winchBits (s.ch.chans.zip s.sol.anchors fun c a =>
      decide (1000 * s.env.limits.poseTol < ((c.last.length : Int) - setpointAt a pose.pos).natAbs))
    (s.fcu.flight ≠ .parked → fails .wrongState 0) ∧
    (s.fcu.flight = .parked →
      (s.fcu.consent = false → fails .noConsent 0) ∧
      (s.fcu.consent = true →
        (faulted → fails .faultPresent 0) ∧
        (¬ faulted →
          (underWay → fails .busy 0) ∧
          (¬ underWay →
            (s.env.boxValid = false → fails .noWorkspace 0) ∧
            (s.env.boxValid = true →
              (idle ≠ 0 → fails .channelNotReady idle) ∧
              (idle = 0 →
                (lost ≠ 0 ∨ pose.valid = false → fails .notReferenced (lost + if pose.valid then 0 else 16)) ∧
                (lost = 0 ∧ pose.valid = true →
                  (inBox s.env.shrunk pose.pos = false → fails .poseBlocked 0xFF) ∧
                  (∀ slot, inBox s.env.shrunk pose.pos = true → s.env.blockedAt pose.pos = some slot →
                    fails .poseBlocked slot) ∧
                  (s.env.free pose.pos = true → far ≠ 0 → fails .poseMismatch far))))))))

/-- HOLD by flight state and seat: refused in PARKED, PARKING and TRIPPED; in ARMING only its ACK; in HOLD a PRIMED stream
cancelled by SAFETY; in TRACK a path stop of a moving move at its own rate, or the emergency rate from SAFETY, with its
step flag cleared, and the end of a dwell in HOLD; in STICK and STREAM an axis stop at the mode's rate or the emergency rate, the stick at rest or the
stream cancelled; in STOPPING a lower rate raised to the emergency rate by SAFETY. -/
def Obligations.HoldBySeatAndState : Prop :=
  ∀ (s : State) (seat : Seat) (d0 d1 : Byte), s.takesRecord ⟨seat, 0x0B, [d0, d1]⟩ →
    let a := s.acked seat 0x0B 0
    let cause : StopCause := if seat = .safety then .safetyHold else .holdRequest
    let emergency := roundNat (s.env.limits.ae * s.fru.timing.ts) 1000
    let rate : Nat → Nat := fun accel => if seat = .safety then emergency else roundNat (accel * s.fru.timing.ts) 1000
    let gives : State → Prop := fun t => exec (.hold seat d0 d1) s = .next t
    ((s.fcu.flight = .parked ∨ s.fcu.flight = .parking ∨ s.fcu.flight = .tripped) →
      gives (s.refused seat .wrongState 0)) ∧
    (s.fcu.flight = .arming → gives a) ∧
    (s.fcu.flight = .hold → seat ≠ .safety → gives a) ∧
    (s.fcu.flight = .hold → seat = .safety →
      gives { a with pln := { s.pln with stream := s.pln.stream.unprimed } }) ∧
    (∀ m, s.fcu.flight = .track → s.pln.inHand = some m → m.phase = .moving →
      gives { a with
        fcu := { s.fcu with flight := .stopping, cause := cause }
        pln :=
          { s.pln with
            inHand := some { m with stepFlag := false }
            stop := some ⟨.path, if seat = .safety then emergency else max 1 (roundNat (m.accel * s.fru.timing.ts) 1000)⟩ } }) ∧
    (∀ m, s.fcu.flight = .track → s.pln.inHand = some m → m.phase = .dwelling →
      gives (deliver (notice .holding cause.code.toNat { a with
        fcu := { s.fcu with flight := .hold, cause := cause }
        pln := { s.pln with inHand := none, holdPos := s.pln.pos, vel := Vec3.zero, stop := none }
        mrk := { s.mrk with holdPending := false } }))) ∧
    (s.fcu.flight = .stick →
      gives { a with
        fcu := { s.fcu with flight := .stopping, cause := cause }
        pln :=
          { s.pln with
            stick := { s.pln.stick with q := Vec3.zero, timer := none }
            stop := some ⟨.axis, rate s.env.limits.astick⟩ } }) ∧
    (s.fcu.flight = .stream →
      gives { a with
        fcu := { s.fcu with flight := .stopping, cause := cause }
        pln := { s.pln with stream := s.pln.stream.emptied, stop := some ⟨.axis, rate s.env.limits.astream⟩ } }) ∧
    ∀ st, s.fcu.flight = .stopping → s.pln.stop = some st →
      (seat = .safety → st.rate < emergency →
        gives { a with
          fcu := { s.fcu with cause := .safetyHold }
          pln := { s.pln with stop := some ⟨st.kind, emergency⟩ } }) ∧
      (seat ≠ .safety ∨ emergency ≤ st.rate → gives a)

/-! ## The move queue -/

/-- APPEND_MOVE with every check passed: the record joins the queue's tail with its sender as origin, its cruise speed and
acceleration limited to vmax and a_move_max, and the ACK's detail is 1 when a field was limited. Its checks in their
order, each refusing it with its code and changing nothing else; the start of the segment tested last is the tail's
target, else the target of the move in hand, else the resting place of the flight state. -/
def Obligations.AppendMoveRule : Prop :=
  (∀ (s : State) (seat : Seat) (p : List Byte), s.takesRecord ⟨seat, 0x21, p⟩ →
     let m := moveOf p seat
     let l := s.env.limits
     s.fcu.flight ≠ .tripped → p.length = moveLength p → legalMove p m = true → s.pln.queue.length < 32 →
     s.env.boxValid = true → s.env.free (toMicrons m.target) = true →
     (∀ start, predictedStart s = some start → s.env.pathBlocked start (toMicrons m.target) = false) →
     let stored : Move := { m with cruise := min m.cruise l.vmax, accel := m.accel.map fun a => min a l.amoveMax }
     let limited := l.vmax < m.cruise ∨ ∃ a, m.accel = some a ∧ l.amoveMax < a
     (limited →
       exec (.appendMove seat p) s =
         .next { s.acked seat 0x21 1 with pln := { s.pln with queue := s.pln.queue ++ [stored] } }) ∧
     (¬ limited →
       exec (.appendMove seat p) s =
         .next { s.acked seat 0x21 0 with pln := { s.pln with queue := s.pln.queue ++ [stored] } })) ∧
  (∀ (s : State) (seat : Seat) (p : List Byte), s.takesRecord ⟨seat, 0x21, p⟩ →
    let m := moveOf p seat
    let target := toMicrons m.target
    let fails : ErrorCode → Prop := fun code => exec (.appendMove seat p) s = .next (s.refused seat code 0)
    (s.fcu.flight = .tripped → fails .wrongState) ∧
    (s.fcu.flight ≠ .tripped →
      (p.length ≠ moveLength p → fails .badLength) ∧
      (p.length = moveLength p →
        (legalMove p m = false → fails .badValue) ∧
        (legalMove p m = true →
          (32 ≤ s.pln.queue.length → fails .queueFull) ∧
          (s.pln.queue.length < 32 →
            (s.env.boxValid = false → fails .noWorkspace) ∧
            (s.env.boxValid = true →
              (inBox s.env.shrunk target = false → fails .outOfWorkspace) ∧
              (inBox s.env.shrunk target = true →
                (s.env.blockedAt target ≠ none → fails .targetBlocked) ∧
                (s.env.blockedAt target = none →
                  ∀ start, predictedStart s = some start → s.env.pathBlocked start target = true →
                    fails .pathBlocked)))))))) ∧
  ∀ s : State,
    (∀ front last, s.pln.queue = front ++ [last] → predictedStart s = some (toMicrons last.target)) ∧
    (s.pln.queue = [] →
      (∀ m, s.pln.inHand = some m → m.phase ≠ .abandoned → predictedStart s = some (toMicrons m.move.target)) ∧
      ((s.pln.inHand = none ∨ ∃ m, s.pln.inHand = some m ∧ m.phase = .abandoned) →
        ((s.fcu.flight = .hold ∨ s.fcu.flight = .arming ∨ s.fcu.flight = .parking) →
          predictedStart s = some s.pln.holdPos) ∧
        (s.fcu.flight = .parked →
          predictedStart s = if s.fcu.pose.valid then some s.fcu.pose.pos else none) ∧
        ((s.fcu.flight = .track ∨ s.fcu.flight = .stick ∨ s.fcu.flight = .stream ∨ s.fcu.flight = .stopping) →
          predictedStart s = none)))

/-- RESUME and STEP in HOLD with a move that passes its begin validation: ACK with detail 0, a PRIMED stream cancelled,
TRACK with the move in hand from the present position, and MOVE_BEGUN when flagged; a move without length arrives at its
begin. Outside HOLD they are refused with WRONG_STATE, and with no move to begin with QUEUE_EMPTY. A move that fails its
begin validation answers ACK with detail 1: the move is discarded, the queue flushed, PATH_REJECTED is one occurrence, and
the part stays in HOLD at the present position with that stop cause and HOLDING. -/
def Obligations.ResumeAndStepRule : Prop :=
  (∀ (s : State) (m : Move) (rest : List Move), s.fcu.flight = .hold → s.offers m rest →
     let start := s.pln.pos
     let target := toMicrons m.target
     inBox s.env.shrunk start = true → inBox s.env.shrunk target = true → s.env.pathBlocked start target = false →
     let hand : Bool → MoveInHand := fun flag =>
       { move := m
         accel := match m.accel with
           | some a => min a s.env.limits.amoveMax
           | none => s.env.limits.amove
         start := start, dist := lengthRoot (sqDist target start), prog := 0, speed := 0, phase := .moving,
         dwellLeft := 0, stepFlag := flag }
     let begun : State → Bool → State := fun a flag =>
       let u : State :=
         { a with
           fcu := { s.fcu with flight := .track }
           pln := { s.pln with queue := rest, stream := s.pln.stream.unprimed, inHand := some (hand flag) } }
       if m.notifyBegin then moveNotice .moveBegun m u else u
     let ends : State → Bool → State := fun a flag =>
       if lengthRoot (sqDist target start) = 0 then arriveWith (moveEnd flag) (hand flag) (begun a flag) else begun a flag
     (∀ seat d0 d1, s.takesRecord ⟨seat, 0x0C, [d0, d1]⟩ →
       exec (.resume seat d0 d1) s = .next (deliver (ends (s.acked seat 0x0C 0) false))) ∧
     ∀ seat d0 d1, s.takesRecord ⟨seat, 0x0D, [d0, d1]⟩ →
       exec (.step seat d0 d1) s = .next (deliver (ends (s.acked seat 0x0D 0) true))) ∧
  ∀ s : State,
    let command : BitVec 6 → Seat → Byte → Byte → Instr := fun type seat d0 d1 =>
      if type = 0x0C then .resume seat d0 d1 else .step seat d0 d1
    ∀ (type : BitVec 6) (seat : Seat) (d0 d1 : Byte), type = 0x0C ∨ type = 0x0D → s.takesRecord ⟨seat, type, [d0, d1]⟩ →
      (s.fcu.flight ≠ .hold → exec (command type seat d0 d1) s = .next (s.refused seat .wrongState 0)) ∧
      (s.fcu.flight = .hold → s.pln.queue = [] → (∀ h, s.pln.inHand = some h → h.phase ≠ .suspended) →
        exec (command type seat d0 d1) s = .next (s.refused seat .queueEmpty 0)) ∧
      ∀ m rest, s.fcu.flight = .hold → s.offers m rest →
        (inBox s.env.shrunk s.pln.pos = false ∨ inBox s.env.shrunk (toMicrons m.target) = false ∨
          s.env.pathBlocked s.pln.pos (toMicrons m.target) = true) →
        let t := report .pathRejected 0 none { s.acked seat type 1 with
          pln := { s.pln with queue := [], inHand := none }
          mrk := { s.mrk with holdPending := false } }
        exec (command type seat d0 d1) s =
          .next (deliver (notice .holding StopCause.pathRejected.code.toNat { t with
            fcu := { s.fcu with cause := .pathRejected }
            pln := { s.pln with queue := [], inHand := none, holdPos := s.pln.pos, vel := Vec3.zero, stop := none } }))

/-- FLUSH_MOVES: from DIRECTOR the records of that seat leave the queue; from another seat the queue is emptied,
hold-pending is cleared and a suspended move is discarded; an active move is left as it stands. -/
def Obligations.FlushMovesBySeat : Prop :=
  ∀ (s : State) (seat : Seat) (d0 d1 : Byte), s.takesRecord ⟨seat, 0x14, [d0, d1]⟩ →
    let a := s.acked seat 0x14 0
    (seat = .director →
      exec (.flushMoves seat d0 d1) s =
        .next { a with pln := { s.pln with queue := s.pln.queue.filter fun m => decide (m.origin ≠ .director) } }) ∧
    (seat ≠ .director → (∃ h, s.pln.inHand = some h ∧ h.phase = .suspended) →
      exec (.flushMoves seat d0 d1) s =
        .next { a with
          pln := { s.pln with queue := [], inHand := none }
          mrk := { s.mrk with holdPending := false } }) ∧
    (seat ≠ .director → (∀ h, s.pln.inHand = some h → h.phase ≠ .suspended) →
      exec (.flushMoves seat d0 d1) s =
        .next { a with
          pln := { s.pln with queue := [] }
          mrk := { s.mrk with holdPending := false } })

/-- Arrival and the move-end decision. Arrival ends the motion and sends MOVE_DONE when flagged, then begins a dwell of
the rounded number of servo events or decides the move's end. The decision empties the hand and then, in order: a marker
hold, a finished STEP, an empty queue, a tagged head, each ending in HOLD with its cause and notices; else the head
begins. A begin that passes its validation is TRACK with the fresh move in hand, MOVE_BEGUN if flagged, and its arrival at
once without length; one that fails is PATH_REJECTED with the queue flushed, and HOLD with that cause. -/
def Obligations.MoveEndDecision : Prop :=
  (∀ (onEnd : State → State) (m : Move) (flag : Bool) (s : State),
    let start := commandedPosition s
    let target := toMicrons m.target
    let passes :=
      inBox s.env.shrunk start = true ∧ inBox s.env.shrunk target = true ∧ s.env.pathBlocked start target = false
    let hand : MoveInHand :=
      { move := m
        accel := match m.accel with
          | some a => min a s.env.limits.amoveMax
          | none => s.env.limits.amove
        start := start, dist := lengthRoot (sqDist target start), prog := 0, speed := 0, phase := .moving,
        dwellLeft := 0, stepFlag := flag }
    let u : State := { s with fcu := { s.fcu with flight := .track }, pln := { s.pln with inHand := some hand } }
    let v := if m.notifyBegin then moveNotice .moveBegun m u else u
    (passes → beginWith onEnd m flag s = if hand.dist = 0 then arriveWith onEnd hand v else v) ∧
    (¬ passes →
      let t := report .pathRejected 0 none
        { s with pln := { s.pln with queue := [], inHand := none }, mrk := { s.mrk with holdPending := false } }
      beginWith onEnd m flag s =
        notice .holding StopCause.pathRejected.code.toNat { t with
          fcu := { s.fcu with flight := .hold, cause := .pathRejected }
          pln := { s.pln with queue := [], inHand := none, holdPos := s.pln.pos, vel := Vec3.zero, stop := none } })) ∧
  (∀ (onEnd : State → State) (m : MoveInHand) (s : State),
    let h : MoveInHand := { m with prog := m.dist, speed := 0 }
    let u : State := { s with pln := { s.pln with inHand := some h } }
    let v := if m.move.notifyDone then moveNotice .moveDone m.move u else u
    ((m.move.dwell = none ∨ m.move.dwell = some 0) → arriveWith onEnd m s = onEnd v) ∧
    ∀ ms, m.move.dwell = some ms → ms ≠ 0 →
      arriveWith onEnd m s =
        { v with
          pln :=
            { s.pln with
              inHand := some { h with phase := .dwelling, dwellLeft := max 1 (roundNat (ms * 1000) s.fru.timing.ts) } } }) ∧
  ∀ (flag : Bool) (s : State),
    let u : State := { s with pln := { s.pln with inHand := none } }
    let rests : StopCause → State → State := fun cause t =>
      notice .holding cause.code.toNat { t with
        fcu := { s.fcu with flight := .hold, cause := cause }
        pln := { u.pln with holdPos := s.pln.pos, vel := Vec3.zero, stop := none }
        mrk := { s.mrk with holdPending := false } }
    (s.mrk.holdPending = true → moveEnd flag s = rests .markerHold u) ∧
    (s.mrk.holdPending = false → flag = true → moveEnd flag s = rests .stepDone u) ∧
    (s.mrk.holdPending = false → flag = false → s.pln.queue = [] →
      moveEnd flag s = rests .queueDrained (notice .queueDrained 0 u)) ∧
    (∀ head rest, s.mrk.holdPending = false → flag = false → s.pln.queue = head :: rest →
      (head.tagged = true → moveEnd flag s = rests .cueReached (moveNotice .cueReached head u)) ∧
      (head.tagged = false →
        moveEnd flag s = beginWith (moveEnd false) head false { s with pln := { s.pln with inHand := none, queue := rest } }))

/-- The path profile of a moving move: the new speed follows the ceiling step and the braking term, the step is at least 1
µm and at most what is left, progress never passes the path length, the speed never exceeds the larger of the old speed
and the ceiling, and a speed within the ceiling stays within it. The point of the path at progress s of D is, per axis, S
plus (T − S)·s/D rounded: the start at progress 0, the target at the end, and between its ends on every axis at every
progress. -/
def Obligations.PathProfileBounds : Prop :=
  (∀ (ts ceiling : Nat) (m : MoveInHand), m.prog < m.dist →
    let v := m.speed
    let r := m.dist - m.prog
    let dv := max 1 (roundNat (m.accel * ts) 1000)
    let cm := min ceiling (1000 * m.move.cruise)
    let up := if v ≤ cm then min (v + dv) cm else max (v - dv) cm
    let v' := min up (max (v - dv) (isqrt (2 * (1000 * m.accel) * r)))
    let taken := min r (max 1 (roundNat (v' * ts) 1000000))
    profileStep ts ceiling m = { m with prog := m.prog + taken, speed := v' } ∧
      m.prog < m.prog + taken ∧ m.prog + taken ≤ m.dist ∧ v' ≤ max v cm ∧ (v ≤ cm → v' ≤ cm)) ∧
  (∀ (start target : Vec3) (s dist : Nat) (axis : Axis),
    (pathPoint start target s dist).get axis =
      start.get axis + roundInt ((target.get axis - start.get axis) * s) dist) ∧
  ∀ (start target : Vec3) (s dist : Nat), 0 < dist → s ≤ dist →
    pathPoint start target 0 dist = start ∧ pathPoint start target dist dist = target ∧
      ∀ a, min (start.get a) (target.get a) ≤ (pathPoint start target s dist).get a ∧
        (pathPoint start target s dist).get a ≤ max (start.get a) (target.get a)

/-! ## The stick -/

/-- TAKE_STICK: refused outside HOLD, TRACK, STREAM and STICK; in STICK only its ACK; from HOLD at rest with a PRIMED stream
cancelled, from a moving move with its speed decomposed on the axes and the move suspended, from a dwell at rest with the
move gone, from STREAM with the follower's velocities and the stream cancelled; each time with q 0 and the full stick
timeout. -/
def Obligations.TakeStickByState : Prop :=
  ∀ (s : State) (seat : Seat) (d0 d1 : Byte), s.takesRecord ⟨seat, 0x0E, [d0, d1]⟩ →
    let a := s.acked seat 0x0E 0
    let stick : StickInput := { s.pln.stick with q := Vec3.zero, timer := some (1000 * s.env.limits.stickTimeout) }
    let bound : Int := 1000 * s.env.limits.vmax
    let gives : State → Prop := fun t => exec (.takeStick seat d0 d1) s = .next t
    ((s.fcu.flight = .parked ∨ s.fcu.flight = .arming ∨ s.fcu.flight = .stopping ∨ s.fcu.flight = .parking ∨
        s.fcu.flight = .tripped) → gives (s.refused seat .wrongState 0)) ∧
    (s.fcu.flight = .stick → gives a) ∧
    (s.fcu.flight = .hold →
      gives { a with
        fcu := { s.fcu with flight := .stick }
        pln := { s.pln with stick := stick, vel := Vec3.zero, stream := s.pln.stream.unprimed } }) ∧
    (∀ m, s.fcu.flight = .track → s.pln.inHand = some m → m.phase = .moving →
      gives { a with
        fcu := { s.fcu with flight := .stick }
        pln :=
          { s.pln with
            stick := stick
            inHand := some { m with phase := .suspended, speed := 0, stepFlag := false }
            vel := Vec3.ofAxes fun axis =>
              max (-bound) (min bound
                (roundInt (m.speed * ((toMicrons m.move.target).get axis - m.start.get axis)) m.dist)) } }) ∧
    (∀ m, s.fcu.flight = .track → s.pln.inHand = some m → m.phase = .dwelling →
      gives { a with
        fcu := { s.fcu with flight := .stick }
        pln := { s.pln with stick := stick, inHand := none, vel := Vec3.zero } }) ∧
    (s.fcu.flight = .stream →
      gives { a with
        fcu := { s.fcu with flight := .stick }
        pln := { s.pln with stick := stick, stream := s.pln.stream.emptied } })

/-- A STICK record is taken from PILOT with 6 bytes in STICK: its deflections limited to 1,000 per mille and the stick
timer restarted; any other is discarded and counted; neither gets a reply. DROP_STICK in STICK starts an axis stop with
the stick at rest, and is refused elsewhere. The stick timer's expiry in STICK, at the present time plus the time it has
left, puts the stick at rest and is one occurrence of STICK_TIMEOUT; with the timer stopped or outside STICK there is no
such event (log 2), nor while FRU's next event comes before that instant (log 3). So after a record taken in STICK the
expiry does not happen until its full timeout can have passed. -/
def Obligations.StickInputRules : Prop :=
  (∀ (s : State) (seat : Seat) (p : List Byte), s.decodesNow ⟨seat, 0x20, p⟩ →
    let a := s.afterDecode
    let limited : Int → Int := fun v => max (-1000) (min 1000 v)
    let taken := seat = .pilot ∧ p.length = 6 ∧ s.fcu.flight = .stick
    (taken →
      exec (.stick seat p) s =
        .next { a with
          pln :=
            { s.pln with
              stick :=
                { s.pln.stick with
                  q := ⟨limited (signedAt p 0 2), limited (signedAt p 2 2), limited (signedAt p 4 2)⟩
                  timer := some (1000 * s.env.limits.stickTimeout) } } }) ∧
    (¬ taken →
      exec (.stick seat p) s =
        .next { a with
          pln :=
            { s.pln with
              stick :=
                { s.pln.stick with
                  discards := if s.pln.stick.discards < 65535 then s.pln.stick.discards + 1 else 65535 } } })) ∧
  (∀ (s : State) (seat : Seat) (d0 d1 : Byte), s.takesRecord ⟨seat, 0x0F, [d0, d1]⟩ →
    (s.fcu.flight ≠ .stick → exec (.dropStick seat d0 d1) s = .next (s.refused seat .wrongState 0)) ∧
    (s.fcu.flight = .stick →
      exec (.dropStick seat d0 d1) s =
        .next { s.acked seat 0x0F 0 with
          fcu := { s.fcu with flight := .stopping, cause := .stickDropped }
          pln :=
            { s.pln with
              stick := { s.pln.stick with q := Vec3.zero, timer := none }
              stop := some ⟨.axis, roundNat (s.env.limits.astick * s.fru.timing.ts) 1000⟩ } })) ∧
  ∀ s : State,
    (∀ left, s.fcu.flight = .stick → s.pln.stick.timer = some left → s.fru.now + left ≤ s.fru.horizon →
      exec .stickTimerExpiry s =
        .next (deliver (report .stickTimeout 0 none
          { advanceTo (s.fru.now + left) s with
            pln := { s.pln with stick := { s.pln.stick with q := Vec3.zero, timer := none } } }))) ∧
    ((s.fcu.flight ≠ .stick ∨ ∀ left, s.pln.stick.timer = some left → s.fru.horizon < s.fru.now + left) →
      s.link.handed = [] → exec .stickTimerExpiry s = .next s) ∧
    ∀ seat p t, s.decodesNow ⟨seat, 0x20, p⟩ → s.fcu.flight = .stick → seat = .pilot → p.length = 6 →
      s.fru.horizon < s.fru.now + 1000 * s.env.limits.stickTimeout → exec (.stick seat p) s = .next t →
      exec .stickTimerExpiry t = .next t

/-! ## Streams -/

/-- STREAM_START in HOLD with an IDLE stream and a start frame beyond the frame count primes the stream; otherwise it is
refused with WRONG_STATE or LATE_START. STREAM_END cancels a PRIMED stream, ends a PLAYING one at once when its buffer is
empty, by an axis stop with cause STREAM_ENDED, and else lets it play out; in IDLE and ENDING it is refused. -/
def Obligations.StreamStartAndEnd : Prop :=
  (∀ (s : State) (seat : Seat) (p : List Byte), s.takesRecord ⟨seat, 0x22, p⟩ →
    let f0 := unsignedAt p 0 4
    let open' := s.fcu.flight = .hold ∧ s.pln.stream.state = .idle
    (¬ open' → exec (.streamStart seat p) s = .next (s.refused seat .wrongState 0)) ∧
    (open' → f0 ≤ s.fru.frames → exec (.streamStart seat p) s = .next (s.refused seat .lateStart 0)) ∧
    (open' → s.fru.frames < f0 →
      exec (.streamStart seat p) s =
        .next { s.acked seat 0x22 0 with
          pln :=
            { s.pln with
              stream :=
                { s.pln.stream with
                  state := .primed, samples := [], expected := BitVec.ofNat 16 (unsignedAt p 4 2), startFrame := f0,
                  gapReported := false, inLow := true, inCritical := true, inHigh := false } } })) ∧
  ∀ (s : State) (seat : Seat) (d0 d1 : Byte), s.takesRecord ⟨seat, 0x15, [d0, d1]⟩ →
    let a := s.acked seat 0x15 0
    ((s.pln.stream.state = .idle ∨ s.pln.stream.state = .ending) →
      exec (.streamEnd seat d0 d1) s = .next (s.refused seat .wrongState 0)) ∧
    (s.pln.stream.state = .primed →
      exec (.streamEnd seat d0 d1) s = .next { a with pln := { s.pln with stream := s.pln.stream.emptied } }) ∧
    (s.pln.stream.state = .playing → s.pln.stream.samples ≠ [] →
      exec (.streamEnd seat d0 d1) s =
        .next { a with pln := { s.pln with stream := { s.pln.stream with state := .ending } } }) ∧
    (s.pln.stream.state = .playing → s.pln.stream.samples = [] →
      exec (.streamEnd seat d0 d1) s =
        .next { a with
          fcu := { s.fcu with flight := .stopping, cause := .streamEnded }
          pln :=
            { s.pln with
              stream := { s.pln.stream with state := .idle }
              stop := some ⟨.axis, roundNat (s.env.limits.astream * s.fru.timing.ts) 1000⟩ } })

/-- STREAM_DATA. A record from another seat than DIRECTOR, of another length than 2 + 12·k for k in 1..8, with a position
out of range, or with the stream not PRIMED or PLAYING is discarded and counted. Else by its first index against E, modulo
65,536: equal, its samples join the tail; behind by as many as it carries or more, nothing changes; behind by fewer, the
samples from E on join; ahead, it is discarded, the gap count rises, and STREAM_GAP is sent once per gap. Samples join as
far as 64 and the rest is dropped with STREAM_OVERFLOW; then the bands are evaluated: LOW at or below the low-water mark,
CRITICAL at or below 2, HIGH at or above 60, with a notice of the occupancy on each entry while PRIMED or PLAYING, and
nothing in IDLE. -/
def Obligations.StreamDataByIndex : Prop :=
  (∀ (s : State) (seat : Seat) (p : List Byte), s.decodesNow ⟨seat, 0x23, p⟩ →
    let a := s.afterDecode
    let st := s.pln.stream
    let discarded :=
      exec (.streamData seat p) s =
        .next { a with
          pln := { s.pln with stream := { st with discards := if st.discards < 65535 then st.discards + 1 else 65535 } } }
    (seat ≠ .director → discarded) ∧ (st.state = .idle ∨ st.state = .ending → discarded) ∧
    ((∀ k, 1 ≤ k → k ≤ 8 → p.length ≠ 2 + 12 * k) → discarded) ∧
    ∀ k, 1 ≤ k → k ≤ 8 → p.length = 2 + 12 * k →
      ((samplesOf p k).all legalPosition = false → discarded) ∧
      (seat = .director → (st.state = .primed ∨ st.state = .playing) → (samplesOf p k).all legalPosition = true →
        let back := (st.expected - BitVec.ofNat 16 (unsignedAt p 0 2)).toNat
        (back = 0 → exec (.streamData seat p) s = .next (deliver (appendInOrder (samplesOf p k) a))) ∧
        (0 < back → back < k →
          exec (.streamData seat p) s = .next (deliver (appendInOrder ((samplesOf p k).drop back) a))) ∧
        (k ≤ back → back ≤ 32768 → exec (.streamData seat p) s = .next a) ∧
        (32768 < back →
          let u : State := { a with
            pln :=
              { s.pln with
                stream := { st with gaps := if st.gaps < 65535 then st.gaps + 1 else 65535, gapReported := true } } }
          exec (.streamData seat p) s =
            .next (if st.gapReported then u else deliver (notice .streamGap (st.expected.toNat % 256) u))))) ∧
  (∀ (positions : List Vec3) (s : State),
    let st := s.pln.stream
    let fits := positions.take (64 - st.samples.length)
    let u : State := { s with
      pln :=
        { s.pln with
          stream :=
            { st with
              samples := st.samples ++
                (List.range fits.length).map fun i => ⟨st.expected + BitVec.ofNat 16 i, fits.getD i Vec3.zero⟩
              expected := st.expected + BitVec.ofNat 16 fits.length
              gapReported := st.gapReported && fits.isEmpty } } }
    appendInOrder positions s =
      evaluateBands (if 64 < st.samples.length + positions.length then report .streamOverflow 0 none u else u)) ∧
  ∀ s : State,
    let st := s.pln.stream
    let n := st.samples.length
    (st.state = .idle → evaluateBands s = s) ∧
    (st.state ≠ .idle →
      let low := decide (n ≤ s.env.limits.lowWater)
      let critical := decide (n ≤ 2)
      let high := decide (60 ≤ n)
      let u : State := { s with
        pln := { s.pln with stream := { st with inLow := low, inCritical := critical, inHigh := high } } }
      let entered : NoticeCode → Bool → Bool → State → State := fun code was now t =>
        if st.state ≠ .ending ∧ was = false ∧ now = true then notice code n t else t
      evaluateBands s =
        entered .streamHigh st.inHigh high
          (entered .streamCritical st.inCritical critical (entered .streamLow st.inLow low u)))

/-! ## Zones and markers -/

/-- The edits of the zone table that cut no flying move: ZONE_PUT writes the slot with the sender as owner, ZONE_SET changes
the active flag alone, ZONE_REMOVE empties the slot and answers detail 1 for one that was empty; each with its refusals by
slot and by value, and ZONE_OCCUPIED where the zone would hold the commanded position. That ZONE_SET's slot is looked at
before its active value is the model's choice (log 30). -/
def Obligations.ZoneEdits : Prop :=
  (∀ (s : State) (seat : Seat) (p : List Byte), s.takesRecord ⟨seat, 0x24, p⟩ →
    let slot := unsignedAt p 0 1
    (24 ≤ slot → exec (.zonePut seat p) s = .next (s.refused seat .noSuchZone 0)) ∧
    ∀ h : slot < 24,
      (zoneOf p s.env.limits.vmax seat = none → exec (.zonePut seat p) s = .next (s.refused seat .badValue 0)) ∧
      ∀ z, zoneOf p s.env.limits.vmax seat = some z → lockPasses seat (unsignedAt p 1 2) s.env.zones[slot] →
        (s.occupies z → exec (.zonePut seat p) s = .next (s.refused seat .zoneOccupied 0)) ∧
        (¬ s.occupies z → (∀ m, ¬ s.cutBy z m) →
          exec (.zonePut seat p) s =
            .next { s.acked seat 0x24 0 with env := { s.env with zones := s.env.zones.set slot (some z) } })) ∧
  (∀ (s : State) (seat : Seat) (p : List Byte), s.takesRecord ⟨seat, 0x25, p⟩ →
    let slot := unsignedAt p 0 1
    let flag := unsignedAt p 3 1
    (24 ≤ slot → exec (.zoneSet seat p) s = .next (s.refused seat .noSuchZone 0)) ∧
    ∀ h : slot < 24,
      (s.env.zones[slot] = none → exec (.zoneSet seat p) s = .next (s.refused seat .noSuchZone 0)) ∧
      ∀ z, s.env.zones[slot] = some z →
        (1 < flag → exec (.zoneSet seat p) s = .next (s.refused seat .badValue 0)) ∧
        (flag ≤ 1 → lockPasses seat (unsignedAt p 1 2) (some z) →
          let z' : Zone := { z with active := decide (flag = 1) }
          (s.occupies z' → exec (.zoneSet seat p) s = .next (s.refused seat .zoneOccupied 0)) ∧
          (¬ s.occupies z' → (∀ m, ¬ s.cutBy z' m) →
            exec (.zoneSet seat p) s =
              .next { s.acked seat 0x25 0 with env := { s.env with zones := s.env.zones.set slot (some z') } }))) ∧
  ∀ (s : State) (seat : Seat) (p : List Byte), s.takesRecord ⟨seat, 0x26, p⟩ →
    let slot := unsignedAt p 0 1
    (24 ≤ slot → exec (.zoneRemove seat p) s = .next (s.refused seat .noSuchZone 0)) ∧
    ∀ h : slot < 24,
      (s.env.zones[slot] = none → exec (.zoneRemove seat p) s = .next (s.acked seat 0x26 1)) ∧
      ∀ z, s.env.zones[slot] = some z → lockPasses seat (unsignedAt p 1 2) (some z) →
        exec (.zoneRemove seat p) s =
          .next { s.acked seat 0x26 0 with env := { s.env with zones := s.env.zones.set slot none } }

/-- The ninth law: a record from another seat than SAFETY that does not present the nonzero lock code of the zone in its
slot leaves the zone table as it stands; with its other fields in order it is refused with LOCKED. No command but the three
zone edits and a part reset changes the zone table, and an edit changes its own slot alone. -/
def Obligations.ZoneLocksHold : Prop :=
  (∀ (s : State) (seat : Seat) (p : List Byte) (z : Zone) (slot : Nat) (h : slot < 24), slot = unsignedAt p 0 1 →
    s.env.zones[slot] = some z → seat ≠ .safety → z.lock ≠ 0 → unsignedAt p 1 2 ≠ z.lock →
    (∀ c ∈ [Instr.zonePut seat p, .zoneSet seat p, .zoneRemove seat p], ∃ t, exec c s = .next t ∧ t.env.zones = s.env.zones) ∧
    (s.takesRecord ⟨seat, 0x24, p⟩ → zoneOf p s.env.limits.vmax seat ≠ none →
      exec (.zonePut seat p) s = .next (s.refused seat .locked 0)) ∧
    (s.takesRecord ⟨seat, 0x25, p⟩ → unsignedAt p 3 1 ≤ 1 →
      exec (.zoneSet seat p) s = .next (s.refused seat .locked 0)) ∧
    (s.takesRecord ⟨seat, 0x26, p⟩ → exec (.zoneRemove seat p) s = .next (s.refused seat .locked 0))) ∧
  ∀ (c : Instr) (s t : State), exec c s = .next t →
    (∀ strap answers, c ≠ .partReset strap answers) →
    ∀ slot (h : slot < 24), t.env.zones[slot] ≠ s.env.zones[slot] →
      ∃ seat p, (c = .zonePut seat p ∨ c = .zoneSet seat p ∨ c = .zoneRemove seat p) ∧ slot = unsignedAt p 0 1

/-- An accepted activation that cuts what is left of a flown move: the move is abandoned, the queue flushed, ZONE_STOP is
one occurrence, and the path stop runs at the emergency rate with that stop cause. A cut of a move already abandoned is
one more occurrence only. By ZONE_PUT and by ZONE_SET alike. -/
def Obligations.ZoneStopOnCutPath : Prop :=
  let stops : State → State → MoveInHand → State := fun s a m =>
    let u := report .zoneStop 0 none { a with
      pln := { s.pln with inHand := some { m with phase := .abandoned, stepFlag := false }, queue := [] }
      mrk := { s.mrk with holdPending := false } }
    if m.phase = .abandoned then report .zoneStop 0 none a
    else
      { u with
        fcu := { s.fcu with flight := .stopping, cause := .zoneStop }
        pln := { u.pln with stop := some ⟨.path, roundNat (s.env.limits.ae * s.fru.timing.ts) 1000⟩ } }
  (∀ (s : State) (seat : Seat) (p : List Byte) (z : Zone) (m : MoveInHand), s.takesRecord ⟨seat, 0x24, p⟩ →
    ∀ h : unsignedAt p 0 1 < 24, zoneOf p s.env.limits.vmax seat = some z →
    lockPasses seat (unsignedAt p 1 2) s.env.zones[unsignedAt p 0 1] → ¬ s.occupies z → s.cutBy z m →
    exec (.zonePut seat p) s =
      .next (deliver (stops s
        { s.acked seat 0x24 0 with env := { s.env with zones := s.env.zones.set (unsignedAt p 0 1) (some z) } } m))) ∧
  ∀ (s : State) (seat : Seat) (p : List Byte) (z : Zone) (m : MoveInHand), s.takesRecord ⟨seat, 0x25, p⟩ →
    ∀ h : unsignedAt p 0 1 < 24, s.env.zones[unsignedAt p 0 1] = some z → unsignedAt p 3 1 = 1 →
    lockPasses seat (unsignedAt p 1 2) (some z) → ¬ s.occupies { z with active := true } →
    s.cutBy { z with active := true } m →
    exec (.zoneSet seat p) s =
      .next (deliver (stops s
        { s.acked seat 0x25 0 with
          env := { s.env with zones := s.env.zones.set (unsignedAt p 0 1) (some { z with active := true }) } } m))

/-- MARKER_SET writes a slot whole with its inside flag taken at the present commanded position and no notice; MARKER_CLEAR
empties a slot, or answers detail 1 for one that was empty; a number above 3 is refused with NO_SUCH_MARKER and a field out
of its range with BAD_VALUE. That the number is looked at before the fields is the model's choice (log 27). Hold-pending is
not changed. -/
def Obligations.MarkerEdits : Prop :=
  (∀ (s : State) (seat : Seat) (p : List Byte), s.takesRecord ⟨seat, 0x27, p⟩ →
    let n := unsignedAt p 0 1
    (4 ≤ n → exec (.markerSet seat p) s = .next (s.refused seat .noSuchMarker 0)) ∧
    ∀ h : n < 4,
      (markerOf p = none → exec (.markerSet seat p) s = .next (s.refused seat .badValue 0)) ∧
      ∀ m, markerOf p = some m →
        exec (.markerSet seat p) s =
          .next { s.acked seat 0x27 0 with
            mrk :=
              { s.mrk with markers := s.mrk.markers.set ⟨n, h⟩ (some ⟨m, insideMarker m (commandedPosition s)⟩) } }) ∧
  ∀ (s : State) (seat : Seat) (d0 d1 : Byte), s.takesRecord ⟨seat, 0x1A, [d0, d1]⟩ →
    (4 ≤ d0.toNat → exec (.markerClear seat d0 d1) s = .next (s.refused seat .noSuchMarker 0)) ∧
    ∀ h : d0.toNat < 4,
      (s.mrk.markers.get ⟨d0.toNat, h⟩ = none →
        exec (.markerClear seat d0 d1) s = .next (s.acked seat 0x1A 1)) ∧
      (s.mrk.markers.get ⟨d0.toNat, h⟩ ≠ none →
        exec (.markerClear seat d0 d1) s =
          .next { s.acked seat 0x1A 0 with
            mrk := { s.mrk with markers := s.mrk.markers.set ⟨d0.toNat, h⟩ none } })

/-- A position lies inside a marker exactly when its squared distance from the marker's point, both in µm, is at most the
square of its radius; between legal positions that distance stays below 8·10^17. -/
def Obligations.MarkerInsideTest : Prop :=
  (∀ (m : MarkerSpec) (p : Vec3),
    (insideMarker m p = true ↔
      (p.x - 1000 * m.point.x) ^ 2 + (p.y - 1000 * m.point.y) ^ 2 + (p.z - 1000 * m.point.z) ^ 2 ≤
        (1000 * (m.radius : Int)) ^ 2)) ∧
  ∀ (m : MarkerSpec) (p : Vec3), legalPosition p = true → legalPositionMm m.point = true →
    (p.x - 1000 * m.point.x).natAbs ≤ 600000000 ∧ (p.y - 1000 * m.point.y).natAbs ≤ 600000000 ∧
      (p.z - 1000 * m.point.z).natAbs ≤ 310000000 ∧
      (p.x - 1000 * m.point.x) ^ 2 + (p.y - 1000 * m.point.y) ^ 2 + (p.z - 1000 * m.point.z) ^ 2 < 8 * 10 ^ 17

/-! ## Settings -/

/-- The settings records. Outside PARKED each is refused with WRONG_STATE, and with BUSY while a save or a setting operation
is in progress; a field out of its range is refused with BAD_VALUE. SET_ANCHOR and SET_WORKSPACE replace the record or the
box whole and run the acceptance check at once, its failures by winch in the ACK's detail; SET_LIMITS replaces its fields
together and the home valid flag follows; SET_CHANNEL_LIMITS replaces one channel's limits; SET_HOME takes a point of the
shrunk workspace of a valid workspace; SET_TIMING restarts the timebase. Which code answers where several refusals hold,
but for SET_ANCHOR, whose order R6 gives, is the model's choice (log 31). -/
def Obligations.SettingsTaken : Prop :=
  let gates : State → BitVec 6 → Seat → List Byte → Instr → Prop := fun s type seat p c =>
    s.takesRecord ⟨seat, type, p⟩ →
      (s.fcu.flight ≠ .parked → exec c s = .next (s.refused seat .wrongState 0)) ∧
      (s.fcu.flight = .parked → (s.sto.save ≠ .idle ∨ s.ch.op.kind ≠ .noSetting) →
        exec c s = .next (s.refused seat .busy 0))
  let ready : State → Prop := fun s => s.fcu.flight = .parked ∧ s.sto.save = .idle ∧ s.ch.op.kind = .noSetting
  let homeIn : Bool → Nat → Box → Vec3 → Bool := fun valid margin box home =>
    valid && inBox (shrunkBox margin box) (toMicrons home)
  (∀ (s : State) (seat : Seat) (p : List Byte),
    gates s 0x28 seat p (.setAnchor seat p) ∧
    (s.takesRecord ⟨seat, 0x28, p⟩ → ready s →
      let n := unsignedAt p 0 1
      let a := anchorOf p
      ((n = 0 ∨ 4 < n ∨ legalAnchor a = false) → exec (.setAnchor seat p) s = .next (s.refused seat .badValue 0)) ∧
      ∀ w, winchNumber w = n → legalAnchor a = true →
        let anchors := s.sol.anchors.set (winchIndex w) a
        let valid := boxPasses anchors s.env.box
        exec (.setAnchor seat p) s =
          .next { s.acked seat 0x28 (acceptanceDetail anchors s.env.box) with
            sol := ⟨anchors, s.sol.home, homeIn valid s.env.limits.margin s.env.box s.sol.home⟩
            env := { s.env with boxValid := valid } })) ∧
  (∀ (s : State) (seat : Seat) (p : List Byte),
    gates s 0x29 seat p (.setWorkspace seat p) ∧
    (s.takesRecord ⟨seat, 0x29, p⟩ → ready s →
      let b := boxAt p 0
      let fits := legalBox b = true ∧ ∀ axis, 2 * (s.env.limits.margin : Int) < b.hi.get axis - b.lo.get axis
      (¬ fits → exec (.setWorkspace seat p) s = .next (s.refused seat .badValue 0)) ∧
      (fits →
        let valid := boxPasses s.sol.anchors b
        exec (.setWorkspace seat p) s =
          .next { s.acked seat 0x29 (acceptanceDetail s.sol.anchors b) with
            env := { s.env with box := b, boxValid := valid }
            sol := { s.sol with homeValid := homeIn valid s.env.limits.margin b s.sol.home } }))) ∧
  (∀ (s : State) (seat : Seat) (p : List Byte),
    gates s 0x2A seat p (.setLimits seat p) ∧
    (s.takesRecord ⟨seat, 0x2A, p⟩ → ready s →
      let l := limitsOf p
      let box := s.env.box
      let fits := legalLimits l = true ∧
        (boxOrdered box = true → ∀ axis, 2 * (l.margin : Int) < box.hi.get axis - box.lo.get axis)
      (¬ fits → exec (.setLimits seat p) s = .next (s.refused seat .badValue 0)) ∧
      (fits →
        exec (.setLimits seat p) s =
          .next { s.acked seat 0x2A 0 with
            env := { s.env with limits := l }
            sol := { s.sol with homeValid := homeIn s.env.boxValid l.margin box s.sol.home } }))) ∧
  (∀ (s : State) (seat : Seat) (p : List Byte),
    gates s 0x2B seat p (.setChannelLimits seat p) ∧
    (s.takesRecord ⟨seat, 0x2B, p⟩ → ready s →
      let n := unsignedAt p 0 1
      let l := channelLimitsOf p
      ((n = 0 ∨ 4 < n ∨ legalChannelLimits l = false) →
        exec (.setChannelLimits seat p) s = .next (s.refused seat .badValue 0)) ∧
      ∀ w, winchNumber w = n → legalChannelLimits l = true →
        exec (.setChannelLimits seat p) s =
          .next { s.acked seat 0x2B 0 with
            ch := { s.ch with chans := s.ch.chans.set (winchIndex w) { s.chan w with limits := l } } })) ∧
  (∀ (s : State) (seat : Seat) (p : List Byte),
    gates s 0x2E seat p (.setHome seat p) ∧
    (s.takesRecord ⟨seat, 0x2E, p⟩ → ready s →
      let home := vecAt p 0 4
      let inside := inBox s.env.shrunk (toMicrons home)
      (legalPositionMm home = false → exec (.setHome seat p) s = .next (s.refused seat .badValue 0)) ∧
      (legalPositionMm home = true → s.env.boxValid = false →
        exec (.setHome seat p) s = .next (s.refused seat .noWorkspace 0)) ∧
      (legalPositionMm home = true → s.env.boxValid = true → inside = false →
        exec (.setHome seat p) s = .next (s.refused seat .badValue 0)) ∧
      (legalPositionMm home = true → s.env.boxValid = true → inside = true →
        exec (.setHome seat p) s =
          .next { s.acked seat 0x2E 0 with sol := { s.sol with home := home, homeValid := true } }))) ∧
  ∀ (s : State) (seat : Seat) (p : List Byte),
    gates s 0x2C seat p (.setTiming seat p) ∧
    (s.takesRecord ⟨seat, 0x2C, p⟩ → ready s →
      let ts := unsignedAt p 0 2
      let n := unsignedAt p 2 1
      let fits := 1000 ≤ ts ∧ ts ≤ 4000 ∧ 4 ≤ n ∧ n ≤ 40 ∧ n * ts ≤ 100000
      (¬ fits → exec (.setTiming seat p) s = .next (s.refused seat .badValue 0)) ∧
      (fits →
        exec (.setTiming seat p) s =
          .next { s.acked seat 0x2C 0 with
            fru :=
              { s.fru with
                timing := ⟨ts, n⟩, ref := .freeRun, frameIndex := if s.fru.frames < 4294967295 then 0 else 1
                nextEvent := some (s.fru.nextEvent.getD (s.fru.lastServo + s.fru.timing.ts)), lastRef := none,
                good := 0, miss := 0, pullDir := none, pullLeft := 0 } }))

/-- The operands of the long records and their ranges: where each field stands in its payload, and which values its owner
takes. Positions in mm and in µm; anchor records, limits and channel limits with their relations; boxes; zones, their
kind, active byte and cap; markers; moves, whose length follows from two of their flags. -/
def Obligations.OperandRanges : Prop :=
  let axisIn : Int → Int → Int → Prop := fun lo hi v => lo ≤ v ∧ v ≤ hi
  let natIn : Nat → Nat → Nat → Prop := fun lo hi v => lo ≤ v ∧ v ≤ hi
  let bit : Nat → Nat → Bool := fun flags k => flags.testBit k
  (∀ p at' len, at' + len ≤ p.length →
    signedAt p at' len =
      if 2 * unsignedAt p at' len < 256 ^ len then (unsignedAt p at' len : Int)
      else (unsignedAt p at' len : Int) - (256 ^ len : Nat)) ∧
  (∀ p at' len,
    vecAt p at' len = ⟨signedAt p at' len, signedAt p (at' + len) len, signedAt p (at' + 2 * len) len⟩ ∧
      boxAt p at' = ⟨vecAt p at' 4, vecAt p (at' + 12) 4⟩) ∧
  (∀ v : Vec3,
    (legalPositionMm v = true ↔
      axisIn (-300000) 300000 v.x ∧ axisIn (-300000) 300000 v.y ∧ axisIn (-10000) 150000 v.z) ∧
    (legalPosition v = true ↔
      axisIn (-300000000) 300000000 v.x ∧ axisIn (-300000000) 300000000 v.y ∧ axisIn (-10000000) 150000000 v.z)) ∧
  (∀ p k i, (samplesOf p k)[i]? = if i < k then some (vecAt p (2 + 12 * i) 4) else none) ∧
  (∀ a : Anchor,
    legalAnchor a = true ↔
      axisIn (-300000) 300000 a.a.x ∧ axisIn (-300000) 300000 a.a.y ∧ axisIn 0 150000 a.a.z ∧
        (∀ axis, axisIn (-5000) 5000 (a.b.get axis)) ∧ axisIn 0 500000 a.run ∧ axisIn 0 1499999 a.lmin ∧
        axisIn 1 1500000 a.lmax ∧ a.lmin < a.lmax) ∧
  (∀ l : Limits,
    legalLimits l = true ↔
      natIn 0 5000 l.margin ∧ natIn 100 12000 l.vmax ∧ natIn 100 12000 l.caution ∧ l.caution ≤ l.vmax ∧
        natIn 500 10000 l.ae ∧ natIn 100 10000 l.amove ∧ natIn 100 10000 l.amoveMax ∧ l.amove ≤ l.amoveMax ∧
        l.amove ≤ l.ae ∧ l.amoveMax ≤ l.ae ∧ natIn 100 12000 l.vstick ∧ natIn 100 10000 l.astick ∧ l.astick ≤ l.ae ∧
        natIn 50 1000 l.stickTimeout ∧ natIn 100 10000 l.astream ∧ l.astream ≤ l.ae ∧ natIn 50 5000 l.lagLimit ∧
        natIn 1 1000 l.joinTol ∧ l.joinTol ≤ l.lagLimit ∧ natIn 4 48 l.lowWater ∧ natIn 1 200 l.poseTol) ∧
  (∀ l : ChannelLimits,
    legalChannelLimits l = true ↔
      l.tmin < l.twarnLo ∧ l.twarnLo < l.twarnHi ∧ l.twarnHi < l.tmax ∧ l.tmax ≤ 65535 ∧ natIn 5 1000 l.following) ∧
  (∀ b : Box,
    legalBox b = true ↔
      legalPositionMm b.lo = true ∧ legalPositionMm b.hi = true ∧ ∀ axis, b.lo.get axis < b.hi.get axis) ∧
  (∀ p : List Byte,
    anchorOf p = ⟨vecAt p 1 4, vecAt p 13 4, unsignedAt p 25 4, unsignedAt p 29 4, unsignedAt p 33 4⟩ ∧
      limitsOf p =
        ⟨unsignedAt p 0 2, unsignedAt p 2 2, unsignedAt p 4 2, unsignedAt p 6 2, unsignedAt p 8 2, unsignedAt p 10 2,
          unsignedAt p 12 2, unsignedAt p 14 2, unsignedAt p 16 2, unsignedAt p 18 2, unsignedAt p 20 2, unsignedAt p 22 2,
          unsignedAt p 24 1, unsignedAt p 25 2⟩ ∧
      channelLimitsOf p =
        ⟨unsignedAt p 1 2, unsignedAt p 3 2, unsignedAt p 5 2, unsignedAt p 7 2, unsignedAt p 9 2⟩) ∧
  (∀ (p : List Byte) (vmax : Nat) (seat : Seat) (z : Zone),
    zoneOf p vmax seat = some z ↔
      ((unsignedAt p 3 1 = 0 ∧ z.kind = .keepOut) ∨
        (unsignedAt p 3 1 = 1 ∧ natIn 100 vmax (unsignedAt p 29 2) ∧ z.kind = .slow (unsignedAt p 29 2))) ∧
      unsignedAt p 4 1 ≤ 1 ∧ z.active = decide (unsignedAt p 4 1 = 1) ∧ z.box = boxAt p 5 ∧ legalBox z.box = true ∧
      z.lock = unsignedAt p 31 2 ∧ z.owner = seat) ∧
  (∀ (p : List Byte) (m : MarkerSpec),
    markerOf p = some m ↔
      m.point = vecAt p 1 4 ∧ legalPositionMm m.point = true ∧ m.radius = unsignedAt p 13 2 ∧ natIn 100 20000 m.radius ∧
        unsignedAt p 15 1 ≤ 1 ∧ m.holdAtEnd = decide (unsignedAt p 15 1 = 1) ∧ unsignedAt p 16 1 ≤ 1 ∧
        m.armed = decide (unsignedAt p 16 1 = 1)) ∧
  ∀ (p : List Byte) (seat : Seat),
    let flags := unsignedAt p 16 1
    let m := moveOf p seat
    moveLength p = 17 + (if bit flags 3 then 2 else 0) + (if bit flags 4 then 2 else 0) ∧
      m.id = unsignedAt p 0 2 ∧ m.target = vecAt p 2 4 ∧ m.cruise = unsignedAt p 14 2 ∧ m.tagged = bit flags 0 ∧
      m.notifyBegin = bit flags 1 ∧ m.notifyDone = bit flags 2 ∧ m.origin = seat ∧
      m.accel = (if bit flags 3 then some (unsignedAt p 17 2) else none) ∧
      m.dwell = (if bit flags 4 then some (unsignedAt p (if bit flags 3 then 19 else 17) 2) else none) ∧
      (legalMove p m = true ↔
        legalPositionMm m.target = true ∧ 1 ≤ m.cruise ∧ flags < 32 ∧ (∀ a, m.accel = some a → 100 ≤ a) ∧
          ∀ d, m.dwell = some d → d ≤ 60000)

/-! ## Arithmetic and geometry -/

/-- The three operations on quotients and roots: a quotient rounded is that of the absolute values, one more when twice
the remainder is at least the divisor, with the dividend's sign; a quotient floored, as the reference window and the pull
step are, is the largest integer not greater than the exact quotient; isqrt is the largest integer whose square is not
greater; and the length root is the integer nearest to the true root, never decreasing in its argument. A distance of two
points is squared exactly, or the largest difference on one axis; mm become µm by a factor of 1,000. -/
def Obligations.RootsAndQuotients : Prop :=
  (∀ (a : Int) (b : Nat), 0 < b →
    roundInt a b =
      (if a < 0 then -1 else 1) *
        ((a.natAbs / b : Nat) + (if b ≤ 2 * (a.natAbs % b) then 1 else 0))) ∧
  roundInt 7 2 = 4 ∧ roundInt (-7) 2 = -4 ∧
  (∀ p q : Vec3,
    ((sqDist p q : Nat) : Int) = (p.x - q.x) ^ 2 + (p.y - q.y) ^ 2 + (p.z - q.z) ^ 2 ∧
      (∀ axis, (p.get axis - q.get axis).natAbs ≤ chebyshev p q) ∧
      ∃ axis, chebyshev p q = (p.get axis - q.get axis).natAbs) ∧
  (∀ (v : Vec3) (axis : Axis), (toMicrons v).get axis = 1000 * v.get axis) ∧
  (∀ a b : Nat, 0 < b → roundNat a b = a / b + if b ≤ 2 * (a % b) then 1 else 0) ∧
  (∀ a b : Nat, 0 < b → a / b * b ≤ a ∧ ∀ q, q * b ≤ a → q ≤ a / b) ∧
  (∀ t : Timing, pullStep t * 50 ≤ t.ts ∧ (∀ q, q * 50 ≤ t.ts → q ≤ pullStep t) ∧
    refWindow t * 200 ≤ t.n * t.ts ∧ ∀ q, q * 200 ≤ t.n * t.ts → q ≤ refWindow t) ∧
  (∀ n : Nat, isqrt n ^ 2 ≤ n ∧ ∀ y, y ^ 2 ≤ n → y ≤ isqrt n) ∧ isqrt 0 = 0 ∧
  (∀ n : Nat,
    let y := isqrt n
    (y < n - y ^ 2 → lengthRoot n = y + 1 ∧ y ^ 2 + y + 1 ≤ n) ∧ (n - y ^ 2 ≤ y → lengthRoot n = y ∧ n ≤ y ^ 2 + y)) ∧
  (∀ n : Nat, (2 * (lengthRoot n : Int) - 1) ^ 2 ≤ 4 * n ∧ 4 * (n : Int) < (2 * lengthRoot n + 1) ^ 2 ∨ n = 0) ∧
  ∀ m n : Nat, m ≤ n → lengthRoot m ≤ lengthRoot n

/-- The setpoint of a winch at a position: the length root of the squared distance from 1000·(A − b), plus 1000·R; for a
legal position and a legal anchor record nothing overflows. -/
def Obligations.SetpointRule : Prop :=
  (∀ (a : Anchor) (p : Vec3),
    let dx := 1000 * (a.a.x - a.b.x) - p.x
    let dy := 1000 * (a.a.y - a.b.y) - p.y
    let dz := 1000 * (a.a.z - a.b.z) - p.z
    setpointAt a p = lengthRoot (dx ^ 2 + dy ^ 2 + dz ^ 2).toNat + (1000 * a.run).toNat) ∧
  ∀ (a : Anchor) (p : Vec3), legalAnchor a = true → legalPosition p = true →
    let c := anchorPoint a
    (c.x - p.x).natAbs ≤ 605000000 ∧ (c.y - p.y).natAbs ≤ 605000000 ∧ (c.z - p.z).natAbs ≤ 605000000 ∧
      sqDist c p < 11 * 10 ^ 17 ∧ paidOut a p < 900000000 ∧ setpointAt a p < 1400000000 ∧
      setpointAt a p = paidOut a p + (1000 * a.run).toNat

/-- The acceptance check answers exactly whether every lattice point of a box with its bounds in order gives, on every
winch, a paid-out length within that winch's limits. The detail's bits 0 to 3 name the winches with a point too short,
its bits 4 to 7 those with one too long, and it has no other bit. A box whose bounds are not in order fails, with every
winch failing both ways, so with a detail of 255. -/
def Obligations.AcceptanceIsExact : Prop :=
  (∀ (anchors : Quad Anchor) (box : Box), boxOrdered box = true →
    (boxPasses anchors box = true ↔
      ∀ w p, inBox (boxMicrons box) p = true →
        1000 * (anchors.get w).lmin ≤ (paidOut (anchors.get w) p : Int) ∧
          (paidOut (anchors.get w) p : Int) ≤ 1000 * (anchors.get w).lmax)) ∧
  (∀ (anchors : Quad Anchor) (box : Box), boxOrdered box = false →
    boxPasses anchors box = false ∧ acceptanceDetail anchors box = 255) ∧
  (∀ box : Box, boxOrdered box = true ↔ ∀ axis, box.lo.get axis < box.hi.get axis) ∧
  (∀ (anchors : Quad Anchor) (box : Box), acceptanceDetail anchors box < 256) ∧
  ∀ (anchors : Quad Anchor) (box : Box) (w : Fin 4), boxOrdered box = true →
    ((acceptanceDetail anchors box).testBit w.val = true ↔
      ∃ p, inBox (boxMicrons box) p = true ∧ (paidOut (anchors.get w) p : Int) < 1000 * (anchors.get w).lmin) ∧
    ((acceptanceDetail anchors box).testBit (w.val + 4) = true ↔
      ∃ p, inBox (boxMicrons box) p = true ∧ 1000 * (anchors.get w).lmax < (paidOut (anchors.get w) p : Int))

/-- The commanded position by flight state: the retained pose's in PARKED, valid or not, the hold position in PARKING, the
position at trip in TRIPPED, and the one last committed in the states that produce samples. ENV's answers about a point
and a segment: boxes are closed, the workspace is shrunk and a KEEP_OUT box inflated by the margin on every face; the slot
that blocks a point is the lowest whose active inflated KEEP_OUT box contains it; a point is free in the shrunk workspace
and in none of them; a segment is blocked when it meets one of them. The segment test is exact: a closed segment meets a
closed box, its bounds in order, exactly when some point of the segment, at a rational parameter from 0 to 1, lies in the
box. -/
def Obligations.PositionAndEnvelopeTests : Prop :=
  (∀ s : State,
    let f := s.fcu.flight
    (f = .parked → commandedPosition s = s.fcu.pose.pos) ∧ (f = .parking → commandedPosition s = s.pln.holdPos) ∧
      (f = .tripped → commandedPosition s = s.flt.trip.pos) ∧
      ((f = .arming ∨ f = .hold ∨ f = .track ∨ f = .stick ∨ f = .stream ∨ f = .stopping) →
        commandedPosition s = s.pln.pos)) ∧
  (∀ (b : Box) (p : Vec3), inBox b p = true ↔ ∀ axis, b.lo.get axis ≤ p.get axis ∧ p.get axis ≤ b.hi.get axis) ∧
  (∀ (margin : Nat) (b : Box) (axis : Axis),
    (boxMicrons b).lo.get axis = 1000 * b.lo.get axis ∧ (boxMicrons b).hi.get axis = 1000 * b.hi.get axis ∧
      (shrunkBox margin b).lo.get axis = 1000 * b.lo.get axis + 1000 * margin ∧
      (shrunkBox margin b).hi.get axis = 1000 * b.hi.get axis - 1000 * margin ∧
      (inflatedBox margin b).lo.get axis = 1000 * b.lo.get axis - 1000 * margin ∧
      (inflatedBox margin b).hi.get axis = 1000 * b.hi.get axis + 1000 * margin) ∧
  (∀ e : Env,
    let keepsOut : Nat → Box → Prop := fun slot b =>
      ∃ h : slot < 24, ∃ z, e.zones[slot] = some z ∧ z.kind = .keepOut ∧ z.active = true ∧
        b = inflatedBox e.limits.margin z.box
    let blocks : Vec3 → Nat → Prop := fun p slot => ∃ b, keepsOut slot b ∧ inBox b p = true
    e.shrunk = shrunkBox e.limits.margin e.box ∧
      (∀ p slot, e.blockedAt p = some slot ↔ blocks p slot ∧ ∀ lower, lower < slot → ¬ blocks p lower) ∧
      (∀ p, e.blockedAt p = none ↔ ∀ slot, ¬ blocks p slot) ∧
      (∀ p, e.free p = true ↔ inBox e.shrunk p = true ∧ ∀ slot, ¬ blocks p slot) ∧
      ∀ p0 p1, e.pathBlocked p0 p1 = true ↔ ∃ slot b, keepsOut slot b ∧ segmentMeets p0 p1 b = true) ∧
  ∀ (p0 p1 : Vec3) (b : Box), (∀ axis, b.lo.get axis ≤ b.hi.get axis) →
    (segmentMeets p0 p1 b = true ↔
      ∃ t : ℚ, 0 ≤ t ∧ t ≤ 1 ∧
        ∀ axis, (b.lo.get axis : ℚ) ≤ p0.get axis + t * (p1.get axis - p0.get axis) ∧
          (p0.get axis : ℚ) + t * (p1.get axis - p0.get axis) ≤ b.hi.get axis)

/-- The hard clamp. Pass 1 limits each coordinate of the candidate to the shrunk workspace. Pass 2 takes the active
inflated KEEP_OUT boxes in slot order: one that contains the candidate as it stands sets it to one below the range on each
axis on which the position lay below it, one above where the position lay above it, and leaves the axes on which the
position lay within. A result still in one of the boxes is replaced by the position on every axis. A clamped axis has its
velocity 0. From a free position the clamp gives a free position, leaves a free candidate as it is, and leaves every
coordinate between the position's and the candidate's. -/
def Obligations.HardClampSafe : Prop :=
  (∀ (e : Env) (p cand : Vec3),
    let boxes : List Box := e.zones.toList.filterMap fun o => match o with
      | some z => if z.kind = .keepOut ∧ z.active = true then some (inflatedBox e.limits.margin z.box) else none
      | none => none
    let inner := Vec3.ofAxes fun axis => max (e.shrunk.lo.get axis) (min (e.shrunk.hi.get axis) (cand.get axis))
    let pushed := boxes.foldl
      (fun v b =>
        if inBox b v = true then
          Vec3.ofAxes fun axis =>
            if p.get axis < b.lo.get axis then b.lo.get axis - 1
            else if b.hi.get axis < p.get axis then b.hi.get axis + 1 else v.get axis
        else v)
      inner
    ((∃ b ∈ boxes, inBox b pushed = true) → e.hardClamp p cand = p) ∧
      ((∀ b ∈ boxes, inBox b pushed = false) → e.hardClamp p cand = pushed)) ∧
  (∀ (cand clamped vel : Vec3) (axis : Axis),
    (restClamped cand clamped vel).get axis = if clamped.get axis = cand.get axis then vel.get axis else 0) ∧
  ∀ (e : Env) (p cand : Vec3), e.free p = true →
    e.free (e.hardClamp p cand) = true ∧ (e.free cand = true → e.hardClamp p cand = cand) ∧
      ∀ axis, min (p.get axis) (cand.get axis) ≤ (e.hardClamp p cand).get axis ∧
        (e.hardClamp p cand).get axis ≤ max (p.get axis) (cand.get axis)

/-- The speed ceiling is the smallest of vmax, the caps of the active SLOW zones that hold the position, and, under a live
tension warning, that of some STREAMING channel, the caution speed, each in µm/s; it never exceeds vmax. A soft wall
replaces an axis speed above the speed from which a stop at a_e just reaches the face: never below that speed, never by
more than one period's fall, with its sign; it leaves any other speed, and an axis at rest, as they are. The face's
distance is the smallest among that to the shrunk workspace's face ahead and those, less one, to the faces ahead of the
active inflated KEEP_OUT boxes whose other two ranges hold the carrier; from a free position it is not negative. -/
def Obligations.CeilingAndSoftWall : Prop :=
  (∀ s : State, tensionWarning s = true ↔ ∃ w, (s.chan w).state = .streaming ∧ (s.chan w).warning = true) ∧
  (∀ (e : Env) (p : Vec3) (warning : Bool),
    let c := e.ceilingAt p warning
    let holds : Nat → Prop := fun cap =>
      ∃ slot, ∃ h : slot < 24, ∃ z, e.zones[slot] = some z ∧ z.kind = .slow cap ∧ z.active = true ∧
        inBox (boxMicrons z.box) p = true
    c ≤ 1000 * e.limits.vmax ∧ (∀ cap, holds cap → c ≤ 1000 * cap) ∧
      (warning = true → c ≤ 1000 * e.limits.caution) ∧
      (c = 1000 * e.limits.vmax ∨ (∃ cap, holds cap ∧ c = 1000 * cap) ∨
        (warning = true ∧ c = 1000 * e.limits.caution))) ∧
  (∀ (ae ts : Nat) (d v : Int), 0 ≤ d →
    let b := isqrt (2 * (1000 * ae) * d.toNat)
    let fall := roundNat (ae * ts) 1000
    let v' := softenSpeed ae ts d v
    (v.natAbs ≤ b → v' = v) ∧
    (b < v.natAbs → v'.natAbs = max (v.natAbs - fall) b ∧ (0 < v → 0 ≤ v') ∧ (v < 0 → v' ≤ 0))) ∧
  (∀ (e : Env) (ts : Nat) (p vel : Vec3) (axis : Axis),
    (e.softWalls ts p vel).get axis =
      if vel.get axis = 0 then 0
      else softenSpeed e.limits.ae ts (e.faceDistance p axis (decide (0 < vel.get axis))) (vel.get axis)) ∧
  ∀ (e : Env) (p : Vec3) (axis : Axis) (up : Bool),
    let at' := p.get axis
    let bounds : Int → Prop := fun d =>
      d = (if up then e.shrunk.hi.get axis - at' else at' - e.shrunk.lo.get axis) ∨
        ∃ slot, ∃ h : slot < 24, ∃ z, e.zones[slot] = some z ∧ z.kind = .keepOut ∧ z.active = true ∧
          let b := inflatedBox e.limits.margin z.box
          (∀ other, other ≠ axis → b.lo.get other ≤ p.get other ∧ p.get other ≤ b.hi.get other) ∧
            ((up = true ∧ at' < b.lo.get axis ∧ d = b.lo.get axis - 1 - at') ∨
              (up = false ∧ b.hi.get axis < at' ∧ d = at' - b.hi.get axis - 1))
    bounds (e.faceDistance p axis up) ∧ (∀ d, bounds d → e.faceDistance p axis up ≤ d) ∧
      (e.free p = true → 0 ≤ e.faceDistance p axis up)

/-! ## Servo events and the frame reference -/

/-- A servo event moves the present time to its instant, counts a frame at frame index 0 until the count is exhausted,
and schedules the next event by the reference state: Ts later in FREE_RUN and ACQUIRING; Ts later in LOCKED, but with
the next frame start left to the edge; Ts shortened or lengthened by at most Ts/50 floored in PULLING; a pull with
nothing left is LOCKED first, its missed edges none, and REFERENCE_LOCKED with detail 1 is handed over; else the missed
edges, the pull's direction and, but for that step, what is left of it stand. At the exhausted count the reference is
FREE_RUN and no frame start follows. The snapshot is renewed, with the reference state as it stands after all of this
(deduced, log 14). At a frame start, and at no other servo event, FRU hands LINK one FRAME_POSE with that snapshot, at
some place among the notices of the event. With no event timed there is no such event (log 2). That its instant is the
later of the present time and the time due is log 3's, that an acquisition's or a pull's items are cleared with the
exhausted count log 13's, and that the frame start which exhausts the count still sends its FRAME_POSE log 13's too; the
free place is log 6's. -/
def Obligations.ServoEventSchedules : Prop :=
  (∀ s : State, s.fru.nextEvent = none → s.link.handed = [] → exec .servoEvent s = .next s) ∧
  (∀ (s : State) (due : Nat), s.fru.nextEvent = some due → ∃ t, exec .servoEvent s = .next t ∧
    let f := s.fru
    let now := max f.now due
    let ts := f.timing.ts
    let counts := f.frameIndex = 0 ∧ f.frames < 4294967295
    let full := 4294967295 ≤ t.fru.frames
    let next := (f.frameIndex + 1) % f.timing.n
    let timed := some (now + ts)
    t.fru.now = now ∧ t.fru.lastServo = now ∧ t.fru.timing = f.timing ∧
      (counts → t.fru.frames = f.frames + 1) ∧ (¬ counts → t.fru.frames = f.frames) ∧
      (full → t.fru.ref = .freeRun ∧ t.fru.frameIndex = 1 ∧ t.fru.nextEvent = timed ∧ t.fru.lastRef = none ∧
        t.fru.good = 0 ∧ t.fru.miss = 0 ∧ t.fru.pullDir = none ∧ t.fru.pullLeft = 0) ∧
      (¬ full →
        let stands := t.fru.miss = f.miss ∧ t.fru.pullDir = f.pullDir ∧ t.fru.pullLeft = f.pullLeft
        t.fru.frameIndex = next ∧ t.fru.lastRef = f.lastRef ∧ t.fru.good = f.good ∧
        ((f.ref = .freeRun ∨ f.ref = .acquiring) → t.fru.ref = f.ref ∧ t.fru.nextEvent = timed ∧ stands) ∧
        (f.ref = .locked → t.fru.ref = .locked ∧ (t.fru.nextEvent = if next = 0 then none else timed) ∧ stands) ∧
        (f.ref = .pulling → f.pullLeft = 0 →
          t.fru.ref = .locked ∧ t.fru.miss = 0 ∧ t.fru.pullDir = none ∧ t.fru.pullLeft = 0 ∧
            t.fru.nextEvent = if next = 0 then none else timed) ∧
        (f.ref = .pulling → 0 < f.pullLeft →
          let part := min f.pullLeft (ts / 50)
          t.fru.ref = .pulling ∧ t.fru.miss = f.miss ∧ t.fru.pullDir = f.pullDir ∧ t.fru.pullLeft = f.pullLeft - part ∧
            ∀ dir, f.pullDir = some dir →
              t.fru.nextEvent = some (now + if dir = .shorten then ts - part else ts + part))) ∧
      t.fru.snapshot =
        ⟨t.fru.frames, commandedPosition t, t.ch.chans.map fun c => c.last.length, t.ch.chans.map fun c => c.last.tension,
          s.ch.chans.map fun c => !c.answered, t.fru.ref⟩ ∧
      (s.link.handed = [] → ∃ u : State,
        t = deliver (if f.frameIndex = 0 then handFramePose u else u) ∧ u.fru = t.fru ∧
          u.link = { (advanceTo due s).link with handed := u.link.handed } ∧
          (∀ h ∈ u.link.handed, h.audience ≠ .framePose) ∧
          (¬ full → f.ref = .pulling → f.pullLeft = 0 →
            (⟨.subscribers .timing, .notice .referenceLocked 1⟩ : Handed) ∈ u.link.handed))) ∧
  ∀ u : State, ∃ (before after : List Handed) (n : Nat),
    u.link.handed = before ++ after ∧
      handFramePose u =
        { u with
          link := { u.link with handed := before ++ ⟨.framePose, .framePose u.fru.snapshot⟩ :: after }, freeCount := n }

/-- A servo event, whole but for FRU's own record (ServoEventSchedules). Every channel closes its period, taking a miss
when it was not answered, and sends one frame of its own state with its sequence number, which advances modulo 16: a
restart where one waits, a poll in ABSENT, READY and FAULTED, a release in RELEASING, the newest setpoint in STREAMING
alone, a brake in BRAKING and a length in SETTING. In the states that produce samples the newest setpoint is that of the
position just committed. A third miss outside ABSENT makes the channel ABSENT, its timer stopped, its counts and its
warning cleared; a channel without one keeps its state, its timer but for the time passed, and every other field, but
for a trip. Third misses report in channel order: DRIVE_ABSENT of READY and FAULTED; of the other states one occurrence
of CHANNEL_LOST with the channel's number, which outside TRIPPED is a whole trip. That the frames leave before such a
trip acts on the other channels is deduced (log 8); that an involved channel done already, being READY, sends
DRIVE_ABSENT and its setting operation goes on is the model's choice (log 32). All else is as the planner's sample leaves it; the anchors and the
home point stand. The notices are the sample's, the third misses', REFERENCE_LOCKED where a pull completes (the order:
log 7), and at a frame start FRAME_POSE at a free place among them (log 6). The instant is log 3's. -/
def Obligations.ServoEventSendsFrames : Prop :=
  ∀ (s : State) (due : Nat), s.link.handed = [] → s.fru.nextEvent = some due →
    let gone := due - s.fru.now
    let start := decide (s.fru.frameIndex = 0)
    let a := advanceTo due s
    let u := planSample start
      (if start = true ∧ s.fru.frames < 4294967295 then { a with fru := { a.fru with frames := s.fru.frames + 1 } } else a)
    let missed : Winch → Bool := fun w => decide ((s.chan w).sent ≠ none ∧ (s.chan w).answered = false)
    let lost : Winch → Bool := fun w => decide (missed w = true ∧ (s.chan w).miss = 2 ∧ (s.chan w).state ≠ .absent)
    let held : Winch → Bool := fun w => decide ((s.chan w).state = .ready ∨ (s.chan w).state = .faulted)
    let newest : Winch → Nat := fun w =>
      if producesSamples s.fcu.flight then setpointAt (s.sol.anchors.get (winchIndex w)) u.pln.pos else (s.chan w).newest
    let kind : Winch → FrameKind := fun w =>
      if (s.chan w).restartPending = true then .restart
      else if lost w = true then .poll
      else match (s.chan w).state with
        | .absent => .poll
        | .ready => .poll
        | .faulted => .poll
        | .releasing => .release
        | .streaming => .setpoint (newest w)
        | .braking => .brake
        | .setting => .setLength (s.chan w).requested
    let own : Winch → Channel := fun w =>
      let c := s.chan w
      let after : Channel := { c with
        timer := c.timer.map fun n => n - gone
        newest := newest w
        sent := some ⟨kind w, c.seq⟩
        seq := c.seq + 1
        answered := false
        restartPending := false }
      if lost w = true then
        { after with
          state := .absent, timer := none, miss := 0, slackCount := 0, overCount := 0, followCount := 0, warning := false }
      else { after with miss := if missed w = false then c.miss else if c.miss < 3 then c.miss + 1 else 3 }
    let reports : Winch → State → State := fun w v =>
      if lost w = false then v
      else if held w = true then notice .driveAbsent (winchNumber w) v
      else if v.fcu.flight = .tripped then report .channelLost (winchNumber w) none v
      else tripEffect .channelLost (winchNumber w) none v
    let ran := reports .w4 (reports .w3 (reports .w2 (reports .w1
      { u with ch := { u.ch with chans := ⟨own .w1, own .w2, own .w3, own .w4⟩ } })))
    let told := if s.fru.ref = .pulling ∧ s.fru.pullLeft = 0 then notice .referenceLocked 1 ran else ran
    ∃ t, exec .servoEvent s = .next t ∧ t.fcu = ran.fcu ∧ t.pln = ran.pln ∧ t.env = ran.env ∧ t.sol = s.sol ∧
      t.mrk = ran.mrk ∧ t.ch = ran.ch ∧ t.flt = ran.flt ∧ t.sto = ran.sto ∧ t.pending = s.pending ∧
      t.link = (deliver (if start = true then handFramePose { told with fru := t.fru } else told)).link ∧
      ((s.fcu.flight = .tripped ∨ ∀ w, lost w = true → held w = true) → ∀ w, t.chan w = own w) ∧
      (s.fcu.flight ≠ .tripped → (∃ w, lost w = true ∧ held w = false) →
        t.fcu.flight = .tripped ∧ (t.flag .channelLost).set = true ∧ ∀ w, t.chan w = (own w).afterTrip)

/-- The sample of a servo event, by flight state: none where none is produced; the hold position in ARMING and HOLD; the
path's point in TRACK and in a path stop; one period's step from the axis velocities, after the acceleration limit and
the soft walls, in STICK, STREAM and an axis stop. Each passes the hard clamp. With no third miss outside ABSENT, an
axis stop whose velocities are all 0 ends in HOLD with its stop cause (an event that finds them 0 already is such an end
too, deduced: log 15) and a stick sample leaves its velocities, at rest on clamped axes. Then what the planner's sample
hands over and starts, which a servo event takes as PathSamplesConclude says: a clamp is one occurrence of WALL_STRIKE
and the mode goes on. A follower sample evaluates the bands; the first one of a stream hands over STREAM_PLAYING; over
the lag limit it is one occurrence of STREAM_LAG, the stream cancelled, and STOPPING by an axis stop at a_stream's rate
with that cause; else, the last one while ENDING, the stream is IDLE and STOPPING is by that rate with cause
STREAM_ENDED. An empty buffer while PLAYING is one occurrence of STREAM_UNDERRUN, the stream cancelled, and the first
sample of such a stop with that cause. A start of play at the count of F0 with an empty buffer is one occurrence of
STREAM_UNDERRUN, and one over the join tolerance is JOIN_REFUSED with the first axis over it; either way the stream is
cancelled and the hold sample committed. The end of an axis stop hands over STREAM_ENDED when that is its cause, and
then HOLDING. In a stick, follower or axis-stop sample WALL_STRIKE precedes the markers' notices; the order of the
others among the markers' is the model's choice where no rule gives it (log 7). -/
def Obligations.SamplesCommitted : Prop :=
  (∀ (s t : State), s.fru.nextEvent ≠ none → exec .servoEvent s = .next t →
    let p := s.pln.pos
    let ts := s.fru.timing.ts
    let l := s.env.limits
    let c := s.env.ceilingAt p (tensionWarning s)
    let commits : Vec3 → Prop := fun cand => t.pln.pos = s.env.hardClamp p cand
    let toward : Int → Int → Nat → Int := fun v target most =>
      if v ≤ target then min (v + most) target else max (v - most) target
    let limited : Int → Int := fun v => max (-(c : Int)) (min c v)
    let moved : Vec3 → Vec3 := fun vel => vadd p (Vec3.ofAxes fun axis => roundInt (vel.get axis * ts) 1000000)
    let per : Nat → Nat := fun accel => roundNat (accel * ts) 1000
    let calm := ∀ w,
      (s.chan w).sent = none ∨ (s.chan w).answered = true ∨ (s.chan w).miss ≠ 2 ∨ (s.chan w).state = .absent
    let stick : Vec3 := s.env.softWalls ts p (Vec3.ofAxes fun axis =>
      toward (s.pln.vel.get axis) (limited (s.pln.stick.q.get axis * l.vstick)) (per l.astick))
    let falls : Nat → Vec3 := fun rate => s.env.softWalls ts p (Vec3.ofAxes fun axis => toward (s.pln.vel.get axis) 0 rate)
    let follows : Vec3 → Vec3 → Vec3 := fun vel played => s.env.softWalls ts p (Vec3.ofAxes fun axis =>
      toward (vel.get axis) (limited (roundInt ((played.get axis - p.get axis) * 1000000) ts)) (per l.astream))
    (producesSamples s.fcu.flight = false → t.pln.pos = p) ∧
    (s.fcu.flight = .arming → commits s.pln.holdPos) ∧
    (s.fcu.flight = .hold → s.pln.stream.state ≠ .primed → commits s.pln.holdPos) ∧
    (∀ m, s.fcu.flight = .track → s.pln.inHand = some m →
      (m.phase = .moving →
        let m' := profileStep ts c m
        commits (pathPoint m.start (toMicrons m.move.target) m'.prog m.dist)) ∧
      (m.phase = .dwelling → commits (toMicrons m.move.target))) ∧
    (s.fcu.flight = .stick →
      commits (moved stick) ∧
        (calm →
          t.fcu.flight = .stick ∧
            t.pln.vel = Vec3.ofAxes fun axis =>
              if t.pln.pos.get axis = (moved stick).get axis then stick.get axis else 0)) ∧
    (∀ head rest, s.fcu.flight = .stream → s.pln.stream.samples = head :: rest →
      commits (moved (follows s.pln.vel head.pos)) ∧
        (1000 * l.lagLimit < chebyshev head.pos t.pln.pos →
          t.pln.stream.state = .idle ∧ t.pln.stream.samples = [] ∧ (t.flag .streamLag).set = true)) ∧
    (s.fcu.flight = .stream → s.pln.stream.samples = [] →
      commits (moved (falls (per l.astream))) ∧ t.pln.stream.state = .idle ∧
        (s.pln.stream.state = .playing → (t.flag .streamUnderrun).set = true)) ∧
    (s.fcu.flight = .hold → s.pln.stream.state = .primed →
      let starts := s.fru.frameIndex = 0 ∧ s.fru.frames < 4294967295 ∧ s.fru.frames + 1 = s.pln.stream.startFrame
      (¬ starts → s.fru.frames < 4294967295 → commits s.pln.holdPos ∧ (calm → t.pln.stream = s.pln.stream)) ∧
      (starts → s.pln.stream.samples = [] →
        commits s.pln.holdPos ∧ t.pln.stream.state = .idle ∧ (t.flag .streamUnderrun).set = true) ∧
      ∀ head rest, starts → s.pln.stream.samples = head :: rest →
        (1000 * l.joinTol < chebyshev head.pos s.pln.holdPos →
          commits s.pln.holdPos ∧ t.pln.stream.state = .idle ∧ t.pln.stream.samples = []) ∧
        (chebyshev head.pos s.pln.holdPos ≤ 1000 * l.joinTol →
          commits (moved (follows Vec3.zero head.pos)) ∧
            (calm → chebyshev head.pos t.pln.pos ≤ 1000 * l.lagLimit →
              t.fcu.flight = .stream ∧ t.pln.stream.state = .playing ∧ t.pln.stream.samples = rest))) ∧
    (∀ rate, s.fcu.flight = .stopping → s.pln.stop = some ⟨.axis, rate⟩ →
      commits (moved (falls rate)) ∧
        (calm →
          (t.pln.vel = Vec3.zero → t.fcu.flight = .hold ∧ t.fcu.cause = s.fcu.cause ∧ t.pln.holdPos = t.pln.pos) ∧
          (t.pln.vel ≠ Vec3.zero → t.fcu.flight = .stopping))) ∧
    (∀ rate m, s.fcu.flight = .stopping → s.pln.stop = some ⟨.path, rate⟩ → s.pln.inHand = some m →
      let v := m.speed - rate
      let r := m.dist - m.prog
      (v = 0 → commits p ∧ (calm → t.fcu.flight = .hold)) ∧
      (0 < v → commits (pathPoint m.start (toMicrons m.move.target)
        (m.prog + min r (max 1 (roundNat (v * ts) 1000000))) m.dist)))) ∧
  ∀ (s : State) (start : Bool),
    let p := s.pln.pos
    let ts := s.fru.timing.ts
    let l := s.env.limits
    let c := s.env.ceilingAt p (tensionWarning s)
    let toward : Int → Int → Nat → Int := fun v target most =>
      if v ≤ target then min (v + most) target else max (v - most) target
    let limited : Int → Int := fun v => max (-(c : Int)) (min c v)
    let per : Nat → Nat := fun accel => roundNat (accel * ts) 1000
    let axes : (Axis → Int) → Vec3 := fun v => s.env.softWalls ts p (Vec3.ofAxes v)
    let commit : FlightState → State → Vec3 → Vec3 → State := fun flight b vel cand =>
      let q := s.env.hardClamp p cand
      let e : State := { b with pln := { b.pln with pos := q, vel := restClamped cand q vel } }
      let e := if q = cand then e else report .wallStrike 0 none e
      examineMarkers flight q { e with
        ch := { e.ch with chans := e.ch.chans.zip s.sol.anchors fun k a => { k with newest := setpointAt a q } } }
    let flown : FlightState → State → Vec3 → State := fun flight b vel =>
      commit flight b vel (Vec3.ofAxes fun axis => p.get axis + roundInt (vel.get axis * ts) 1000000)
    let capped : State → State := fun b => { b with env := { b.env with ceiling := c } }
    let cancelled : State → State := fun b => { b with pln := { b.pln with stream := b.pln.stream.emptied } }
    let stops : StopCause → State → State := fun cause b =>
      { b with
        fcu := { b.fcu with flight := .stopping, cause := cause }
        pln := { b.pln with stop := some ⟨.axis, per l.astream⟩ } }
    let rests : State → State := fun b => commit s.fcu.flight b Vec3.zero s.pln.holdPos
    let follows : Bool → State → Vec3 → Sample → List Sample → State := fun first b vel head rest =>
      let e := flown .stream
        (capped (evaluateBands { b with pln := { b.pln with stream := { b.pln.stream with samples := rest } } }))
        (axes fun axis =>
          toward (vel.get axis) (limited (roundInt ((head.pos.get axis - p.get axis) * 1000000) ts)) (per l.astream))
      let e := if first then notice .streamPlaying 0 e else e
      if 1000 * l.lagLimit < chebyshev head.pos e.pln.pos then
        stops .streamLag (cancelled (report .streamLag 0 none e))
      else if s.pln.stream.state = .ending ∧ rest = [] then
        stops .streamEnded { e with pln := { e.pln with stream := { e.pln.stream with state := .idle } } }
      else e
    let slows : Nat → State → State := fun rate b =>
      let e := flown .stopping b (axes fun axis => toward (s.pln.vel.get axis) 0 rate)
      let n := if e.fcu.cause = .streamEnded then notice .streamEnded 0 e else e
      if e.pln.vel = Vec3.zero then
        notice .holding e.fcu.cause.code.toNat { n with
          fcu := { e.fcu with flight := .hold }
          pln := { e.pln with holdPos := e.pln.pos, vel := Vec3.zero, stop := none }
          mrk := { e.mrk with holdPending := false } }
      else e
    let gives : State → Prop := fun t => planSample start s = t
    let plays := start = true ∧ s.pln.stream.state = .primed ∧ s.fru.frames = s.pln.stream.startFrame
    (producesSamples s.fcu.flight = false → gives s) ∧
    (s.fcu.flight = .arming → gives (rests s)) ∧
    (s.fcu.flight = .stick →
      gives (flown .stick (capped s) (axes fun axis =>
        toward (s.pln.vel.get axis) (limited (s.pln.stick.q.get axis * l.vstick)) (per l.astick)))) ∧
    (s.fcu.flight = .stream →
      (∀ head rest, s.pln.stream.samples = head :: rest → gives (follows false s s.pln.vel head rest)) ∧
      (s.pln.stream.samples = [] → s.pln.stream.state = .playing →
        gives (slows (per l.astream) (stops .streamUnderrun (cancelled (report .streamUnderrun 0 none s)))))) ∧
    (s.fcu.flight = .hold →
      (¬ plays → gives (rests s)) ∧
      (plays → s.pln.stream.samples = [] → gives (rests (cancelled (report .streamUnderrun 0 none s)))) ∧
      ∀ head rest, plays → s.pln.stream.samples = head :: rest →
        let beyond : Axis → Prop := fun axis =>
          1000 * l.joinTol < (head.pos.get axis - s.pln.holdPos.get axis).natAbs
        let refused : Nat → Prop := fun detail => gives (rests (cancelled (notice .joinRefused detail s)))
        (beyond .x → refused 0) ∧ (¬ beyond .x → beyond .y → refused 1) ∧
        (¬ beyond .x → ¬ beyond .y → beyond .z → refused 2) ∧
        ((∀ axis, ¬ beyond axis) →
          gives (follows true
            { s with
              fcu := { s.fcu with flight := .stream }
              pln := { s.pln with vel := Vec3.zero, stream := { s.pln.stream with state := .playing } } }
            Vec3.zero head rest))) ∧
    ∀ rate, s.fcu.flight = .stopping → s.pln.stop = some ⟨.axis, rate⟩ → gives (slows rate s)

/-- What a path sample concludes. With no third miss outside ABSENT, a servo event leaves the flight state, the planner,
the envelope, the markers and the flags as the planner's sample leaves them, the anchors and the home point as they
were, and hands over that sample's notices, then REFERENCE_LOCKED when it completes a pull (the order: log 7), and at a
frame start FRAME_POSE at a free place among them (log 6). That sample, in TRACK: a move flown takes its profile's next
point, and at its path length arrives, with the move-end decision; a dwell commits the target again, and with no event
left makes that decision. In a path stop: the next point at the reduced speed; arrival on the target ends the move with
MOVE_DONE if flagged, unless it was abandoned; at rest before it the move is suspended, or dropped when it was
abandoned; either way HOLD with the stop cause. In all three, a hard clamp is one occurrence of WALL_STRIKE, the move
abandoned, the queue flushed, and HOLD at the clamped position with that cause. That WALL_STRIKE's notice precedes the
markers' in these samples is the model's choice (log 7). -/
def Obligations.PathSamplesConclude : Prop :=
  (∀ (s : State) (due : Nat), s.link.handed = [] → s.fru.nextEvent = some due →
    (∀ w, (s.chan w).sent = none ∨ (s.chan w).answered = true ∨ (s.chan w).miss ≠ 2 ∨ (s.chan w).state = .absent) →
    let a := advanceTo due s
    let start := decide (s.fru.frameIndex = 0)
    let u := planSample start
      (if start = true ∧ s.fru.frames < 4294967295 then { a with fru := { a.fru with frames := s.fru.frames + 1 } } else a)
    let v := if s.fru.ref = .pulling ∧ s.fru.pullLeft = 0 then notice .referenceLocked 1 u else u
    ∃ t, exec .servoEvent s = .next t ∧ t.fcu = u.fcu ∧ t.pln = u.pln ∧ t.env = u.env ∧ t.sol = s.sol ∧ t.mrk = u.mrk ∧
      t.flt = u.flt ∧ t.sto = u.sto ∧ t.link = (deliver (if start = true then handFramePose { v with fru := t.fru } else v)).link) ∧
  ∀ (s : State) (start : Bool) (m : MoveInHand), s.pln.inHand = some m →
    let p := s.pln.pos
    let ts := s.fru.timing.ts
    let ceiling := s.env.ceilingAt p (tensionWarning s)
    let target := toMicrons m.move.target
    let committed : FlightState → Env → MoveInHand → Vec3 → State := fun flight env hand cand =>
      let q := s.env.hardClamp p cand
      let e : State := { s with
        env := env
        pln := { s.pln with inHand := some hand, pos := q, vel := restClamped cand q s.pln.vel } }
      let e := if q = cand then e else report .wallStrike 0 none e
      examineMarkers flight q { e with
        ch := { e.ch with chans := e.ch.chans.zip s.sol.anchors fun c a => { c with newest := setpointAt a q } } }
    let holds : StopCause → Option MoveInHand → State → State := fun cause hand e =>
      notice .holding cause.code.toNat { e with
        fcu := { s.fcu with flight := .hold, cause := cause }
        pln := { e.pln with inHand := hand, holdPos := e.pln.pos, vel := Vec3.zero, stop := none }
        mrk := { e.mrk with holdPending := false } }
    let strikes : State → State := fun e => holds .wallStrike none { e with pln := { e.pln with queue := [] } }
    let gives : State → Prop := fun t => planSample start s = t
    (s.fcu.flight = .track → m.phase = .moving →
      let m' := profileStep ts ceiling m
      let cand := pathPoint m.start target m'.prog m.dist
      let e := committed .track { s.env with ceiling := ceiling } m' cand
      (e.pln.pos ≠ cand → gives (strikes e)) ∧
      (e.pln.pos = cand → m'.prog ≠ m.dist → gives e) ∧
      (e.pln.pos = cand → m'.prog = m.dist → gives (arriveWith (moveEnd m.stepFlag) m' e))) ∧
    (s.fcu.flight = .track → m.phase = .dwelling →
      let left := m.dwellLeft - 1
      let e := committed .track { s.env with ceiling := ceiling } { m with dwellLeft := left } target
      (e.pln.pos ≠ target → gives (strikes e)) ∧
      (e.pln.pos = target → left ≠ 0 → gives e) ∧
      (e.pln.pos = target → left = 0 → gives (moveEnd m.stepFlag e))) ∧
    ∀ rate, s.fcu.flight = .stopping → s.pln.stop = some ⟨.path, rate⟩ →
      let v := m.speed - rate
      let prog := m.prog + min (m.dist - m.prog) (max 1 (roundNat (v * ts) 1000000))
      let m' : MoveInHand := if v = 0 then { m with speed := 0 } else { m with prog := prog, speed := v }
      let cand := if v = 0 then p else pathPoint m.start target prog m.dist
      let e := committed .stopping s.env m' cand
      (e.pln.pos ≠ cand → gives (strikes e)) ∧
      (e.pln.pos = cand →
        (v = 0 → m.phase ≠ .abandoned →
          gives (holds s.fcu.cause (some { m with phase := .suspended, speed := 0, stepFlag := false }) e)) ∧
        (v = 0 → m.phase = .abandoned → gives (holds s.fcu.cause none e)) ∧
        (v ≠ 0 → prog = m.dist →
          gives (holds s.fcu.cause none
            (if m.phase ≠ .abandoned ∧ m.move.notifyDone = true then moveNotice .moveDone m.move e else e))) ∧
        (v ≠ 0 → prog ≠ m.dist → gives e))

/-- MRK at a servo event. In HOLD, TRACK, STICK, STREAM and STOPPING it examines the committed position: every marker's
inside flag becomes whether the position lies inside it, and each armed marker whose flag was clear and now is set has
MARKER_ENTERED sent, in slot order; a HOLD_AT_END marker so entered by a TRACK sample makes the hold pending. In the other
flight states no marker changes. Hold-pending is kept while the flight state stands, and cleared on entry into HOLD and by
a trip. -/
def Obligations.MarkersExamined : Prop :=
  let examined : FlightState → Prop := fun f => f = .hold ∨ f = .track ∨ f = .stick ∨ f = .stream ∨ f = .stopping
  let entered : State → Vec3 → Fin 4 → Bool := fun s p i => match s.mrk.markers.get i with
    | some m => m.spec.armed && !m.inside && insideMarker m.spec p
    | none => false
  let holdsAtEnd : State → Fin 4 → Bool := fun s i => match s.mrk.markers.get i with
    | some m => m.spec.holdAtEnd
    | none => false
  let slots : List (Fin 4) := [0, 1, 2, 3]
  let pends : State → Vec3 → Bool := fun s p => slots.any fun i => entered s p i && holdsAtEnd s i
  let notices : State → Vec3 → List Handed := fun s p =>
    (slots.filter (entered s p)).map fun i => ⟨.subscribers .cue, .notice .markerEntered (BitVec.ofNat 8 i.val)⟩
  let tells : Handed → Bool := fun h => match h.msg with
    | .notice .markerEntered _ => true
    | _ => false
  (∀ (flight : FlightState) (p : Vec3) (s : State),
    (¬ examined flight → examineMarkers flight p s = s) ∧
    (examined flight →
      examineMarkers flight p s =
        { s with
          mrk :=
            ⟨s.mrk.markers.map (Option.map fun m => { m with inside := insideMarker m.spec p }),
              s.mrk.holdPending || (decide (flight = .track) && pends s p)⟩
          link := { s.link with handed := s.link.handed ++ notices s p } })) ∧
  ∀ (s : State), s.link.handed = [] → s.fru.nextEvent ≠ none → ∃ u t, exec .servoEvent s = .next t ∧ t = deliver u ∧
    (¬ examined s.fcu.flight → t.mrk.markers = s.mrk.markers ∧ u.link.handed.filter tells = []) ∧
    (examined s.fcu.flight →
      t.mrk.markers =
        s.mrk.markers.map (Option.map fun m => { m with inside := insideMarker m.spec t.pln.pos }) ∧
      u.link.handed.filter tells = notices s t.pln.pos) ∧
    (s.fcu.flight = .track → t.fcu.flight = .track →
      t.mrk.holdPending = (s.mrk.holdPending || pends s t.pln.pos)) ∧
    (s.fcu.flight ≠ .track → t.fcu.flight = s.fcu.flight → t.mrk.holdPending = s.mrk.holdPending) ∧
    (t.fcu.flight ≠ s.fcu.flight → (t.fcu.flight = .hold ∨ t.fcu.flight = .tripped) → t.mrk.holdPending = false)

/-- An edge of the frame reference, at the later of its instant and the present time; timers fall with the time passed
(log 3). In FREE_RUN it starts an acquisition; in ACQUIRING an interval within N·Ts/200 of N·Ts is good and counts to 4,
and any other starts again; the fourth good one locks by a jump in PARKED and TRIPPED, with REFERENCE_LOCKED detail 0, and
decides a pull elsewhere: the shorter way to the next frame start, or LOCKED at once when that is here. In PULLING an edge
in the window decides again and another one goes back to ACQUIRING; in LOCKED an edge in the window is a frame start and
one outside changes nothing but the time (log 12). A frame start by an edge is one servo event, counted, with its
FRAME_POSE, the one that exhausts the count among them, which leaves FREE_RUN and no last reference instant (deduced, log
13); its snapshot carries the reference state after the edge's effects, so LOCKED at a lock reached by a jump there
(deduced, log 14); an edge that raises one of its own does all that a servo event of frame index 0 timed at its instant
does: the sample, the drive frames, the snapshot. Where the edge coincides with the latest servo event (log 11), that event is the
frame start: nothing more is raised if it was one, and else it becomes one, the channels and the planner standing as they
are unless a PRIMED stream starts there in HOLD, whose sample then takes the hold sample's place. With the count exhausted
every edge is ignored. -/
def Obligations.EdgeByReferenceState : Prop :=
  (∀ (s : State) (t : Nat),
    let now := max s.fru.now t
    let gone := now - s.fru.now
    let left : Option Nat → Option Nat := fun o => o.map fun n => n - gone
    advanceTo t s =
      { s with
        pln := { s.pln with stick := { s.pln.stick with timer := left s.pln.stick.timer } }
        ch := { s.ch with chans := s.ch.chans.map fun c => { c with timer := left c.timer } }
        link := { s.link with gapTimer := left s.link.gapTimer }
        fru := { s.fru with now := now } }) ∧
  (∀ f : Fru,
    (∀ due, f.nextEvent = some due → f.horizon = max f.now due) ∧
    ∀ last, f.nextEvent = none → f.lastRef = some last →
      f.horizon = max f.now (last + f.timing.n * f.timing.ts + f.timing.n * f.timing.ts / 200)) ∧
  ∀ (s : State) (t : Nat), s.link.handed = [] →
    let now := max s.fru.now t
    let a := advanceTo t s
    let f := a.fru
    let period := f.timing.n * f.timing.ts
    let near : Nat → Prop := fun last =>
      last + period ≤ now + period / 200 ∧ now ≤ last + period + period / 200
    let gives : State → Prop := fun u => exec (.referenceEdge t) s = .next u
    let ahead := (f.nextEvent.getD now - now) + (if f.frameIndex = 0 then 0 else f.timing.n - f.frameIndex) * f.timing.ts
    let phase := if period ≤ ahead then ahead - period else ahead
    let pulls : Fru → State → Prop := fun g u =>
      (phase = 0 → u =
        deliver (notice .referenceLocked 1
          { a with fru := { g with ref := .locked, miss := 0, pullDir := none, pullLeft := 0 } })) ∧
      (0 < phase → 2 * phase ≤ period →
        u = { a with fru := { g with ref := .pulling, pullDir := some .shorten, pullLeft := phase } }) ∧
      (period < 2 * phase →
        u = { a with fru := { g with ref := .pulling, pullDir := some .lengthen, pullLeft := period - phase } })
    let coincides := now = f.lastServo ∧ 0 < f.frames
    let framed : State → Prop := fun v =>
      v.fru.now = now ∧ v.fru.lastServo = now ∧ v.fru.frames = f.frames + 1 ∧
        (f.frames + 1 < 4294967295 →
          v.fru.lastRef = some now ∧ v.fru.ref = .locked ∧ v.fru.miss = 0 ∧ v.fru.frameIndex = 1 % f.timing.n ∧
            v.fru.nextEvent = if 1 % f.timing.n = 0 then none else some (now + f.timing.ts)) ∧
        (f.frames + 1 = 4294967295 →
          v.fru.lastRef = none ∧ v.fru.ref = .freeRun ∧ v.fru.miss = 0 ∧ v.fru.frameIndex = 1 ∧
            v.fru.nextEvent = some (now + f.timing.ts)) ∧
        v.fru.snapshot.frames = v.fru.frames ∧ v.fru.snapshot.ref = v.fru.ref ∧
        v.fru.snapshot.pos = commandedPosition v ∧ v.link = { a.link with handed := v.link.handed } ∧
        (⟨.framePose, .framePose v.fru.snapshot⟩ : Handed) ∈ v.link.handed
    let own : State := { s with
      fru := { s.fru with ref := .locked, frameIndex := 0, nextEvent := some t, lastRef := some now, miss := 0 } }
    let stands : State → Prop := fun v => v.fcu = a.fcu ∧ v.pln = a.pln ∧ v.mrk = a.mrk ∧ v.ch = a.ch ∧ v.flt = a.flt
    (4294967295 ≤ f.frames → gives a) ∧
    (f.frames < 4294967295 →
      (f.ref = .freeRun → gives { a with fru := { f with ref := .acquiring, lastRef := some now, good := 0 } }) ∧
      (∀ last, f.ref = .acquiring → f.lastRef = some last →
        (¬ near last → gives { a with fru := { f with lastRef := some now, good := 0 } }) ∧
        (near last → f.good < 3 → gives { a with fru := { f with lastRef := some now, good := f.good + 1 } }) ∧
        (near last → f.good = 3 → s.fcu.flight ≠ .parked → s.fcu.flight ≠ .tripped →
          ∃ u, gives u ∧ pulls { f with lastRef := some now, good := 4 } u) ∧
        (near last → f.good = 3 → (s.fcu.flight = .parked ∨ s.fcu.flight = .tripped) →
          (coincides → f.frameIndex = 1 →
            gives (deliver (notice .referenceLocked 0
              { a with fru := { f with ref := .locked, lastRef := some now, good := 4, miss := 0 } }))) ∧
          ((coincides → f.frameIndex ≠ 1) → ∃ v, gives (deliver v) ∧ framed v ∧
            (⟨.subscribers .timing, .notice .referenceLocked 0⟩ : Handed) ∈ v.link.handed ∧ (coincides → stands v) ∧
            (¬ coincides → ∃ u, exec .servoEvent own = .next u ∧ v.fcu = u.fcu ∧ v.pln = u.pln ∧ v.env = u.env ∧
              v.mrk = u.mrk ∧ v.ch = u.ch ∧ v.flt = u.flt ∧ v.sto = u.sto ∧ v.fru.snapshot = u.fru.snapshot)))) ∧
      (∀ last, f.ref = .pulling → f.lastRef = some last →
        (near last → ∃ u, gives u ∧ pulls { f with lastRef := some now } u) ∧
        (¬ near last →
          gives { a with
            fru := { f with ref := .acquiring, lastRef := some now, good := 0, pullDir := none, pullLeft := 0 } })) ∧
      (∀ last, f.ref = .locked → f.lastRef = some last →
        (¬ near last → gives a) ∧
        (near last →
          (¬ coincides → exec (.referenceEdge t) s = exec .servoEvent own) ∧
          (coincides → f.frameIndex = 1 → gives { a with fru := { f with lastRef := some now, miss := 0 } }) ∧
          ((coincides → f.frameIndex ≠ 1) → ∃ v, gives (deliver v) ∧ framed v ∧
            let p := planSample true { a with fru := { f with lastRef := some now, miss := 0, frames := f.frames + 1 } }
            let plays := s.fcu.flight = .hold ∧ s.pln.stream.state = .primed ∧ s.pln.stream.startFrame = f.frames + 1
            (coincides → ¬ plays → stands v) ∧
            (coincides → plays →
              v.fcu = p.fcu ∧ v.pln = p.pln ∧ v.env = p.env ∧ v.mrk = p.mrk ∧ v.flt = p.flt ∧
                v.ch =
                  { p.ch with
                    chans := p.ch.chans.map fun k =>
                      { k with
                        sent := k.sent.map fun g => match g.kind with
                          | .setpoint _ => { g with kind := .setpoint k.newest }
                          | _ => g } }) ∧
            (¬ coincides →
              (∀ w,
                (s.chan w).sent = none ∨ (s.chan w).answered = true ∨ (s.chan w).miss ≠ 2 ∨ (s.chan w).state = .absent) →
              v.fcu = p.fcu ∧ v.pln = p.pln ∧ v.env = p.env ∧ v.mrk = p.mrk ∧ v.flt = p.flt)))))

/-- Silence. Two frame periods after the last reference instant an acquisition ends in FREE_RUN without a flag, and a pull
in FREE_RUN with REFERENCE_LOST. The close of a window without an edge, N·Ts/200 after the edge was due, moves the
reference instant on by N·Ts, counts a miss and raises a synthetic frame start; the second miss loses the lock with
REFERENCE_LOST. That frame start is in full the servo event of frame index 0 timed at that close: its sample, its drive
frames, its snapshot and its FRAME_POSE, which after the second miss read FREE_RUN (deduced: the reference state after all
that the close does, log 14). The frame start that exhausts the count leaves FREE_RUN with it (deduced, log 13). The present time never goes back, timers fall with it, and nothing comes
at an instant that lies beyond FRU's next event (log 3); an instant that has passed, as that of the window before a late
pull, is taken at the present time (log 28). In other reference states there is no such event (log 2). -/
def Obligations.SilenceAndWindowClose : Prop :=
  (∀ (s : State) (last : Nat), s.link.handed = [] → s.fru.lastRef = some last →
    let period := s.fru.timing.n * s.fru.timing.ts
    let silent := last + 2 * period
    let a := advanceTo silent s
    (s.fru.ref = .acquiring → silent ≤ s.fru.horizon →
      exec .acquireSilenceTimeout s =
        .next { a with fru := { a.fru with ref := .freeRun, lastRef := none, good := 0 } }) ∧
    (s.fru.ref = .pulling → silent ≤ s.fru.horizon →
      exec .pullSilenceTimeout s =
        .next (deliver (report .referenceLost 0 none { a with
          fru :=
            { a.fru with ref := .freeRun, lastRef := none, good := 0, miss := 0, pullDir := none, pullLeft := 0 } }))) ∧
    (s.fru.horizon < silent → exec .acquireSilenceTimeout s = .next s ∧ exec .pullSilenceTimeout s = .next s) ∧
    (s.fru.ref = .locked → s.fru.horizon < last + period + period / 200 → exec .windowClose s = .next s) ∧
    (s.fru.ref = .locked → last + period + period / 200 ≤ s.fru.horizon → ∃ t, exec .windowClose s = .next t ∧
      let close := max s.fru.now (last + period + period / 200)
      let next := 1 % s.fru.timing.n
      let frame : State := { s with
        fru :=
          { s.fru with
            frameIndex := 0, nextEvent := some close, lastRef := some (last + period), miss := s.fru.miss + 1 } }
      (s.fru.miss = 0 → exec .servoEvent frame = .next t) ∧
      (1 ≤ s.fru.miss → ∃ u v, exec .servoEvent frame = .next u ∧ t = deliver v ∧
        v.fcu = u.fcu ∧ v.pln = u.pln ∧ v.env = u.env ∧ v.mrk = u.mrk ∧ v.ch = u.ch ∧ v.sto = u.sto ∧
        v.flt = (report .referenceLost 0 none u).flt ∧ v.fru.snapshot = { u.fru.snapshot with ref := .freeRun } ∧
        (⟨.framePose, .framePose v.fru.snapshot⟩ : Handed) ∈ v.link.handed ∧
        ((s.flag .referenceLost).set = false →
          (⟨.subscribers .timing, .notice .referenceLost 0⟩ : Handed) ∈ v.link.handed)) ∧
      t.fru.now = close ∧ t.fru.lastServo = close ∧
        (s.fru.frames < 4294967295 → t.fru.frames = s.fru.frames + 1) ∧
        (s.fru.frames + 1 < 4294967295 →
          t.fru.frameIndex = next ∧
          (s.fru.miss = 0 →
            t.fru.ref = .locked ∧ t.fru.miss = 1 ∧ t.fru.lastRef = some (last + period) ∧
              t.fru.nextEvent = if next = 0 then none else some (close + s.fru.timing.ts)) ∧
          (1 ≤ s.fru.miss →
            t.fru.ref = .freeRun ∧ t.fru.miss = 0 ∧ t.fru.lastRef = none ∧ (t.flag .referenceLost).set = true ∧
              t.fru.nextEvent = some (close + s.fru.timing.ts))) ∧
        (4294967295 ≤ s.fru.frames + 1 →
          t.fru.ref = .freeRun ∧ t.fru.frameIndex = 1 ∧ t.fru.nextEvent = some (close + s.fru.timing.ts)))) ∧
  ∀ s : State, s.link.handed = [] →
    (s.fru.ref ≠ .acquiring → exec .acquireSilenceTimeout s = .next s) ∧
    (s.fru.ref ≠ .pulling → exec .pullSilenceTimeout s = .next s) ∧
    (s.fru.ref ≠ .locked → exec .windowClose s = .next s)

/-! ## Winch channels -/

/-- An answer on a drive link. One that is no frame, fails its check, names no drive state, echoes another number, comes
before the first frame (deduced, log 21), in a period answered already or while a restart waits is a bad frame: counted,
and at the sixteenth FEEDBACK_ERRORS is one occurrence. A valid one is taken as the last answer; a drive that reports
FAULTED faults its channel with DRIVE_FAULT; a drive found again, left its fault, ready, released, braked or starting
moves its channel by the table of its state, with CHANNEL_LOST where the part had asked something of it. That a READY
channel of a setting operation, done already, moves so too and the operation goes on is the model's choice (log 32). -/
def Obligations.DriveAnswersByState : Prop :=
  ∀ (s : State) (w : Winch) (bytes : List Byte),
    let c := s.chan w
    let n := winchNumber w
    let command : Instr := .driveAnswer w bytes
    let valid : AnswerFields → Prop := fun a =>
      answerOf bytes = some a ∧ (∃ f, c.sent = some f ∧ a.echo = f.seq) ∧ c.answered = false ∧ c.restartPending = false
    ((∀ a, ¬ valid a) →
      let u := s.onChan w fun k => { k with badFrames := if k.badFrames < 65535 then k.badFrames + 1 else 65535 }
      exec command s = .next (deliver (if c.badFrames = 15 then report .feedbackErrors n none u else u))) ∧
    ∀ a, valid a →
      let taken : Channel :=
        { c with last := ⟨some a.drive, a.lengthValid, a.length, a.tension⟩, answered := true, miss := 0 }
      let calm : Channel := { taken with slackCount := 0, overCount := 0, followCount := 0, warning := false }
      let becomes : Channel → State := fun k => s.onChan w fun _ => k
      let absent := becomes { calm with state := .absent, timer := none }
      let ready := becomes { calm with state := .ready, timer := none }
      let braking := becomes { calm with state := .braking, timer := some 500000 }
      let lost : State → State := report .channelLost n none
      let gives : State → Prop := fun u => exec command s = .next (deliver (watchChannels u))
      (a.drive = .faulted → c.state ≠ .faulted →
        gives (report .driveFault n none (becomes { calm with state := .faulted, timer := none }))) ∧
      (a.drive = .faulted → c.state = .faulted → gives (becomes taken)) ∧
      ((c.state = .absent ∨ c.state = .faulted) →
        (a.drive = .braked → gives (notice .drivePresent n ready)) ∧
        (a.drive = .released → gives (notice .drivePresent n braking)) ∧
        (a.drive = .starting → gives (if c.state = .absent then becomes taken else absent))) ∧
      (c.state = .ready →
        (a.drive = .braked → gives (becomes taken)) ∧ (a.drive = .released → gives braking) ∧
        (a.drive = .starting → gives (notice .driveAbsent n absent))) ∧
      (c.state = .releasing →
        (a.drive = .braked → gives (becomes taken)) ∧
        (a.drive = .released → gives (becomes { calm with state := .streaming, timer := none })) ∧
        (a.drive = .starting → gives (lost absent))) ∧
      (c.state = .streaming → (a.drive = .braked → gives (lost ready)) ∧ (a.drive = .starting → gives (lost absent))) ∧
      (c.state = .braking →
        (a.drive = .braked → gives ready) ∧ (a.drive = .released → gives (becomes taken)) ∧
        (a.drive = .starting → gives (lost absent))) ∧
      (c.state = .setting →
        (a.drive = .starting → gives (lost absent)) ∧
        (a.drive = .released ∨ (a.drive = .braked ∧ (a.lengthValid = false ∨ a.length ≠ c.requested)) →
          gives (becomes taken)) ∧
        (a.drive = .braked → a.lengthValid = true → a.length = c.requested → gives (settleSetting ready)))

/-- The streaming checks of a RELEASED answer in STREAMING: the slack count to 2 sets SLACK, the overtension count to 2
OVERTENSION and the following count to 3 FOLLOWING, each count at 0 again on an answer within its limit; a tension outside
the warning band is the live warning, whose start is one occurrence of TENSION_WARN. That the answer to a frame which was
no SETPOINT is compared with the newest setpoint is the model's choice (log 16), and so is TENSION_WARN before the TRIP
flags of the same answer (log 7). Then FCU watches the channels: ARMING ends in HOLD with ARMED when all four stream, and
PARKING in PARKED with PARKED and the pose stored when all four are ready. -/
def Obligations.StreamingChecksAndHandshakes : Prop :=
  (∀ (s : State) (w : Winch) (bytes : List Byte) (a : AnswerFields) (f : DriveFrame),
    let c := s.chan w
    let n := winchNumber w
    answerOf bytes = some a → c.sent = some f → a.echo = f.seq → c.answered = false → c.restartPending = false →
    c.state = .streaming → a.drive = .released →
    let echoed : Nat := match f.kind with
      | .setpoint length => length
      | _ => c.newest
    let slack := if a.tension < c.limits.tmin then c.slackCount + 1 else 0
    let tight := if c.limits.tmax < a.tension then c.overCount + 1 else 0
    let behind :=
      if a.lengthValid = false ∨ 1000 * c.limits.following < ((echoed : Int) - a.length).natAbs then c.followCount + 1
      else 0
    let warning := decide (a.tension < c.limits.twarnLo ∨ c.limits.twarnHi < a.tension)
    let u0 := s.onChan w fun _ =>
      { c with
        last := ⟨some a.drive, a.lengthValid, a.length, a.tension⟩, answered := true, miss := 0, slackCount := slack,
        overCount := tight, followCount := behind, warning := warning }
    let u1 := if warning = true ∧ c.warning = false then report .tensionWarn n none u0 else u0
    let u2 := if slack = 2 then report .slack n none u1 else u1
    let u3 := if tight = 2 then report .overtension n none u2 else u2
    let u4 := if behind = 3 then report .following n none u3 else u3
    exec (.driveAnswer w bytes) s = .next (deliver (watchChannels u4))) ∧
  ∀ s : State,
    (s.fcu.flight = .arming → (∀ w, (s.chan w).state = .streaming) →
      watchChannels s = notice .armed 0 { s with
        fcu := { s.fcu with flight := .hold, cause := .armed }
        pln := { s.pln with holdPos := s.pln.pos, vel := Vec3.zero }
        mrk := { s.mrk with holdPending := false } }) ∧
    (s.fcu.flight = .parking → (∀ w, (s.chan w).state = .ready) →
      watchChannels s = notice .parked 0
        (requestPoseWrite { s with
          fcu := { s.fcu with flight := .parked, pose := ⟨s.pln.holdPos, true, .park⟩ } })) ∧
    ((s.fcu.flight ≠ .arming ∨ ∃ w, (s.chan w).state ≠ .streaming) →
      (s.fcu.flight ≠ .parking ∨ ∃ w, (s.chan w).state ≠ .ready) → watchChannels s = s)

/-- The timeouts of a channel, each at the present time plus the time its timer has left. A release timeout is one
occurrence of ARM_TIMEOUT, and in ARMING ends the arming: PARKING, a brake request to every channel and ARM_FAILED. A
brake timeout is one occurrence of CHANNEL_LOST and runs again. A set timeout is one occurrence of SETTING_TIMEOUT and
fails the setting operation: its channels READY, the retained pose not valid and stored, REFERENCE_FAILED. Where its timer
does not run in its state there is no such event (log 2), nor while FRU's next event comes before that instant (log 3). -/
def Obligations.ChannelTimeouts : Prop :=
  (∀ (s : State) (w : Winch) (left : Nat), (s.chan w).timer = some left → s.fru.now + left ≤ s.fru.horizon →
    let n := winchNumber w
    let a := advanceTo (s.fru.now + left) s
    ((s.chan w).state = .releasing →
      let u := report .armTimeout n none (a.onChan w fun k => { k with timer := none })
      (s.fcu.flight ≠ .arming → exec (.releaseTimeout w) s = .next (deliver u)) ∧
      (s.fcu.flight = .arming →
        exec (.releaseTimeout w) s =
          .next (deliver (notice .armFailed n { u with
            fcu := { s.fcu with flight := .parking }
            pln := { a.pln with vel := Vec3.zero }
            ch :=
              { u.ch with
                chans := u.ch.chans.map fun k =>
                  if k.state = .releasing ∨ k.state = .streaming then
                    { k with
                      state := .braking, timer := some 500000, slackCount := 0, overCount := 0, followCount := 0,
                      warning := false }
                  else k } })))) ∧
    ((s.chan w).state = .braking →
      exec (.brakeTimeout w) s =
        .next (deliver (report .channelLost n none (a.onChan w fun k => { k with timer := some 500000 })))) ∧
    ((s.chan w).state = .setting →
      let u := report .settingTimeout n none a
      exec (.setTimeout w) s =
        .next (deliver (notice .referenceFailed n (requestPoseWrite { u with
          fcu := { s.fcu with pose := { s.fcu.pose with valid := false } }
          ch :=
            { chans := a.ch.chans.map fun k => if k.state = .setting then { k with state := .ready, timer := none } else k
              op := { s.ch.op with kind := .noSetting } } }))))) ∧
  ∀ (s : State) (w : Winch), s.link.handed = [] →
    let beyond := ∀ left, (s.chan w).timer = some left → s.fru.horizon < s.fru.now + left
    ((beyond ∨ (s.chan w).state ≠ .releasing) → exec (.releaseTimeout w) s = .next s) ∧
    ((beyond ∨ (s.chan w).state ≠ .braking) → exec (.brakeTimeout w) s = .next s) ∧
    ((beyond ∨ (s.chan w).state ≠ .setting) → exec (.setTimeout w) s = .next s)

/-- The setting operations. REFERENCE sends every channel the length of the home point, and DECLARE_POSE the length of its
point to the channels whose length is not valid; with none of those it completes at once. Completion takes the point into
the retained pose, stored, with the inside flags at it and REFERENCE_DONE. RESTART_DRIVE takes the named channel to ABSENT
with a restart waiting and its length not valid. Each is refused by its first failing check; the order of RESTART_DRIVE's
is the model's choice (log 31). -/
def Obligations.SettingOperations : Prop :=
  let starts : State → SettingKind → Vec3 → Quad Bool → State → State := fun s kind point involved a =>
    { a with
      ch :=
        { chans :=
            (s.ch.chans.zip s.sol.anchors fun c anchor =>
              { c with state := .setting, requested := setpointAt anchor point, timer := some 500000 }).zip
              (s.ch.chans.zip involved fun c i => (c, i)) fun set old => if old.2 then set else old.1
          op := ⟨kind, point, involved⟩ } }
  let refuses : State → Seat → Instr → ErrorCode → Nat → Prop := fun s seat c code detail =>
    exec c s = .next (s.refused seat code detail)
  let underWay : State → Prop := fun s => s.sto.save ≠ .idle ∨ s.ch.op.kind ≠ .noSetting
  let idle : State → Nat := fun s => winchBits (s.ch.chans.map fun c => decide (c.state ≠ .ready))
  (∀ (s : State) (seat : Seat) (d0 d1 : Byte), s.takesRecord ⟨seat, 0x1B, [d0, d1]⟩ →
    let refused := refuses s seat (.reference seat d0 d1)
    let home := toMicrons s.sol.home
    (s.fcu.flight ≠ .parked → refused .wrongState 0) ∧
    (s.fcu.flight = .parked → underWay s → refused .busy 0) ∧
    (s.fcu.flight = .parked → ¬ underWay s →
      (s.sol.homeValid = false → refused .badValue 0) ∧
      (s.sol.homeValid = true →
        (∀ slot, s.env.blockedAt home = some slot → refused .homeBlocked slot) ∧
        (s.env.blockedAt home = none →
          (idle s ≠ 0 → refused .channelNotReady (idle s)) ∧
          (idle s = 0 →
            exec (.reference seat d0 d1) s =
              .next (starts s .reference home ⟨true, true, true, true⟩ (s.acked seat 0x1B 0))))))) ∧
  (∀ (s : State) (seat : Seat) (p : List Byte), s.takesRecord ⟨seat, 0x2D, p⟩ →
    let refused := refuses s seat (.declarePose seat p)
    let mm := vecAt p 0 4
    let point := toMicrons mm
    let lost : Quad Bool := s.ch.chans.map fun c => !c.last.lengthValid
    let far := winchBits (s.ch.chans.zip s.sol.anchors fun c anchor =>
      c.last.lengthValid &&
        decide (1000 * s.env.limits.poseTol < ((c.last.length : Int) - setpointAt anchor point).natAbs))
    (s.fcu.flight ≠ .parked → refused .wrongState 0) ∧
    (s.fcu.flight = .parked → underWay s → refused .busy 0) ∧
    (s.fcu.flight = .parked → ¬ underWay s →
      (legalPositionMm mm = false → refused .badValue 0) ∧
      (legalPositionMm mm = true →
        (s.env.boxValid = false → refused .noWorkspace 0) ∧
        (s.env.boxValid = true →
          (inBox s.env.shrunk point = false → refused .poseBlocked 0xFF) ∧
          (∀ slot, inBox s.env.shrunk point = true → s.env.blockedAt point = some slot → refused .poseBlocked slot) ∧
          (s.env.free point = true →
            (idle s ≠ 0 → refused .channelNotReady (idle s)) ∧
            (idle s = 0 →
              (1 < lost.toList.count true → refused .notReferenced (winchBits lost)) ∧
              (lost.toList.count true ≤ 1 →
                (far ≠ 0 → refused .poseMismatch far) ∧
                (far = 0 →
                  let a := s.acked seat 0x2D 0
                  (lost.toList.count true = 1 →
                    exec (.declarePose seat p) s = .next (starts s .declare point lost a)) ∧
                  (lost.toList.count true = 0 →
                    exec (.declarePose seat p) s =
                      .next (deliver (completeSetting { a with
                        ch := { s.ch with op := ⟨.declare, point, lost⟩ } }))))))))))) ∧
  (∀ s : State,
    let done := s.ch.op.kind ≠ .noSetting ∧ ∀ w, (s.chan w).state ≠ .setting
    (¬ done → settleSetting s = s) ∧ (done → settleSetting s = completeSetting s) ∧
    (let declared := s.ch.op.kind = .declare
     let point := s.ch.op.point
     let u := requestPoseWrite { s with
       fcu := { s.fcu with pose := ⟨point, true, if declared then .declare else .reference⟩ } }
     completeSetting s =
       notice .referenceDone (if declared then 1 else 0) { u with
         mrk :=
           { s.mrk with
             markers := s.mrk.markers.map (Option.map fun m => { m with inside := insideMarker m.spec point }) }
         ch := { s.ch with op := { s.ch.op with kind := .noSetting } } })) ∧
  ∀ (s : State) (seat : Seat) (d0 d1 : Byte), s.takesRecord ⟨seat, 0x1C, [d0, d1]⟩ →
    let refused := refuses s seat (.restartDrive seat d0 d1)
    let open' := s.fcu.flight = .parked ∨ s.fcu.flight = .tripped
    (¬ open' → refused .wrongState 0) ∧
    (open' → s.ch.op.kind ≠ .noSetting → refused .busy 0) ∧
    (open' → s.ch.op.kind = .noSetting →
      ((d0.toNat = 0 ∨ 4 < d0.toNat) → refused .badValue 0) ∧
      ∀ w, winchNumber w = d0.toNat →
        exec (.restartDrive seat d0 d1) s =
          .next ((s.acked seat 0x1C 0).onChan w fun c =>
            { c with
              state := .absent, timer := none, miss := 0, slackCount := 0, overCount := 0, followCount := 0,
              warning := false, restartPending := true, last := { c.last with lengthValid := false } }))

/-! ## The settings store -/

/-- SAVE_SETTINGS in PARKED, with no save and no setting operation in progress, copies the whole working copy and begins
its writing, or waits for a pose write in progress, which one whose turn has come then is; RESET_PART in PARKED is
acknowledged, and then LINK neither receives nor decodes and the part reset waits for the ACK to leave. A waiting save
begins once the pose write has ended; one that reads back stands in the image, clears settings-defaulted and sends
SAVE_DONE 0; one that does not sends SAVE_DONE 1 and leaves the image as it was, of a bad check, or whole; and once
SAVE_DONE is sent a waiting pose write begins. At a command of its own one begins when neither a save nor another write
is in progress, with the record as it stands, and at its end the image holds what it wrote; one asked for begins at once
then, and else waits, one at most. That a save, and a pose write that waited for another pose write, begin at commands
of their own, and that a SAVE_SETTINGS before such a command lets the pose write begin first, is the model's choice (log
20), as are what a failed write leaves (log 5) and SAVE_SETTINGS's WRONG_STATE before BUSY (log 31). Elsewhere there is no such event (log 2). -/
def Obligations.StoreWrites : Prop :=
  (∀ s : State,
    let waits := s.sto.save ≠ .idle ∨ s.sto.poseWriting ≠ none ∨ s.sto.poseWaiting = true
    (waits → requestPoseWrite s = { s with sto := { s.sto with poseWaiting := true } }) ∧
    (¬ waits → requestPoseWrite s = { s with sto := { s.sto with poseWriting := some s.fcu.pose } })) ∧
  (∀ (s : State) (seat : Seat) (d0 d1 : Byte), s.takesRecord ⟨seat, 0x1D, [d0, d1]⟩ →
    let copy : Settings :=
      { anchors := s.sol.anchors, home := s.sol.home, box := s.env.box, limits := s.env.limits, timing := s.fru.timing,
        chLimits := s.ch.chans.map Channel.limits, zones := s.env.zones,
        markers := s.mrk.markers.map (Option.map Marker.spec) }
    (s.fcu.flight ≠ .parked → exec (.saveSettings seat d0 d1) s = .next (s.refused seat .wrongState 0)) ∧
    (s.fcu.flight = .parked → (s.sto.save ≠ .idle ∨ s.ch.op.kind ≠ .noSetting) →
      exec (.saveSettings seat d0 d1) s = .next (s.refused seat .busy 0)) ∧
    (s.fcu.flight = .parked → s.sto.save = .idle → s.ch.op.kind = .noSetting →
      exec (.saveSettings seat d0 d1) s =
        .next { s.acked seat 0x1D 0 with
          sto :=
            if s.sto.poseWriting = none ∧ s.sto.poseWaiting = true then
              { s.sto with poseWriting := some s.fcu.pose, poseWaiting := false, save := .waiting copy }
            else { s.sto with save := if s.sto.poseWriting = none then .writing copy else .waiting copy } })) ∧
  (∀ (s : State) (seat : Seat) (d0 d1 : Byte), s.takesRecord ⟨seat, 0x1E, [d0, d1]⟩ →
    let a := s.acked seat 0x1E 0
    (s.fcu.flight ≠ .parked → exec (.resetPart seat d0 d1) s = .next (s.refused seat .wrongState 0)) ∧
    (s.fcu.flight = .parked →
      exec (.resetPart seat d0 d1) s =
        .next { a with link := { a.link with resetPhase := .ackQueued (s.link.tx.length + 1) } })) ∧
  ∀ s : State, s.link.handed = [] →
    let ended : Sto → Sto := fun sto =>
      if s.sto.poseWaiting = true ∧ s.sto.poseWriting = none then
        { sto with save := .idle, poseWriting := some s.fcu.pose, poseWaiting := false }
      else { sto with save := .idle }
    (∀ copy, s.sto.save = .waiting copy → s.sto.poseWriting = none →
      exec .saveWriteStart s = .next { s with sto := { s.sto with save := .writing copy } }) ∧
    ((∀ copy, s.sto.save = .waiting copy → s.sto.poseWriting ≠ none) → exec .saveWriteStart s = .next s) ∧
    (∀ copy, s.sto.save = .writing copy →
      exec (.saveWriteEnd true) s =
        .next (deliver (notice .saveDone 0
          { s with sto := ended { s.sto with settingsImage := some copy, defaulted := false } })) ∧
      ∃ image, imageLeft s.sto.settingsImage (some copy) image ∧
        exec (.saveWriteEnd false) s =
          .next (deliver (notice .saveDone 1
            { s with sto := ended { s.sto with settingsImage := image }, freeCount := s.freeCount + 1 }))) ∧
    ((∀ copy, s.sto.save ≠ .writing copy) → ∀ ok, exec (.saveWriteEnd ok) s = .next s) ∧
    (let begins := s.sto.poseWaiting = true ∧ s.sto.save = .idle ∧ s.sto.poseWriting = none
     (begins →
       exec .poseWriteStart s =
         .next { s with sto := { s.sto with poseWriting := some s.fcu.pose, poseWaiting := false } }) ∧
     (¬ begins → exec .poseWriteStart s = .next s)) ∧
    (∀ pose, s.sto.poseWriting = some pose →
      exec .poseWriteEnd s = .next { s with sto := { s.sto with poseImage := some pose, poseWriting := none } }) ∧
    (s.sto.poseWriting = none → exec .poseWriteEnd s = .next s)

/-! ## The laws, kept by every step -/

/-- The queues keep their bounds: 64 records to send, 8 to decode, 32 moves (the third law). -/
def Obligations.QueueBoundsKept : Prop :=
  ∀ s t : State, linkBounds s → queueLaw s → step s = .next t → linkBounds t ∧ queueLaw t

/-- The fourth law: the stream buffer holds at most 64 samples, in consecutive index order up to E. And a stream plays or
plays out only in STREAM. -/
def Obligations.StreamLawKept : Prop :=
  ∀ s t : State, step s = .next t → (streamLaw s → streamLaw t) ∧ (streamFlight s → streamFlight t)

/-- The fifth law's second part and the seventh law: in PARKED and TRIPPED, and in PARKING as well, no channel is
RELEASING or STREAMING; a setting operation is in progress only in PARKED, and a channel is SETTING only while one
involves it. -/
def Obligations.ChannelLawsKept : Prop :=
  ∀ s t : State, streamFlight s → brakeLaw s → settingLaw s → step s = .next t → brakeLaw t ∧ settingLaw t

/-- The first law: in every state that produces samples the commanded position lies in the shrunk workspace and outside
every active inflated KEEP_OUT zone. -/
def Obligations.PositionLawKept : Prop :=
  ∀ s t : State, streamFlight s → positionLaw s → step s = .next t → positionLaw t

/-- The second law: every setpoint a drive is sent carries a paid-out length within its winch's limits, plus the run
offset. It stands on an invariant: a workspace marked valid passes the acceptance check, and it is valid in every state
that produces samples; with the first law's free position, inside the workspace, and no channel streaming where none is
produced. -/
def Obligations.SetpointLawKept : Prop :=
  (∀ s t : State, streamFlight s → workspaceLaw s → step s = .next t → workspaceLaw t) ∧
  ∀ (c : Instr) (s t : State), workspaceLaw s → positionLaw s → brakeLaw s → streamFlight s → exec c s = .next t →
    ∀ w length, (t.chan w).sendsSetpoint length → (t.chan w).sent ≠ (s.chan w).sent →
      let a := s.sol.anchors.get (winchIndex w)
      ∃ paid : Nat, length = paid + (1000 * a.run).toNat ∧ 1000 * a.lmin ≤ paid ∧ (paid : Int) ≤ 1000 * a.lmax

/-- The sixth law: no axis speed and no path speed exceeds vmax. -/
def Obligations.SpeedLawKept : Prop := ∀ s t : State, streamFlight s → speedLaw s → step s = .next t → speedLaw t

/-- The tenth law: while a TRIP flag is set the flight state is TRIPPED. -/
def Obligations.TripLawKept : Prop := ∀ s t : State, streamFlight s → tripLaw s → step s = .next t → tripLaw t
end

