-- ==== Sys2Proof/Laws/Clock.lean ====
section
/-! SUPPORT. What the present time and an expiry can do, each said once: the blocks that time leaves alone, and an expiry by
the instant at which it comes. -/

namespace Sys2Proof.Machine

open Sys2Proof

@[simp] theorem advanceTo_fcu (t : Nat) (s : State) : (advanceTo t s).fcu = s.fcu := rfl
@[simp] theorem advanceTo_env (t : Nat) (s : State) : (advanceTo t s).env = s.env := rfl
@[simp] theorem advanceTo_sol (t : Nat) (s : State) : (advanceTo t s).sol = s.sol := rfl
@[simp] theorem advanceTo_mrk (t : Nat) (s : State) : (advanceTo t s).mrk = s.mrk := rfl
@[simp] theorem advanceTo_flt (t : Nat) (s : State) : (advanceTo t s).flt = s.flt := rfl
@[simp] theorem advanceTo_sto (t : Nat) (s : State) : (advanceTo t s).sto = s.sto := rfl
@[simp] theorem advanceTo_freeCount (t : Nat) (s : State) : (advanceTo t s).freeCount = s.freeCount := rfl
@[simp] theorem advanceTo_pending (t : Nat) (s : State) : (advanceTo t s).pending = s.pending := rfl
@[simp] theorem advanceTo_handed (t : Nat) (s : State) : (advanceTo t s).link.handed = s.link.handed := rfl
@[simp] theorem advanceTo_tx (t : Nat) (s : State) : (advanceTo t s).link.tx = s.link.tx := rfl
@[simp] theorem advanceTo_decodeQueue (t : Nat) (s : State) : (advanceTo t s).link.decodeQueue = s.link.decodeQueue := rfl
@[simp] theorem advanceTo_masks (t : Nat) (s : State) : (advanceTo t s).link.masks = s.link.masks := rfl
@[simp] theorem advanceTo_queue (t : Nat) (s : State) : (advanceTo t s).pln.queue = s.pln.queue := rfl
@[simp] theorem advanceTo_inHand (t : Nat) (s : State) : (advanceTo t s).pln.inHand = s.pln.inHand := rfl
@[simp] theorem advanceTo_stream (t : Nat) (s : State) : (advanceTo t s).pln.stream = s.pln.stream := rfl
@[simp] theorem advanceTo_pos (t : Nat) (s : State) : (advanceTo t s).pln.pos = s.pln.pos := rfl
@[simp] theorem advanceTo_vel (t : Nat) (s : State) : (advanceTo t s).pln.vel = s.pln.vel := rfl
@[simp] theorem advanceTo_holdPos (t : Nat) (s : State) : (advanceTo t s).pln.holdPos = s.pln.holdPos := rfl
@[simp] theorem advanceTo_stop (t : Nat) (s : State) : (advanceTo t s).pln.stop = s.pln.stop := rfl
@[simp] theorem advanceTo_op (t : Nat) (s : State) : (advanceTo t s).ch.op = s.ch.op := rfl
@[simp] theorem advanceTo_now (t : Nat) (s : State) : (advanceTo t s).fru.now = max s.fru.now t := rfl

/-- Advancing the time changes FRU's present time alone. -/
theorem advanceTo_fru (t : Nat) (s : State) : (advanceTo t s).fru = { s.fru with now := max s.fru.now t } := rfl

/-- The present time never lies beyond the horizon. -/
theorem now_le_horizon (f : Fru) : f.now ≤ f.horizon := Nat.le_max_left _ _

/-- With a servo event timed, the horizon is its time, or the present time when that is later. -/
theorem horizon_of_timed {f : Fru} {due : Nat} (h : f.nextEvent = some due) : f.horizon = max f.now due := by
  simp [Fru.horizon, h]

/-- An expiry whose instant FRU's next event does not precede happens, at that instant. -/
theorem atInstant_due {t : Nat} {act : State → State} {s : State} (h : t ≤ s.fru.horizon) :
    atInstant t act s = act (advanceTo t s) := if_pos h

/-- An expiry beyond FRU's next event changes nothing. -/
theorem atInstant_beyond {t : Nat} {act : State → State} {s : State} (h : s.fru.horizon < t) : atInstant t act s = s :=
  if_neg (Nat.not_le.mpr h)

@[simp] theorem atExpiry_stopped (act : State → State) (s : State) : atExpiry none act s = s := rfl

@[simp] theorem atExpiry_running (d : Nat) (act : State → State) (s : State) :
    atExpiry (some d) act s = atInstant (s.fru.now + d) act s := rfl

/-- An expiry changes nothing, or acts at the state advanced to one instant: what a proof about any of the timeouts needs. -/
theorem atExpiry_cases (left : Option Nat) (act : State → State) (s : State) :
    atExpiry left act s = s ∨ ∃ t, atExpiry left act s = act (advanceTo t s) := by
  cases left with
  | none => exact Or.inl rfl
  | some d =>
    by_cases h : s.fru.now + d ≤ s.fru.horizon
    · exact Or.inr ⟨_, atInstant_due h⟩
    · exact Or.inl (if_neg h)

end Sys2Proof.Machine
end

