-- ==== Sys2Proof/Laws/Envelope.lean ====
section
/-! SUPPORT. The envelope guard's tests said once: a point in a box axis by axis, and the list of active inflated KEEP_OUT boxes,
its members, its order and its boxes. -/

namespace Sys2Proof.Machine

open Sys2Proof

/-- A point lies in a closed box when it lies in its range on every axis (R33). -/
theorem inBox_iff (b : Box) (p : Vec3) :
    inBox b p = true ↔ ∀ axis, b.lo.get axis ≤ p.get axis ∧ p.get axis ≤ b.hi.get axis := by
  simp only [inBox, Bool.and_eq_true, decide_eq_true_eq]
  constructor
  · intro h a
    cases a <;> simp only [Vec3.get] <;> omega
  · intro h
    have hx := h .x
    have hy := h .y
    have hz := h .z
    simp only [Vec3.get] at *
    omega

/-- A slot's content has an inflated box exactly when it is an active KEEP_OUT zone (R19). -/
theorem keepOutBox_iff (margin : Nat) (o : Option Zone) (b : Box) :
    keepOutBox margin o = some b ↔
      ∃ z, o = some z ∧ z.kind = .keepOut ∧ z.active = true ∧ b = inflatedBox margin z.box := by
  cases o with
  | none => simp [keepOutBox]
  | some z =>
    cases hk : z.kind <;> cases ha : z.active <;> simp [keepOutBox, hk, ha]
    exact ⟨Eq.symm, Eq.symm⟩

/-- The active inflated KEEP_OUT boxes, each with its slot (R19, R35). -/
theorem mem_keepOuts (e : Env) (slot : Nat) (b : Box) :
    (slot, b) ∈ e.keepOuts ↔
      ∃ h : slot < 24, ∃ z, e.zones[slot] = some z ∧ z.kind = .keepOut ∧ z.active = true ∧
        b = inflatedBox e.limits.margin z.box := by
  simp only [Env.keepOuts, List.mem_filterMap, Option.map_eq_some_iff]
  constructor
  · rintro ⟨⟨o, i⟩, hm, b', hb, he⟩
    simp only [Prod.mk.injEq] at he
    obtain ⟨rfl, rfl⟩ := he
    rw [List.mem_zipIdx_iff_getElem?] at hm
    simp only at hm hb
    obtain ⟨hi, ho⟩ := List.getElem?_eq_some_iff.mp hm
    have hi' : i < 24 := by simpa using hi
    have ho' : o = e.zones[i] := by simpa using ho.symm
    rw [ho'] at hb
    exact ⟨hi', (keepOutBox_iff ..).mp hb⟩
  · rintro ⟨h, z, hz⟩
    refine ⟨(e.zones[slot], slot), ?_, b, (keepOutBox_iff ..).mpr ⟨z, hz⟩, rfl⟩
    rw [List.mem_zipIdx_iff_getElem?]
    simp [h]

/-- They stand in slot order, one to a slot (R35). -/
theorem keepOuts_sorted (e : Env) : e.keepOuts.Pairwise fun a b => a.1 < b.1 := by
  unfold Env.keepOuts
  rw [List.pairwise_filterMap]
  have h : e.zones.toList.zipIdx.Pairwise fun a b => a.2 < b.2 := by
    rw [← List.pairwise_map (f := Prod.snd) (R := (· < ·)), List.zipIdx_map_snd,
      show List.range' 0 e.zones.toList.length = List.range e.zones.toList.length by simp [List.range_eq_range']]
    exact List.pairwise_lt_range
  refine h.imp ?_
  intro a b hab c hc d hd
  simp only [Option.map_eq_some_iff] at hc hd
  obtain ⟨_, _, rfl⟩ := hc
  obtain ⟨_, _, rfl⟩ := hd
  exact hab

/-- The boxes alone, as the hard clamp takes them (R40). -/
theorem keepOuts_boxes (e : Env) :
    e.keepOuts.map Prod.snd = e.zones.toList.filterMap (keepOutBox e.limits.margin) := by
  unfold Env.keepOuts
  generalize keepOutBox e.limits.margin = f
  rw [List.map_filterMap]
  have h : ∀ (l : List (Option Zone)) (n : Nat),
      (l.zipIdx n).filterMap (fun x => ((f x.1).map fun b => (x.2, b)).map Prod.snd) = l.filterMap f := by
    intro l
    induction l with
    | nil => intro n; rfl
    | cons a l ih =>
      intro n
      simp only [List.zipIdx_cons, List.filterMap_cons, ih]
      cases f a <;> rfl
  exact h _ 0

end Sys2Proof.Machine
end

