-- ==== Sys2Proof/Laws/State.lean ====
section
/-! SUPPORT. What each block update changes and leaves: one lemma per field of State and per update, all by rfl, so that no
proof unfolds a record update. -/

namespace Sys2Proof.Machine

open Sys2Proof

/-! ## onLink -/

@[simp] theorem State.onLink_link (s : State) (f : Link → Link) : (s.onLink f).link = f s.link := rfl
@[simp] theorem State.onLink_fcu (s : State) (f : Link → Link) : (s.onLink f).fcu = s.fcu := rfl
@[simp] theorem State.onLink_pln (s : State) (f : Link → Link) : (s.onLink f).pln = s.pln := rfl
@[simp] theorem State.onLink_env (s : State) (f : Link → Link) : (s.onLink f).env = s.env := rfl
@[simp] theorem State.onLink_sol (s : State) (f : Link → Link) : (s.onLink f).sol = s.sol := rfl
@[simp] theorem State.onLink_mrk (s : State) (f : Link → Link) : (s.onLink f).mrk = s.mrk := rfl
@[simp] theorem State.onLink_fru (s : State) (f : Link → Link) : (s.onLink f).fru = s.fru := rfl
@[simp] theorem State.onLink_ch (s : State) (f : Link → Link) : (s.onLink f).ch = s.ch := rfl
@[simp] theorem State.onLink_flt (s : State) (f : Link → Link) : (s.onLink f).flt = s.flt := rfl
@[simp] theorem State.onLink_sto (s : State) (f : Link → Link) : (s.onLink f).sto = s.sto := rfl
@[simp] theorem State.onLink_freeCount (s : State) (f : Link → Link) : (s.onLink f).freeCount = s.freeCount := rfl
@[simp] theorem State.onLink_pending (s : State) (f : Link → Link) : (s.onLink f).pending = s.pending := rfl

/-! ## onFcu -/

@[simp] theorem State.onFcu_link (s : State) (f : Fcu → Fcu) : (s.onFcu f).link = s.link := rfl
@[simp] theorem State.onFcu_fcu (s : State) (f : Fcu → Fcu) : (s.onFcu f).fcu = f s.fcu := rfl
@[simp] theorem State.onFcu_pln (s : State) (f : Fcu → Fcu) : (s.onFcu f).pln = s.pln := rfl
@[simp] theorem State.onFcu_env (s : State) (f : Fcu → Fcu) : (s.onFcu f).env = s.env := rfl
@[simp] theorem State.onFcu_sol (s : State) (f : Fcu → Fcu) : (s.onFcu f).sol = s.sol := rfl
@[simp] theorem State.onFcu_mrk (s : State) (f : Fcu → Fcu) : (s.onFcu f).mrk = s.mrk := rfl
@[simp] theorem State.onFcu_fru (s : State) (f : Fcu → Fcu) : (s.onFcu f).fru = s.fru := rfl
@[simp] theorem State.onFcu_ch (s : State) (f : Fcu → Fcu) : (s.onFcu f).ch = s.ch := rfl
@[simp] theorem State.onFcu_flt (s : State) (f : Fcu → Fcu) : (s.onFcu f).flt = s.flt := rfl
@[simp] theorem State.onFcu_sto (s : State) (f : Fcu → Fcu) : (s.onFcu f).sto = s.sto := rfl
@[simp] theorem State.onFcu_freeCount (s : State) (f : Fcu → Fcu) : (s.onFcu f).freeCount = s.freeCount := rfl
@[simp] theorem State.onFcu_pending (s : State) (f : Fcu → Fcu) : (s.onFcu f).pending = s.pending := rfl

/-! ## onPln -/

@[simp] theorem State.onPln_link (s : State) (f : Pln → Pln) : (s.onPln f).link = s.link := rfl
@[simp] theorem State.onPln_fcu (s : State) (f : Pln → Pln) : (s.onPln f).fcu = s.fcu := rfl
@[simp] theorem State.onPln_pln (s : State) (f : Pln → Pln) : (s.onPln f).pln = f s.pln := rfl
@[simp] theorem State.onPln_env (s : State) (f : Pln → Pln) : (s.onPln f).env = s.env := rfl
@[simp] theorem State.onPln_sol (s : State) (f : Pln → Pln) : (s.onPln f).sol = s.sol := rfl
@[simp] theorem State.onPln_mrk (s : State) (f : Pln → Pln) : (s.onPln f).mrk = s.mrk := rfl
@[simp] theorem State.onPln_fru (s : State) (f : Pln → Pln) : (s.onPln f).fru = s.fru := rfl
@[simp] theorem State.onPln_ch (s : State) (f : Pln → Pln) : (s.onPln f).ch = s.ch := rfl
@[simp] theorem State.onPln_flt (s : State) (f : Pln → Pln) : (s.onPln f).flt = s.flt := rfl
@[simp] theorem State.onPln_sto (s : State) (f : Pln → Pln) : (s.onPln f).sto = s.sto := rfl
@[simp] theorem State.onPln_freeCount (s : State) (f : Pln → Pln) : (s.onPln f).freeCount = s.freeCount := rfl
@[simp] theorem State.onPln_pending (s : State) (f : Pln → Pln) : (s.onPln f).pending = s.pending := rfl

/-! ## onEnv -/

@[simp] theorem State.onEnv_link (s : State) (f : Env → Env) : (s.onEnv f).link = s.link := rfl
@[simp] theorem State.onEnv_fcu (s : State) (f : Env → Env) : (s.onEnv f).fcu = s.fcu := rfl
@[simp] theorem State.onEnv_pln (s : State) (f : Env → Env) : (s.onEnv f).pln = s.pln := rfl
@[simp] theorem State.onEnv_env (s : State) (f : Env → Env) : (s.onEnv f).env = f s.env := rfl
@[simp] theorem State.onEnv_sol (s : State) (f : Env → Env) : (s.onEnv f).sol = s.sol := rfl
@[simp] theorem State.onEnv_mrk (s : State) (f : Env → Env) : (s.onEnv f).mrk = s.mrk := rfl
@[simp] theorem State.onEnv_fru (s : State) (f : Env → Env) : (s.onEnv f).fru = s.fru := rfl
@[simp] theorem State.onEnv_ch (s : State) (f : Env → Env) : (s.onEnv f).ch = s.ch := rfl
@[simp] theorem State.onEnv_flt (s : State) (f : Env → Env) : (s.onEnv f).flt = s.flt := rfl
@[simp] theorem State.onEnv_sto (s : State) (f : Env → Env) : (s.onEnv f).sto = s.sto := rfl
@[simp] theorem State.onEnv_freeCount (s : State) (f : Env → Env) : (s.onEnv f).freeCount = s.freeCount := rfl
@[simp] theorem State.onEnv_pending (s : State) (f : Env → Env) : (s.onEnv f).pending = s.pending := rfl

/-! ## onSol -/

@[simp] theorem State.onSol_link (s : State) (f : Sol → Sol) : (s.onSol f).link = s.link := rfl
@[simp] theorem State.onSol_fcu (s : State) (f : Sol → Sol) : (s.onSol f).fcu = s.fcu := rfl
@[simp] theorem State.onSol_pln (s : State) (f : Sol → Sol) : (s.onSol f).pln = s.pln := rfl
@[simp] theorem State.onSol_env (s : State) (f : Sol → Sol) : (s.onSol f).env = s.env := rfl
@[simp] theorem State.onSol_sol (s : State) (f : Sol → Sol) : (s.onSol f).sol = f s.sol := rfl
@[simp] theorem State.onSol_mrk (s : State) (f : Sol → Sol) : (s.onSol f).mrk = s.mrk := rfl
@[simp] theorem State.onSol_fru (s : State) (f : Sol → Sol) : (s.onSol f).fru = s.fru := rfl
@[simp] theorem State.onSol_ch (s : State) (f : Sol → Sol) : (s.onSol f).ch = s.ch := rfl
@[simp] theorem State.onSol_flt (s : State) (f : Sol → Sol) : (s.onSol f).flt = s.flt := rfl
@[simp] theorem State.onSol_sto (s : State) (f : Sol → Sol) : (s.onSol f).sto = s.sto := rfl
@[simp] theorem State.onSol_freeCount (s : State) (f : Sol → Sol) : (s.onSol f).freeCount = s.freeCount := rfl
@[simp] theorem State.onSol_pending (s : State) (f : Sol → Sol) : (s.onSol f).pending = s.pending := rfl

/-! ## onMrk -/

@[simp] theorem State.onMrk_link (s : State) (f : Mrk → Mrk) : (s.onMrk f).link = s.link := rfl
@[simp] theorem State.onMrk_fcu (s : State) (f : Mrk → Mrk) : (s.onMrk f).fcu = s.fcu := rfl
@[simp] theorem State.onMrk_pln (s : State) (f : Mrk → Mrk) : (s.onMrk f).pln = s.pln := rfl
@[simp] theorem State.onMrk_env (s : State) (f : Mrk → Mrk) : (s.onMrk f).env = s.env := rfl
@[simp] theorem State.onMrk_sol (s : State) (f : Mrk → Mrk) : (s.onMrk f).sol = s.sol := rfl
@[simp] theorem State.onMrk_mrk (s : State) (f : Mrk → Mrk) : (s.onMrk f).mrk = f s.mrk := rfl
@[simp] theorem State.onMrk_fru (s : State) (f : Mrk → Mrk) : (s.onMrk f).fru = s.fru := rfl
@[simp] theorem State.onMrk_ch (s : State) (f : Mrk → Mrk) : (s.onMrk f).ch = s.ch := rfl
@[simp] theorem State.onMrk_flt (s : State) (f : Mrk → Mrk) : (s.onMrk f).flt = s.flt := rfl
@[simp] theorem State.onMrk_sto (s : State) (f : Mrk → Mrk) : (s.onMrk f).sto = s.sto := rfl
@[simp] theorem State.onMrk_freeCount (s : State) (f : Mrk → Mrk) : (s.onMrk f).freeCount = s.freeCount := rfl
@[simp] theorem State.onMrk_pending (s : State) (f : Mrk → Mrk) : (s.onMrk f).pending = s.pending := rfl

/-! ## onFru -/

@[simp] theorem State.onFru_link (s : State) (f : Fru → Fru) : (s.onFru f).link = s.link := rfl
@[simp] theorem State.onFru_fcu (s : State) (f : Fru → Fru) : (s.onFru f).fcu = s.fcu := rfl
@[simp] theorem State.onFru_pln (s : State) (f : Fru → Fru) : (s.onFru f).pln = s.pln := rfl
@[simp] theorem State.onFru_env (s : State) (f : Fru → Fru) : (s.onFru f).env = s.env := rfl
@[simp] theorem State.onFru_sol (s : State) (f : Fru → Fru) : (s.onFru f).sol = s.sol := rfl
@[simp] theorem State.onFru_mrk (s : State) (f : Fru → Fru) : (s.onFru f).mrk = s.mrk := rfl
@[simp] theorem State.onFru_fru (s : State) (f : Fru → Fru) : (s.onFru f).fru = f s.fru := rfl
@[simp] theorem State.onFru_ch (s : State) (f : Fru → Fru) : (s.onFru f).ch = s.ch := rfl
@[simp] theorem State.onFru_flt (s : State) (f : Fru → Fru) : (s.onFru f).flt = s.flt := rfl
@[simp] theorem State.onFru_sto (s : State) (f : Fru → Fru) : (s.onFru f).sto = s.sto := rfl
@[simp] theorem State.onFru_freeCount (s : State) (f : Fru → Fru) : (s.onFru f).freeCount = s.freeCount := rfl
@[simp] theorem State.onFru_pending (s : State) (f : Fru → Fru) : (s.onFru f).pending = s.pending := rfl

/-! ## onCh -/

@[simp] theorem State.onCh_link (s : State) (f : Ch → Ch) : (s.onCh f).link = s.link := rfl
@[simp] theorem State.onCh_fcu (s : State) (f : Ch → Ch) : (s.onCh f).fcu = s.fcu := rfl
@[simp] theorem State.onCh_pln (s : State) (f : Ch → Ch) : (s.onCh f).pln = s.pln := rfl
@[simp] theorem State.onCh_env (s : State) (f : Ch → Ch) : (s.onCh f).env = s.env := rfl
@[simp] theorem State.onCh_sol (s : State) (f : Ch → Ch) : (s.onCh f).sol = s.sol := rfl
@[simp] theorem State.onCh_mrk (s : State) (f : Ch → Ch) : (s.onCh f).mrk = s.mrk := rfl
@[simp] theorem State.onCh_fru (s : State) (f : Ch → Ch) : (s.onCh f).fru = s.fru := rfl
@[simp] theorem State.onCh_ch (s : State) (f : Ch → Ch) : (s.onCh f).ch = f s.ch := rfl
@[simp] theorem State.onCh_flt (s : State) (f : Ch → Ch) : (s.onCh f).flt = s.flt := rfl
@[simp] theorem State.onCh_sto (s : State) (f : Ch → Ch) : (s.onCh f).sto = s.sto := rfl
@[simp] theorem State.onCh_freeCount (s : State) (f : Ch → Ch) : (s.onCh f).freeCount = s.freeCount := rfl
@[simp] theorem State.onCh_pending (s : State) (f : Ch → Ch) : (s.onCh f).pending = s.pending := rfl

/-! ## onFlt -/

@[simp] theorem State.onFlt_link (s : State) (f : Flt → Flt) : (s.onFlt f).link = s.link := rfl
@[simp] theorem State.onFlt_fcu (s : State) (f : Flt → Flt) : (s.onFlt f).fcu = s.fcu := rfl
@[simp] theorem State.onFlt_pln (s : State) (f : Flt → Flt) : (s.onFlt f).pln = s.pln := rfl
@[simp] theorem State.onFlt_env (s : State) (f : Flt → Flt) : (s.onFlt f).env = s.env := rfl
@[simp] theorem State.onFlt_sol (s : State) (f : Flt → Flt) : (s.onFlt f).sol = s.sol := rfl
@[simp] theorem State.onFlt_mrk (s : State) (f : Flt → Flt) : (s.onFlt f).mrk = s.mrk := rfl
@[simp] theorem State.onFlt_fru (s : State) (f : Flt → Flt) : (s.onFlt f).fru = s.fru := rfl
@[simp] theorem State.onFlt_ch (s : State) (f : Flt → Flt) : (s.onFlt f).ch = s.ch := rfl
@[simp] theorem State.onFlt_flt (s : State) (f : Flt → Flt) : (s.onFlt f).flt = f s.flt := rfl
@[simp] theorem State.onFlt_sto (s : State) (f : Flt → Flt) : (s.onFlt f).sto = s.sto := rfl
@[simp] theorem State.onFlt_freeCount (s : State) (f : Flt → Flt) : (s.onFlt f).freeCount = s.freeCount := rfl
@[simp] theorem State.onFlt_pending (s : State) (f : Flt → Flt) : (s.onFlt f).pending = s.pending := rfl

/-! ## onSto -/

@[simp] theorem State.onSto_link (s : State) (f : Sto → Sto) : (s.onSto f).link = s.link := rfl
@[simp] theorem State.onSto_fcu (s : State) (f : Sto → Sto) : (s.onSto f).fcu = s.fcu := rfl
@[simp] theorem State.onSto_pln (s : State) (f : Sto → Sto) : (s.onSto f).pln = s.pln := rfl
@[simp] theorem State.onSto_env (s : State) (f : Sto → Sto) : (s.onSto f).env = s.env := rfl
@[simp] theorem State.onSto_sol (s : State) (f : Sto → Sto) : (s.onSto f).sol = s.sol := rfl
@[simp] theorem State.onSto_mrk (s : State) (f : Sto → Sto) : (s.onSto f).mrk = s.mrk := rfl
@[simp] theorem State.onSto_fru (s : State) (f : Sto → Sto) : (s.onSto f).fru = s.fru := rfl
@[simp] theorem State.onSto_ch (s : State) (f : Sto → Sto) : (s.onSto f).ch = s.ch := rfl
@[simp] theorem State.onSto_flt (s : State) (f : Sto → Sto) : (s.onSto f).flt = s.flt := rfl
@[simp] theorem State.onSto_sto (s : State) (f : Sto → Sto) : (s.onSto f).sto = f s.sto := rfl
@[simp] theorem State.onSto_freeCount (s : State) (f : Sto → Sto) : (s.onSto f).freeCount = s.freeCount := rfl
@[simp] theorem State.onSto_pending (s : State) (f : Sto → Sto) : (s.onSto f).pending = s.pending := rfl

/-! ## onChan and onAllChans -/

@[simp] theorem State.onChan_link (s : State) (w : Winch) (f : Channel → Channel) : (s.onChan w f).link = s.link := rfl
@[simp] theorem State.onChan_fcu (s : State) (w : Winch) (f : Channel → Channel) : (s.onChan w f).fcu = s.fcu := rfl
@[simp] theorem State.onChan_pln (s : State) (w : Winch) (f : Channel → Channel) : (s.onChan w f).pln = s.pln := rfl
@[simp] theorem State.onChan_env (s : State) (w : Winch) (f : Channel → Channel) : (s.onChan w f).env = s.env := rfl
@[simp] theorem State.onChan_sol (s : State) (w : Winch) (f : Channel → Channel) : (s.onChan w f).sol = s.sol := rfl
@[simp] theorem State.onChan_mrk (s : State) (w : Winch) (f : Channel → Channel) : (s.onChan w f).mrk = s.mrk := rfl
@[simp] theorem State.onChan_fru (s : State) (w : Winch) (f : Channel → Channel) : (s.onChan w f).fru = s.fru := rfl
@[simp] theorem State.onChan_flt (s : State) (w : Winch) (f : Channel → Channel) : (s.onChan w f).flt = s.flt := rfl
@[simp] theorem State.onChan_sto (s : State) (w : Winch) (f : Channel → Channel) : (s.onChan w f).sto = s.sto := rfl
@[simp] theorem State.onChan_freeCount (s : State) (w : Winch) (f : Channel → Channel) : (s.onChan w f).freeCount = s.freeCount := rfl
@[simp] theorem State.onChan_pending (s : State) (w : Winch) (f : Channel → Channel) : (s.onChan w f).pending = s.pending := rfl
@[simp] theorem onAllChans_link (f : Channel → Channel) (s : State) : (onAllChans f s).link = s.link := rfl
@[simp] theorem onAllChans_fcu (f : Channel → Channel) (s : State) : (onAllChans f s).fcu = s.fcu := rfl
@[simp] theorem onAllChans_pln (f : Channel → Channel) (s : State) : (onAllChans f s).pln = s.pln := rfl
@[simp] theorem onAllChans_env (f : Channel → Channel) (s : State) : (onAllChans f s).env = s.env := rfl
@[simp] theorem onAllChans_sol (f : Channel → Channel) (s : State) : (onAllChans f s).sol = s.sol := rfl
@[simp] theorem onAllChans_mrk (f : Channel → Channel) (s : State) : (onAllChans f s).mrk = s.mrk := rfl
@[simp] theorem onAllChans_fru (f : Channel → Channel) (s : State) : (onAllChans f s).fru = s.fru := rfl
@[simp] theorem onAllChans_flt (f : Channel → Channel) (s : State) : (onAllChans f s).flt = s.flt := rfl
@[simp] theorem onAllChans_sto (f : Channel → Channel) (s : State) : (onAllChans f s).sto = s.sto := rfl
@[simp] theorem onAllChans_freeCount (f : Channel → Channel) (s : State) : (onAllChans f s).freeCount = s.freeCount := rfl
@[simp] theorem onAllChans_pending (f : Channel → Channel) (s : State) : (onAllChans f s).pending = s.pending := rfl
@[simp] theorem State.setFlag_link (s : State) (f : Flag) (e : FlagEntry) : (s.setFlag f e).link = s.link := rfl
@[simp] theorem State.setFlag_fcu (s : State) (f : Flag) (e : FlagEntry) : (s.setFlag f e).fcu = s.fcu := rfl
@[simp] theorem State.setFlag_pln (s : State) (f : Flag) (e : FlagEntry) : (s.setFlag f e).pln = s.pln := rfl
@[simp] theorem State.setFlag_env (s : State) (f : Flag) (e : FlagEntry) : (s.setFlag f e).env = s.env := rfl
@[simp] theorem State.setFlag_sol (s : State) (f : Flag) (e : FlagEntry) : (s.setFlag f e).sol = s.sol := rfl
@[simp] theorem State.setFlag_mrk (s : State) (f : Flag) (e : FlagEntry) : (s.setFlag f e).mrk = s.mrk := rfl
@[simp] theorem State.setFlag_fru (s : State) (f : Flag) (e : FlagEntry) : (s.setFlag f e).fru = s.fru := rfl
@[simp] theorem State.setFlag_ch (s : State) (f : Flag) (e : FlagEntry) : (s.setFlag f e).ch = s.ch := rfl
@[simp] theorem State.setFlag_sto (s : State) (f : Flag) (e : FlagEntry) : (s.setFlag f e).sto = s.sto := rfl
@[simp] theorem State.setFlag_freeCount (s : State) (f : Flag) (e : FlagEntry) : (s.setFlag f e).freeCount = s.freeCount := rfl
@[simp] theorem State.setFlag_pending (s : State) (f : Flag) (e : FlagEntry) : (s.setFlag f e).pending = s.pending := rfl

/-! ## The tables of four -/

@[simp] theorem Quad.get_set {α : Type} (q : Quad α) (i j : Fin 4) (a : α) :
    (q.set i a).get j = if j = i then a else q.get j := by
  match i, j with
  | 0, 0 => rfl
  | 0, 1 => rfl
  | 0, 2 => rfl
  | 0, 3 => rfl
  | 1, 0 => rfl
  | 1, 1 => rfl
  | 1, 2 => rfl
  | 1, 3 => rfl
  | 2, 0 => rfl
  | 2, 1 => rfl
  | 2, 2 => rfl
  | 2, 3 => rfl
  | 3, 0 => rfl
  | 3, 1 => rfl
  | 3, 2 => rfl
  | 3, 3 => rfl

@[simp] theorem Quad.get_map {α β : Type} (q : Quad α) (f : α → β) (i : Fin 4) : (q.map f).get i = f (q.get i) := by
  match i with
  | 0 => rfl
  | 1 => rfl
  | 2 => rfl
  | 3 => rfl

@[simp] theorem Quad.get_zip {α β γ : Type} (q : Quad α) (r : Quad β) (f : α → β → γ) (i : Fin 4) :
    (q.zip r f).get i = f (q.get i) (r.get i) := by
  match i with
  | 0 => rfl
  | 1 => rfl
  | 2 => rfl
  | 3 => rfl

@[simp] theorem Quad.get_fill {α : Type} (a : α) (i : Fin 4) : (Quad.fill a).get i = a := by
  match i with
  | 0 => rfl
  | 1 => rfl
  | 2 => rfl
  | 3 => rfl

/-- Two tables with equal entries are equal. -/
theorem Quad.ext_get {α : Type} {q r : Quad α} (h : ∀ i, q.get i = r.get i) : q = r := by
  cases q
  cases r
  have h0 := h 0
  have h1 := h 1
  have h2 := h 2
  have h3 := h 3
  simp only [Quad.get] at h0 h1 h2 h3
  simp only [h0, h1, h2, h3]

/-- A test met by all four entries is met by each. -/
theorem Quad.all_iff {α : Type} (q : Quad α) (p : α → Bool) : q.all p = true ↔ ∀ i, p (q.get i) = true := by
  constructor
  · intro h i
    simp only [Quad.all, Bool.and_eq_true] at h
    match i with
    | 0 => exact h.1.1.1
    | 1 => exact h.1.1.2
    | 2 => exact h.1.2
    | 3 => exact h.2
  · intro h
    simp only [Quad.all, Bool.and_eq_true]
    exact ⟨⟨⟨h 0, h 1⟩, h 2⟩, h 3⟩

/-- A test met by some entry. -/
theorem Quad.any_iff {α : Type} (q : Quad α) (p : α → Bool) : q.any p = true ↔ ∃ i, p (q.get i) = true := by
  constructor
  · intro h
    simp only [Quad.any, Bool.or_eq_true] at h
    rcases h with ((h | h) | h) | h
    · exact ⟨0, h⟩
    · exact ⟨1, h⟩
    · exact ⟨2, h⟩
    · exact ⟨3, h⟩
  · rintro ⟨i, h⟩
    simp only [Quad.any, Bool.or_eq_true]
    match i with
    | 0 => exact Or.inl (Or.inl (Or.inl h))
    | 1 => exact Or.inl (Or.inl (Or.inr h))
    | 2 => exact Or.inl (Or.inr h)
    | 3 => exact Or.inr h

/-- Every winch is one of the four places. -/
theorem exists_winch (i : Fin 4) : ∃ w, winchIndex w = i := by
  match i with
  | 0 => exact ⟨.w1, rfl⟩
  | 1 => exact ⟨.w2, rfl⟩
  | 2 => exact ⟨.w3, rfl⟩
  | 3 => exact ⟨.w4, rfl⟩

theorem winchIndex_inj {v w : Winch} : winchIndex v = winchIndex w ↔ v = w := by
  cases v <;> cases w <;> decide

/-! ## One channel -/

@[simp] theorem State.chan_onChan (s : State) (v w : Winch) (f : Channel → Channel) :
    (s.onChan w f).chan v = if v = w then f (s.chan w) else s.chan v := by
  simp only [State.chan, State.onChan, State.onCh, Quad.get_set, winchIndex_inj]

@[simp] theorem State.chan_onAllChans (s : State) (w : Winch) (f : Channel → Channel) :
    (onAllChans f s).chan w = f (s.chan w) := by
  simp only [State.chan, onAllChans, State.onCh, Quad.get_map]

@[simp] theorem State.onChan_op (s : State) (w : Winch) (f : Channel → Channel) : (s.onChan w f).ch.op = s.ch.op := rfl

@[simp] theorem onAllChans_op (f : Channel → Channel) (s : State) : (onAllChans f s).ch.op = s.ch.op := rfl

/-! ## One flag -/

theorem Flag.number_inj {f g : Flag} : f.number = g.number ↔ f = g := by
  cases f <;> cases g <;> decide

@[simp] theorem State.flag_setFlag (s : State) (f g : Flag) (e : FlagEntry) :
    (s.setFlag f e).flag g = if g = f then e else s.flag g := by
  simp only [State.flag, State.setFlag, State.onFlt]
  by_cases h : g = f
  · subst h
    simp
  · have hn : f.number.val ≠ g.number.val := fun hv => h (Flag.number_inj.mp (Fin.ext hv.symm))
    simp [h, hn]

@[simp] theorem State.setFlag_trip (s : State) (f : Flag) (e : FlagEntry) : (s.setFlag f e).flt.trip = s.flt.trip := rfl

@[simp] theorem State.setFlag_line (s : State) (f : Flag) (e : FlagEntry) : (s.setFlag f e).flt.line = s.flt.line := rfl

end Sys2Proof.Machine
end

