-- ==== Sys2Proof/Laws/Link.lean ====
section
/-! SUPPORT. LINK's shared operations: what a reply, a notice, the copies, the decode of a record and an owner's answer do,
each said once. -/

namespace Sys2Proof.Machine

open Sys2Proof

/-! ## What LINK's operations leave alone -/

@[simp] theorem reply_fcu (seat : Seat) (m : Message) (s : State) : (reply seat m s).fcu = s.fcu := rfl
@[simp] theorem reply_pln (seat : Seat) (m : Message) (s : State) : (reply seat m s).pln = s.pln := rfl
@[simp] theorem reply_env (seat : Seat) (m : Message) (s : State) : (reply seat m s).env = s.env := rfl
@[simp] theorem reply_sol (seat : Seat) (m : Message) (s : State) : (reply seat m s).sol = s.sol := rfl
@[simp] theorem reply_mrk (seat : Seat) (m : Message) (s : State) : (reply seat m s).mrk = s.mrk := rfl
@[simp] theorem reply_fru (seat : Seat) (m : Message) (s : State) : (reply seat m s).fru = s.fru := rfl
@[simp] theorem reply_ch (seat : Seat) (m : Message) (s : State) : (reply seat m s).ch = s.ch := rfl
@[simp] theorem reply_flt (seat : Seat) (m : Message) (s : State) : (reply seat m s).flt = s.flt := rfl
@[simp] theorem reply_sto (seat : Seat) (m : Message) (s : State) : (reply seat m s).sto = s.sto := rfl
@[simp] theorem reply_freeCount (seat : Seat) (m : Message) (s : State) : (reply seat m s).freeCount = s.freeCount := rfl
@[simp] theorem reply_pending (seat : Seat) (m : Message) (s : State) : (reply seat m s).pending = s.pending := rfl

@[simp] theorem ack_fcu (seat : Seat) (type : BitVec 6) (n : Nat) (s : State) : (ack seat type n s).fcu = s.fcu := rfl
@[simp] theorem ack_pln (seat : Seat) (type : BitVec 6) (n : Nat) (s : State) : (ack seat type n s).pln = s.pln := rfl
@[simp] theorem ack_env (seat : Seat) (type : BitVec 6) (n : Nat) (s : State) : (ack seat type n s).env = s.env := rfl
@[simp] theorem ack_sol (seat : Seat) (type : BitVec 6) (n : Nat) (s : State) : (ack seat type n s).sol = s.sol := rfl
@[simp] theorem ack_mrk (seat : Seat) (type : BitVec 6) (n : Nat) (s : State) : (ack seat type n s).mrk = s.mrk := rfl
@[simp] theorem ack_fru (seat : Seat) (type : BitVec 6) (n : Nat) (s : State) : (ack seat type n s).fru = s.fru := rfl
@[simp] theorem ack_ch (seat : Seat) (type : BitVec 6) (n : Nat) (s : State) : (ack seat type n s).ch = s.ch := rfl
@[simp] theorem ack_flt (seat : Seat) (type : BitVec 6) (n : Nat) (s : State) : (ack seat type n s).flt = s.flt := rfl
@[simp] theorem ack_sto (seat : Seat) (type : BitVec 6) (n : Nat) (s : State) : (ack seat type n s).sto = s.sto := rfl
@[simp] theorem ack_freeCount (seat : Seat) (type : BitVec 6) (n : Nat) (s : State) : (ack seat type n s).freeCount = s.freeCount := rfl
@[simp] theorem ack_pending (seat : Seat) (type : BitVec 6) (n : Nat) (s : State) : (ack seat type n s).pending = s.pending := rfl

@[simp] theorem refuse_fcu (seat : Seat) (c : ErrorCode) (n : Nat) (s : State) : (refuse seat c n s).fcu = s.fcu := rfl
@[simp] theorem refuse_pln (seat : Seat) (c : ErrorCode) (n : Nat) (s : State) : (refuse seat c n s).pln = s.pln := rfl
@[simp] theorem refuse_env (seat : Seat) (c : ErrorCode) (n : Nat) (s : State) : (refuse seat c n s).env = s.env := rfl
@[simp] theorem refuse_sol (seat : Seat) (c : ErrorCode) (n : Nat) (s : State) : (refuse seat c n s).sol = s.sol := rfl
@[simp] theorem refuse_mrk (seat : Seat) (c : ErrorCode) (n : Nat) (s : State) : (refuse seat c n s).mrk = s.mrk := rfl
@[simp] theorem refuse_fru (seat : Seat) (c : ErrorCode) (n : Nat) (s : State) : (refuse seat c n s).fru = s.fru := rfl
@[simp] theorem refuse_ch (seat : Seat) (c : ErrorCode) (n : Nat) (s : State) : (refuse seat c n s).ch = s.ch := rfl
@[simp] theorem refuse_flt (seat : Seat) (c : ErrorCode) (n : Nat) (s : State) : (refuse seat c n s).flt = s.flt := rfl
@[simp] theorem refuse_sto (seat : Seat) (c : ErrorCode) (n : Nat) (s : State) : (refuse seat c n s).sto = s.sto := rfl
@[simp] theorem refuse_freeCount (seat : Seat) (c : ErrorCode) (n : Nat) (s : State) : (refuse seat c n s).freeCount = s.freeCount := rfl
@[simp] theorem refuse_pending (seat : Seat) (c : ErrorCode) (n : Nat) (s : State) : (refuse seat c n s).pending = s.pending := rfl

@[simp] theorem handOver_fcu (a : Audience) (m : Message) (s : State) : (handOver a m s).fcu = s.fcu := rfl
@[simp] theorem handOver_pln (a : Audience) (m : Message) (s : State) : (handOver a m s).pln = s.pln := rfl
@[simp] theorem handOver_env (a : Audience) (m : Message) (s : State) : (handOver a m s).env = s.env := rfl
@[simp] theorem handOver_sol (a : Audience) (m : Message) (s : State) : (handOver a m s).sol = s.sol := rfl
@[simp] theorem handOver_mrk (a : Audience) (m : Message) (s : State) : (handOver a m s).mrk = s.mrk := rfl
@[simp] theorem handOver_fru (a : Audience) (m : Message) (s : State) : (handOver a m s).fru = s.fru := rfl
@[simp] theorem handOver_ch (a : Audience) (m : Message) (s : State) : (handOver a m s).ch = s.ch := rfl
@[simp] theorem handOver_flt (a : Audience) (m : Message) (s : State) : (handOver a m s).flt = s.flt := rfl
@[simp] theorem handOver_sto (a : Audience) (m : Message) (s : State) : (handOver a m s).sto = s.sto := rfl
@[simp] theorem handOver_freeCount (a : Audience) (m : Message) (s : State) : (handOver a m s).freeCount = s.freeCount := rfl
@[simp] theorem handOver_pending (a : Audience) (m : Message) (s : State) : (handOver a m s).pending = s.pending := rfl

@[simp] theorem notice_fcu (c : NoticeCode) (n : Nat) (s : State) : (notice c n s).fcu = s.fcu := rfl
@[simp] theorem notice_pln (c : NoticeCode) (n : Nat) (s : State) : (notice c n s).pln = s.pln := rfl
@[simp] theorem notice_env (c : NoticeCode) (n : Nat) (s : State) : (notice c n s).env = s.env := rfl
@[simp] theorem notice_sol (c : NoticeCode) (n : Nat) (s : State) : (notice c n s).sol = s.sol := rfl
@[simp] theorem notice_mrk (c : NoticeCode) (n : Nat) (s : State) : (notice c n s).mrk = s.mrk := rfl
@[simp] theorem notice_fru (c : NoticeCode) (n : Nat) (s : State) : (notice c n s).fru = s.fru := rfl
@[simp] theorem notice_ch (c : NoticeCode) (n : Nat) (s : State) : (notice c n s).ch = s.ch := rfl
@[simp] theorem notice_flt (c : NoticeCode) (n : Nat) (s : State) : (notice c n s).flt = s.flt := rfl
@[simp] theorem notice_sto (c : NoticeCode) (n : Nat) (s : State) : (notice c n s).sto = s.sto := rfl
@[simp] theorem notice_freeCount (c : NoticeCode) (n : Nat) (s : State) : (notice c n s).freeCount = s.freeCount := rfl
@[simp] theorem notice_pending (c : NoticeCode) (n : Nat) (s : State) : (notice c n s).pending = s.pending := rfl

@[simp] theorem moveNotice_fcu (c : NoticeCode) (m : Move) (s : State) : (moveNotice c m s).fcu = s.fcu := rfl
@[simp] theorem moveNotice_pln (c : NoticeCode) (m : Move) (s : State) : (moveNotice c m s).pln = s.pln := rfl
@[simp] theorem moveNotice_env (c : NoticeCode) (m : Move) (s : State) : (moveNotice c m s).env = s.env := rfl
@[simp] theorem moveNotice_sol (c : NoticeCode) (m : Move) (s : State) : (moveNotice c m s).sol = s.sol := rfl
@[simp] theorem moveNotice_mrk (c : NoticeCode) (m : Move) (s : State) : (moveNotice c m s).mrk = s.mrk := rfl
@[simp] theorem moveNotice_fru (c : NoticeCode) (m : Move) (s : State) : (moveNotice c m s).fru = s.fru := rfl
@[simp] theorem moveNotice_ch (c : NoticeCode) (m : Move) (s : State) : (moveNotice c m s).ch = s.ch := rfl
@[simp] theorem moveNotice_flt (c : NoticeCode) (m : Move) (s : State) : (moveNotice c m s).flt = s.flt := rfl
@[simp] theorem moveNotice_sto (c : NoticeCode) (m : Move) (s : State) : (moveNotice c m s).sto = s.sto := rfl
@[simp] theorem moveNotice_freeCount (c : NoticeCode) (m : Move) (s : State) : (moveNotice c m s).freeCount = s.freeCount := rfl
@[simp] theorem moveNotice_pending (c : NoticeCode) (m : Move) (s : State) : (moveNotice c m s).pending = s.pending := rfl

@[simp] theorem deliver_fcu (s : State) : (deliver s).fcu = s.fcu := rfl
@[simp] theorem deliver_pln (s : State) : (deliver s).pln = s.pln := rfl
@[simp] theorem deliver_env (s : State) : (deliver s).env = s.env := rfl
@[simp] theorem deliver_sol (s : State) : (deliver s).sol = s.sol := rfl
@[simp] theorem deliver_mrk (s : State) : (deliver s).mrk = s.mrk := rfl
@[simp] theorem deliver_fru (s : State) : (deliver s).fru = s.fru := rfl
@[simp] theorem deliver_ch (s : State) : (deliver s).ch = s.ch := rfl
@[simp] theorem deliver_flt (s : State) : (deliver s).flt = s.flt := rfl
@[simp] theorem deliver_sto (s : State) : (deliver s).sto = s.sto := rfl
@[simp] theorem deliver_freeCount (s : State) : (deliver s).freeCount = s.freeCount := rfl
@[simp] theorem deliver_pending (s : State) : (deliver s).pending = s.pending := rfl

@[simp] theorem State.afterDecode_fcu (s : State) : (s.afterDecode).fcu = s.fcu := rfl
@[simp] theorem State.afterDecode_pln (s : State) : (s.afterDecode).pln = s.pln := rfl
@[simp] theorem State.afterDecode_env (s : State) : (s.afterDecode).env = s.env := rfl
@[simp] theorem State.afterDecode_sol (s : State) : (s.afterDecode).sol = s.sol := rfl
@[simp] theorem State.afterDecode_mrk (s : State) : (s.afterDecode).mrk = s.mrk := rfl
@[simp] theorem State.afterDecode_fru (s : State) : (s.afterDecode).fru = s.fru := rfl
@[simp] theorem State.afterDecode_ch (s : State) : (s.afterDecode).ch = s.ch := rfl
@[simp] theorem State.afterDecode_flt (s : State) : (s.afterDecode).flt = s.flt := rfl
@[simp] theorem State.afterDecode_sto (s : State) : (s.afterDecode).sto = s.sto := rfl
@[simp] theorem State.afterDecode_freeCount (s : State) : (s.afterDecode).freeCount = s.freeCount := rfl
@[simp] theorem State.afterDecode_pending (s : State) : (s.afterDecode).pending = s.pending := rfl

/-! ## Replies and notices -/

theorem ack_eq (seat : Seat) (type : BitVec 6) (n : Nat) (s : State) :
    ack seat type n s = reply seat (.ack type (BitVec.ofNat 8 n)) s := rfl

theorem refuse_eq (seat : Seat) (c : ErrorCode) (n : Nat) (s : State) :
    refuse seat c n s = reply seat (.errorReport c (BitVec.ofNat 8 n)) s := rfl

@[simp] theorem reply_tx (seat : Seat) (m : Message) (s : State) : (reply seat m s).link.tx = s.link.tx ++ [⟨seat, m⟩] := rfl

@[simp] theorem reply_handed (seat : Seat) (m : Message) (s : State) : (reply seat m s).link.handed = s.link.handed := rfl

@[simp] theorem reply_decodeQueue (seat : Seat) (m : Message) (s : State) :
    (reply seat m s).link.decodeQueue = s.link.decodeQueue := rfl

@[simp] theorem reply_resetPhase (seat : Seat) (m : Message) (s : State) :
    (reply seat m s).link.resetPhase = s.link.resetPhase := rfl

@[simp] theorem ack_handed (seat : Seat) (type : BitVec 6) (n : Nat) (s : State) :
    (ack seat type n s).link.handed = s.link.handed := rfl

@[simp] theorem refuse_handed (seat : Seat) (c : ErrorCode) (n : Nat) (s : State) :
    (refuse seat c n s).link.handed = s.link.handed := rfl

@[simp] theorem handOver_handed (a : Audience) (m : Message) (s : State) :
    (handOver a m s).link.handed = s.link.handed ++ [⟨a, m⟩] := rfl

@[simp] theorem handOver_tx (a : Audience) (m : Message) (s : State) : (handOver a m s).link.tx = s.link.tx := rfl

@[simp] theorem notice_tx (c : NoticeCode) (n : Nat) (s : State) : (notice c n s).link.tx = s.link.tx := rfl

@[simp] theorem moveNotice_tx (c : NoticeCode) (m : Move) (s : State) : (moveNotice c m s).link.tx = s.link.tx := rfl

@[simp] theorem handOver_decodeQueue (a : Audience) (m : Message) (s : State) :
    (handOver a m s).link.decodeQueue = s.link.decodeQueue := rfl

@[simp] theorem notice_decodeQueue (c : NoticeCode) (n : Nat) (s : State) :
    (notice c n s).link.decodeQueue = s.link.decodeQueue := rfl

@[simp] theorem moveNotice_decodeQueue (c : NoticeCode) (m : Move) (s : State) :
    (moveNotice c m s).link.decodeQueue = s.link.decodeQueue := rfl

/-! ## The copies -/

@[simp] theorem State.onLink_self (s : State) : s.onLink (fun l => l) = s := rfl

/-- With nothing handed over, the end of a command changes nothing. -/
theorem deliver_of_none {s : State} (h : s.link.handed = []) : deliver s = s := by
  rcases s with ⟨⟨strap, asm, gap, dq, tx, masks, ctr, phase, handed⟩, fcu, pln, env, sol, mrk, fru, ch, flt, sto, n, p⟩
  simp only at h
  subst h
  rfl

theorem done_of_none {s : State} (h : s.link.handed = []) : done s = .next s := by
  rw [done, deliver_of_none h]

@[simp] theorem deliver_handed (s : State) : (deliver s).link.handed = [] := rfl

/-- What the copying of notices leaves of LINK: all but the transmit queue and the dropped-notice counter. -/
structure Link.SameButCopies (l m : Link) : Prop where
  strap : m.strap = l.strap
  assembler : m.assembler = l.assembler
  gapTimer : m.gapTimer = l.gapTimer
  decodeQueue : m.decodeQueue = l.decodeQueue
  masks : m.masks = l.masks
  resetPhase : m.resetPhase = l.resetPhase
  handed : m.handed = l.handed

theorem Link.SameButCopies.rfl' (l : Link) : l.SameButCopies l := ⟨rfl, rfl, rfl, rfl, rfl, rfl, rfl⟩

theorem Link.SameButCopies.trans' {l m n : Link} (h : l.SameButCopies m) (k : m.SameButCopies n) : l.SameButCopies n :=
  ⟨k.strap.trans h.strap, k.assembler.trans h.assembler, k.gapTimer.trans h.gapTimer, k.decodeQueue.trans h.decodeQueue,
    k.masks.trans h.masks, k.resetPhase.trans h.resetPhase, k.handed.trans h.handed⟩

theorem copyTo_same (msg : Message) (l : Link) (seat : Seat) : l.SameButCopies (copyTo msg l seat) := by
  unfold copyTo
  split <;> exact ⟨rfl, rfl, rfl, rfl, rfl, rfl, rfl⟩

theorem copyAll_same (msg : Message) (seats : List Seat) (l : Link) : l.SameButCopies (seats.foldl (copyTo msg) l) := by
  induction seats generalizing l with
  | nil => exact .rfl' l
  | cons seat rest ih => exact (copyTo_same msg l seat).trans' (ih _)

theorem copyNotice_same (l : Link) (h : Handed) : l.SameButCopies (copyNotice l h) := copyAll_same _ _ l

theorem copyNotices_same (hs : List Handed) (l : Link) : l.SameButCopies (hs.foldl copyNotice l) := by
  induction hs generalizing l with
  | nil => exact .rfl' l
  | cons h rest ih => exact (copyNotice_same l h).trans' (ih _)

@[simp] theorem deliver_decodeQueue (s : State) : (deliver s).link.decodeQueue = s.link.decodeQueue :=
  (copyNotices_same s.link.handed s.link).decodeQueue

@[simp] theorem deliver_resetPhase (s : State) : (deliver s).link.resetPhase = s.link.resetPhase :=
  (copyNotices_same s.link.handed s.link).resetPhase

@[simp] theorem deliver_masks (s : State) : (deliver s).link.masks = s.link.masks :=
  (copyNotices_same s.link.handed s.link).masks

/-- A copy never lengthens a queue beyond 48, and never shortens it. -/
theorem copyTo_length (msg : Message) (l : Link) (seat : Seat) :
    (copyTo msg l seat).tx.length ≤ max l.tx.length noticeCapacity := by
  unfold copyTo
  split
  · simp only [List.length_append, List.length_cons, List.length_nil]
    omega
  · exact Nat.le_max_left _ _

theorem copyNotices_length (hs : List Handed) (l : Link) :
    (hs.foldl copyNotice l).tx.length ≤ max l.tx.length noticeCapacity := by
  induction hs generalizing l with
  | nil => exact Nat.le_max_left _ _
  | cons h rest ih =>
    have step : ∀ (seats : List Seat) (l : Link),
        (seats.foldl (copyTo h.msg) l).tx.length ≤ max l.tx.length noticeCapacity := by
      intro seats
      induction seats with
      | nil => exact fun l => Nat.le_max_left _ _
      | cons seat rest ih2 =>
        intro l
        have h1 := copyTo_length h.msg l seat
        have h2 := ih2 (copyTo h.msg l seat)
        simp only [List.foldl_cons]
        omega
    have h1 := step (allSeats.filter (wanted l.masks h.audience)) l
    have h2 := ih (copyNotice l h)
    simp only [List.foldl_cons]
    unfold copyNotice at h2 ⊢
    omega

theorem deliver_tx_length (s : State) : (deliver s).link.tx.length ≤ max s.link.tx.length noticeCapacity :=
  copyNotices_length s.link.handed s.link

/-- The copies are added at the end of the transmit queue, each of a message that was handed over. -/
theorem copyNotices_tx (hs : List Handed) (l : Link) :
    ∃ added, (hs.foldl copyNotice l).tx = l.tx ++ added ∧ ∀ x ∈ added, ∃ h ∈ hs, x.msg = h.msg := by
  induction hs generalizing l with
  | nil => exact ⟨[], by simp, by simp⟩
  | cons h rest ih =>
    have step : ∀ (seats : List Seat) (l : Link),
        ∃ added, (seats.foldl (copyTo h.msg) l).tx = l.tx ++ added ∧ ∀ x ∈ added, x.msg = h.msg := by
      intro seats
      induction seats with
      | nil => exact fun l => ⟨[], by simp, by simp⟩
      | cons seat rest ih2 =>
        intro l
        obtain ⟨a, ha, hm⟩ := ih2 (copyTo h.msg l seat)
        simp only [List.foldl_cons]
        by_cases hc : l.tx.length < noticeCapacity
        · refine ⟨⟨seat, h.msg⟩ :: a, ?_, ?_⟩
          · rw [ha]
            simp [copyTo, hc]
          · simpa using hm
        · exact ⟨a, by rw [ha]; simp [copyTo, hc], hm⟩
    obtain ⟨a, ha, hm⟩ := step (allSeats.filter (wanted l.masks h.audience)) l
    obtain ⟨b, hb, hn⟩ := ih (copyNotice l h)
    refine ⟨a ++ b, ?_, ?_⟩
    · simp only [List.foldl_cons]
      rw [hb, copyNotice, ha, List.append_assoc]
    · intro x hx
      rcases List.mem_append.mp hx with hx | hx
      · exact ⟨h, by simp, hm x hx⟩
      · obtain ⟨k, hk, hx⟩ := hn x hx
        exact ⟨k, by simp [hk], hx⟩

theorem deliver_tx (s : State) :
    ∃ added, (deliver s).link.tx = s.link.tx ++ added ∧ ∀ x ∈ added, ∃ h ∈ s.link.handed, x.msg = h.msg :=
  copyNotices_tx s.link.handed s.link

/-! ## Decoding -/

@[simp] theorem afterDecode_tx (s : State) : s.afterDecode.link.tx = s.link.tx := rfl

@[simp] theorem afterDecode_handed (s : State) : s.afterDecode.link.handed = s.link.handed := rfl

@[simp] theorem afterDecode_resetPhase (s : State) : s.afterDecode.link.resetPhase = s.link.resetPhase := rfl

@[simp] theorem afterDecode_decodeQueue (s : State) : s.afterDecode.link.decodeQueue = s.link.decodeQueue.tail := rfl

theorem State.afterDecode_of_none {s : State} (h : s.link.decodeQueue = []) : s.afterDecode = s := by
  rcases s with ⟨⟨strap, asm, gap, dq, tx, masks, ctr, phase, handed⟩, fcu, pln, env, sol, mrk, fru, ch, flt, sto, n, p⟩
  simp only at h
  subst h
  rfl

/-- A record decoded now is acted on with the record gone from the decode queue. -/
theorem decodeRecord_now {r : Record} {s : State} (h : s.decodesNow r) (act : State → State) :
    decodeRecord r act s = act s.afterDecode := by
  obtain ⟨hp, ht, hq, _⟩ := h
  have ht' : ¬ txCapacity ≤ s.link.tx.length := by omega
  unfold decodeRecord
  rw [if_neg (by simp [hp]), if_neg ht']
  rcases hq with hq | hq
  · rw [hq]
    simp only
    rw [State.afterDecode_of_none hq]
  · cases hd : s.link.decodeQueue with
    | nil =>
      rw [hd] at hq
      simp at hq
    | cons head rest =>
      rw [hd] at hq
      simp only [List.head?_cons, Option.some.injEq] at hq
      simp only [hq, if_true]
      congr 1
      simp only [State.afterDecode, State.onLink, hd, List.tail_cons]

/-- Either a record is decoded now or its act does not run: LINK waits with it. -/
theorem decodeRecord_cases (r : Record) (act : State → State) (s : State) :
    decodeRecord r act s = s ∨ decodeRecord r act s = awaitDecode r s ∨
      (s.link.resetPhase = .running ∧ s.link.tx.length < txCapacity ∧ decodeRecord r act s = act s.afterDecode) := by
  unfold decodeRecord
  by_cases hp : s.link.resetPhase = .running
  · by_cases ht : txCapacity ≤ s.link.tx.length
    · exact Or.inr (Or.inl (by simp [hp, ht]))
    · rw [if_neg (by simp [hp]), if_neg ht]
      cases hd : s.link.decodeQueue with
      | nil => exact Or.inr (Or.inr ⟨hp, by omega, by simp only [State.afterDecode_of_none hd]⟩)
      | cons head rest =>
        simp only
        by_cases he : head = r
        · refine Or.inr (Or.inr ⟨hp, by omega, ?_⟩)
          simp only [he, if_true]
          congr 1
          simp only [State.afterDecode, State.onLink, hd, List.tail_cons]
        · exact Or.inr (Or.inl (by simp [he]))
  · exact Or.inl (by simp [hp])

/-- A record that passes LINK's checks is its owner's to take. -/
theorem decodeCommand_taken {seat : Seat} {type : BitVec 6} {body : List Byte} {s : State}
    (h : s.takesRecord ⟨seat, type, body⟩) (owner : State → State) :
    decodeCommand type seat body owner s = owner s.afterDecode := by
  unfold decodeCommand
  rw [decodeRecord_now h.1]
  have hc : linkCheck seat type body s.afterDecode.fcu.permit = none := h.2
  simp only [hc]

/-- A record that LINK's checks refuse is answered with their code, its type as detail, and nothing else. -/
theorem decodeCommand_refused {seat : Seat} {type : BitVec 6} {body : List Byte} {s : State} {code : ErrorCode}
    (h : s.decodesNow ⟨seat, type, body⟩) (hc : linkCheck seat type body s.fcu.permit = some code)
    (owner : State → State) :
    decodeCommand type seat body owner s = refuse seat code type.toNat s.afterDecode := by
  unfold decodeCommand
  rw [decodeRecord_now h]
  have hc' : linkCheck seat type body s.afterDecode.fcu.permit = some code := hc
  simp only [hc']

theorem State.takesRecord.handed {s : State} {r : Record} (h : s.takesRecord r) : s.link.handed = [] := h.1.2.2.2

theorem State.takesRecord.room {s : State} {r : Record} (h : s.takesRecord r) : s.link.tx.length < txCapacity := h.1.2.1

/-! ## An owner's answer -/

@[simp] theorem firstError_nil : firstError [] = none := rfl

@[simp] theorem firstError_cons (fails : Bool) (code : ErrorCode) (detail : Nat) (rest : List (Bool × ErrorCode × Nat)) :
    firstError ((fails, code, detail) :: rest) = if fails then some (code, detail) else firstError rest := rfl

/-- No check fails exactly when every one of them passes. -/
theorem firstError_none_iff (checks : List (Bool × ErrorCode × Nat)) :
    firstError checks = none ↔ ∀ c ∈ checks, c.1 = false := by
  induction checks with
  | nil => simp
  | cons c rest ih =>
    obtain ⟨fails, code, detail⟩ := c
    cases fails <;> simp [ih]

theorem answer_taken {checks : List (Bool × ErrorCode × Nat)} (h : firstError checks = none) (seat : Seat)
    (type : BitVec 6) (take : State → State) (s : State) : answer seat type checks take s = take (ack seat type 0 s) := by
  simp only [answer, h]

theorem answer_refused {checks : List (Bool × ErrorCode × Nat)} {code : ErrorCode} {detail : Nat}
    (h : firstError checks = some (code, detail)) (seat : Seat) (type : BitVec 6) (take : State → State) (s : State) :
    answer seat type checks take s = refuse seat code detail s := by
  simp only [answer, h]

end Sys2Proof.Machine
end

