-- ==== Sys2Proof/Laws/Flags.lean ====
section
/-! SUPPORT. The fault monitor's shared operations said once: the retained-pose write, an occurrence of a flag that is no
TRIP flag (what it leaves alone), an occurrence of a TRIP flag outside TRIPPED (its whole effect) and in TRIPPED. -/

namespace Sys2Proof.Machine

open Sys2Proof

/-! ## The retained-pose write -/

/-- A pose write asked for: it waits behind a save or another write, and begins otherwise; nothing else changes (R48). -/
theorem requestPoseWrite_eq (s : State) :
    requestPoseWrite s =
      { s with
        sto :=
          if s.sto.save ≠ .idle ∨ s.sto.poseWriting ≠ none ∨ s.sto.poseWaiting = true then
            { s.sto with poseWaiting := true }
          else { s.sto with poseWriting := some s.fcu.pose } } := by
  have h :
      (saveInProgress s || s.sto.poseWriting.isSome || s.sto.poseWaiting) = true ↔
        (s.sto.save ≠ .idle ∨ s.sto.poseWriting ≠ none ∨ s.sto.poseWaiting = true) := by
    cases s.sto.poseWriting <;> simp [saveInProgress]
  unfold requestPoseWrite
  by_cases k : s.sto.save ≠ .idle ∨ s.sto.poseWriting ≠ none ∨ s.sto.poseWaiting = true
  · rw [if_pos (h.mpr k), if_pos k]; rfl
  · rw [if_neg fun j => k (h.mp j), if_neg k]; rfl

@[simp] theorem requestPoseWrite_link (s : State) : (requestPoseWrite s).link = s.link := by rw [requestPoseWrite_eq]
@[simp] theorem requestPoseWrite_fcu (s : State) : (requestPoseWrite s).fcu = s.fcu := by rw [requestPoseWrite_eq]
@[simp] theorem requestPoseWrite_pln (s : State) : (requestPoseWrite s).pln = s.pln := by rw [requestPoseWrite_eq]
@[simp] theorem requestPoseWrite_env (s : State) : (requestPoseWrite s).env = s.env := by rw [requestPoseWrite_eq]
@[simp] theorem requestPoseWrite_sol (s : State) : (requestPoseWrite s).sol = s.sol := by rw [requestPoseWrite_eq]
@[simp] theorem requestPoseWrite_mrk (s : State) : (requestPoseWrite s).mrk = s.mrk := by rw [requestPoseWrite_eq]
@[simp] theorem requestPoseWrite_fru (s : State) : (requestPoseWrite s).fru = s.fru := by rw [requestPoseWrite_eq]
@[simp] theorem requestPoseWrite_ch (s : State) : (requestPoseWrite s).ch = s.ch := by rw [requestPoseWrite_eq]
@[simp] theorem requestPoseWrite_flt (s : State) : (requestPoseWrite s).flt = s.flt := by rw [requestPoseWrite_eq]
@[simp] theorem requestPoseWrite_freeCount (s : State) : (requestPoseWrite s).freeCount = s.freeCount := by
  rw [requestPoseWrite_eq]
@[simp] theorem requestPoseWrite_pending (s : State) : (requestPoseWrite s).pending = s.pending := by
  rw [requestPoseWrite_eq]

/-- The begin of a waiting pose write changes the two fields of the pose's write alone (R48, R212). -/
theorem beginPoseWrite_eq (s : State) :
    beginPoseWrite s =
      if s.sto.poseWaiting = true ∧ s.sto.save = .idle ∧ s.sto.poseWriting = none then
        { s with sto := { s.sto with poseWriting := some s.fcu.pose, poseWaiting := false } }
      else s := by
  have h : saveInProgress s = false ↔ s.sto.save = .idle := by simp [saveInProgress]
  unfold beginPoseWrite
  by_cases k : s.sto.poseWaiting = true ∧ s.sto.save = .idle ∧ s.sto.poseWriting = none
  · rw [if_pos k, if_pos ⟨k.1, h.mpr k.2.1, k.2.2⟩]; rfl
  · rw [if_neg k, if_neg fun j => k ⟨j.1, h.mp j.2.1, j.2.2⟩]

/-- No pose write begins while a save is in progress (R48). -/
theorem beginPoseWrite_saving {s : State} (h : s.sto.save ≠ .idle) : beginPoseWrite s = s := by
  rw [beginPoseWrite_eq, if_neg fun k => h k.2.1]

/-! ## Flags that trip nothing -/

/-- The states that differ in LINK's handed notices and the fault flags alone. -/
def State.SameButFlags (s t : State) : Prop :=
  t.fcu = s.fcu ∧ t.pln = s.pln ∧ t.env = s.env ∧ t.sol = s.sol ∧ t.mrk = s.mrk ∧ t.fru = s.fru ∧ t.ch = s.ch ∧
    t.sto = s.sto ∧ t.freeCount = s.freeCount ∧ t.pending = s.pending ∧ t.flt.trip = s.flt.trip ∧
    t.flt.line = s.flt.line ∧ t.link = { s.link with handed := t.link.handed }

/-- A TRIP flag is one without a notice of its own. -/
theorem Flag.isTrip_iff (f : Flag) : f.isTrip = true ↔ f.noticeCode = none := by
  simp [Flag.isTrip]

theorem State.SameButFlags.rfl' (s : State) : s.SameButFlags s :=
  ⟨rfl, rfl, rfl, rfl, rfl, rfl, rfl, rfl, rfl, rfl, rfl, rfl, rfl⟩

theorem State.SameButFlags.trans' {s t u : State} (h : s.SameButFlags t) (k : t.SameButFlags u) : s.SameButFlags u := by
  obtain ⟨a1, a2, a3, a4, a5, a6, a7, a8, a9, a10, a11, a12, a13⟩ := h
  obtain ⟨b1, b2, b3, b4, b5, b6, b7, b8, b9, b10, b11, b12, b13⟩ := k
  refine ⟨b1.trans a1, b2.trans a2, b3.trans a3, b4.trans a4, b5.trans a5, b6.trans a6, b7.trans a7, b8.trans a8,
    b9.trans a9, b10.trans a10, b11.trans a11, b12.trans a12, ?_⟩
  rw [b13, a13]

/-- An occurrence of a flag that is no TRIP flag touches the flags and the handed notices alone. -/
theorem report_sameButFlags {f : Flag} (h : f.isTrip = false) (channel : Nat) (seat : Option Seat) (s : State) :
    s.SameButFlags (report f channel seat s) := by
  cases hn : f.noticeCode with
  | none => rw [(Flag.isTrip_iff f).mpr hn] at h; exact absurd h (by decide)
  | some code =>
    simp only [report, hn]
    by_cases hs : (s.flag f).set = true
    · rw [if_pos hs]; exact ⟨rfl, rfl, rfl, rfl, rfl, rfl, rfl, rfl, rfl, rfl, rfl, rfl, rfl⟩
    · rw [if_neg hs]; exact ⟨rfl, rfl, rfl, rfl, rfl, rfl, rfl, rfl, rfl, rfl, rfl, rfl, rfl⟩

/-- The flag that occurred is set. -/
theorem report_flag_set {f : Flag} (h : f.isTrip = false) (channel : Nat) (seat : Option Seat) (s : State) :
    ((report f channel seat s).flag f).set = true := by
  cases hn : f.noticeCode with
  | none => rw [(Flag.isTrip_iff f).mpr hn] at h; exact absurd h (by decide)
  | some code =>
    simp only [report, hn]
    by_cases hs : (s.flag f).set = true
    · rw [if_pos hs, State.flag_setFlag, if_pos rfl, FlagEntry.occur, if_pos hs]
    · have : (notice code channel (s.setFlag f ((s.flag f).occur channel))).flag f = (s.flag f).occur channel := by
        show (s.setFlag f ((s.flag f).occur channel)).flag f = _
        rw [State.flag_setFlag, if_pos rfl]
      rw [if_neg hs, this, FlagEntry.occur, if_neg hs]

/-! ## TRIP flags -/

/-- A channel's brake request and the end of its setting operation together. -/
theorem Channel.endSetting_brake (c : Channel) : Channel.endSetting (Channel.brake c) = c.afterTrip := by
  rcases c with ⟨st⟩
  cases st <;> rfl

/-- An occurrence of a TRIP flag outside TRIPPED is the trip. -/
theorem report_trip {f : Flag} (hf : f.isTrip = true) (channel : Nat) (seat : Option Seat) {s : State}
    (hs : s.fcu.flight ≠ .tripped) : report f channel seat s = tripEffect f channel seat s := by
  have hn : f.noticeCode = none := (Flag.isTrip_iff f).mp hf
  have hm : ∀ q : Quad Channel, (q.map Channel.brake).map Channel.endSetting = q.map Channel.afterTrip := by
    intro q; simp [Quad.map, Channel.endSetting_brake]
  by_cases hp : s.ch.op.kind = .noSetting <;> by_cases hw : (s.flag f).set = true
  all_goals
    simp only [report, hn, reportTrip, State.setFlag_fcu, hs, ne_eq, not_false_eq_true, decide_true, if_true, hw,
      takeTrip, writePose, requestPoseWrite_eq, settingInProgress, State.setFlag_ch, hp, not_true_eq_false,
      decide_false, Bool.and_false, Bool.and_true, endSettingOp, tripNotice, notice, handOver,
      tripEffect, poseValidAfterTrip, tripRecordOf, FlagEntry.occur, satSucc, if_false, Bool.false_eq_true]
    simp [State.onLink, State.onFcu, State.onPln, State.onMrk, State.onFlt, State.onCh, onAllChans, hm, Pln.tripped,
      Stream.cancelled, State.setFlag, commandedPosition, NoticeCode.category, NoticeCode.code]
    try rfl

/-- An occurrence of a TRIP flag in TRIPPED updates its flag and, when it was clear, hands over its TRIP_NOTICE. -/
theorem report_tripped {f : Flag} (hf : f.isTrip = true) (channel : Nat) (seat : Option Seat) {s : State}
    (hs : s.fcu.flight = .tripped) :
    report f channel seat s =
      if (s.flag f).set then s.setFlag f ((s.flag f).occur channel)
      else tripNotice f false channel seat (s.setFlag f ((s.flag f).occur channel)) := by
  have hn : f.noticeCode = none := (Flag.isTrip_iff f).mp hf
  simp only [report, hn, reportTrip, State.setFlag_fcu, hs]
  by_cases hw : (s.flag f).set = true <;> simp [hw]

/-- An occurrence of a TRIP flag in TRIPPED touches the flags and the handed notices alone. -/
theorem report_tripped_sameButFlags {f : Flag} (hf : f.isTrip = true) (channel : Nat) (seat : Option Seat) {s : State}
    (hs : s.fcu.flight = .tripped) : s.SameButFlags (report f channel seat s) := by
  rw [report_tripped hf channel seat hs]
  by_cases hw : (s.flag f).set = true
  · rw [if_pos hw]; exact ⟨rfl, rfl, rfl, rfl, rfl, rfl, rfl, rfl, rfl, rfl, rfl, rfl, rfl⟩
  · rw [if_neg hw]; exact ⟨rfl, rfl, rfl, rfl, rfl, rfl, rfl, rfl, rfl, rfl, rfl, rfl, rfl⟩

/-- A report never leaves a flight state other than its own or TRIPPED. -/
theorem report_flight (f : Flag) (channel : Nat) (seat : Option Seat) (s : State) :
    (report f channel seat s).fcu.flight = s.fcu.flight ∨ (report f channel seat s).fcu.flight = .tripped := by
  by_cases hf : f.isTrip = true
  · by_cases hs : s.fcu.flight = .tripped
    · exact Or.inl (by rw [(report_tripped_sameButFlags hf channel seat hs).1])
    · exact Or.inr (by rw [report_trip hf channel seat hs]; rfl)
  · exact Or.inl (by rw [(report_sameButFlags (by simpa using hf) channel seat s).1])

end Sys2Proof.Machine
end

