-- ==== Sys2Proof/Laws/Ops.lean ====
section
/-! SUPPORT. The shared operations of the planner and the channels, each said once as an update of the state before, and
what they leave alone. -/

namespace Sys2Proof.Machine

open Sys2Proof

/-! ## The planner -/

/-- Entry into HOLD, whole (R44, R46). -/
theorem enterHold_eq (cause : StopCause) (s : State) :
    enterHold cause s =
      notice .holding cause.code.toNat { s with
        fcu := { s.fcu with flight := .hold, cause := cause }
        pln := { s.pln with holdPos := s.pln.pos, vel := Vec3.zero, stop := none }
        mrk := { s.mrk with holdPending := false } } := rfl

/-- The start of a stop, whole (R59). -/
theorem startStop_eq (kind : StopKind) (rate : Nat) (cause : StopCause) (s : State) :
    startStop kind rate cause s =
      { s with
        fcu := { s.fcu with flight := .stopping, cause := cause }
        pln := { s.pln with stop := some ⟨kind, rate⟩ } } := rfl

theorem flushQueue_eq (s : State) :
    flushQueue s = { s with pln := { s.pln with queue := [] }, mrk := { s.mrk with holdPending := false } } := rfl

theorem emptyHand_eq (s : State) : emptyHand s = { s with pln := { s.pln with inHand := none } } := rfl

theorem cancelStream_eq (s : State) :
    cancelStream s = { s with pln := { s.pln with stream := s.pln.stream.cancelled } } := rfl

/-- A PRIMED stream is cancelled, any other stands. -/
theorem cancelPrimed_eq (s : State) :
    cancelPrimed s = { s with pln := { s.pln with stream := s.pln.stream.unprimed } } := by
  unfold cancelPrimed Stream.unprimed
  by_cases h : s.pln.stream.state = .primed
  · rw [if_pos h, if_pos h]; rfl
  · rw [if_neg h, if_neg h]

theorem stickRest_eq (s : State) :
    stickRest s = { s with pln := { s.pln with stick := { s.pln.stick with q := Vec3.zero, timer := none } } } := rfl

/-! ## The commanded position (R43) -/

theorem commandedPosition_parked {s : State} (h : s.fcu.flight = .parked) : commandedPosition s = s.fcu.pose.pos := by
  simp [commandedPosition, h]

theorem commandedPosition_parking {s : State} (h : s.fcu.flight = .parking) : commandedPosition s = s.pln.holdPos := by
  simp [commandedPosition, h]

theorem commandedPosition_tripped {s : State} (h : s.fcu.flight = .tripped) : commandedPosition s = s.flt.trip.pos := by
  simp [commandedPosition, h]

/-- In the states that produce samples it is the last committed position. -/
theorem commandedPosition_flying {s : State} (h : producesSamples s.fcu.flight = true) :
    commandedPosition s = s.pln.pos := by
  unfold commandedPosition
  cases k : s.fcu.flight <;> simp [k, producesSamples] at h ⊢

/-! ## The channels -/

/-- Two changes of one channel are one. -/
theorem State.onChan_onChan (s : State) (w : Winch) (f g : Channel → Channel) :
    (s.onChan w f).onChan w g = s.onChan w fun _ => g (f (s.chan w)) := by
  have h : ∀ (q : Quad Channel) (i : Fin 4) (a b : Channel), (q.set i a).set i b = q.set i b := by
    intro q i a b
    match i with
    | 0 => rfl
    | 1 => rfl
    | 2 => rfl
    | 3 => rfl
  simp only [State.onChan, State.onCh, Quad.get_set, if_true, h, State.chan]

/-- A change of one channel depends on that channel alone. -/
theorem State.onChan_const (s : State) (w : Winch) (f : Channel → Channel) :
    s.onChan w f = s.onChan w fun _ => f (s.chan w) := rfl

/-- A release request is taken in READY and changes nothing elsewhere (R168). -/
theorem Channel.release_cases (c : Channel) :
    (c.state = .ready ∧ c.release = { c with state := .releasing, timer := some 500000 }) ∨
      (c.state ≠ .ready ∧ c.release = c) := by
  unfold Channel.release
  by_cases h : c.state = .ready
  · exact Or.inl ⟨h, by rw [if_pos h]; rfl⟩
  · exact Or.inr ⟨h, by rw [if_neg h]⟩

/-- A brake request is taken in RELEASING and STREAMING and changes nothing elsewhere (R168). -/
theorem Channel.brake_cases (c : Channel) :
    ((c.state = .releasing ∨ c.state = .streaming) ∧
        c.brake =
          { c with
            state := .braking, timer := some 500000, slackCount := 0, overCount := 0, followCount := 0,
            warning := false }) ∨
      (c.state ≠ .releasing ∧ c.state ≠ .streaming ∧ c.brake = c) := by
  unfold Channel.brake
  by_cases h : c.state = .releasing ∨ c.state = .streaming
  · exact Or.inl ⟨h, by rw [if_pos h]; rfl⟩
  · exact Or.inr ⟨fun k => h (Or.inl k), fun k => h (Or.inr k), by rw [if_neg h]⟩

/-- A set request is taken in READY and changes nothing elsewhere (R168). -/
theorem Channel.setRequest_cases (length : Nat) (c : Channel) :
    (c.state = .ready ∧
        c.setRequest length = { c with state := .setting, requested := length, timer := some 500000 }) ∨
      (c.state ≠ .ready ∧ c.setRequest length = c) := by
  unfold Channel.setRequest
  by_cases h : c.state = .ready
  · exact Or.inl ⟨h, by rw [if_pos h]; rfl⟩
  · exact Or.inr ⟨h, by rw [if_neg h]⟩

/-- A channel sends one frame, its sequence number advances, and the period is open (R155). -/
theorem Channel.send_eq (c : Channel) :
    c.send = { c with sent := some ⟨frameOf c, c.seq⟩, seq := c.seq + 1, answered := false, restartPending := false } :=
  rfl

/-- What the close of a period leaves alone (R157). -/
theorem Channel.close_keeps (c : Channel) :
    c.close.seq = c.seq ∧ c.close.newest = c.newest ∧ c.close.requested = c.requested ∧
      c.close.restartPending = c.restartPending ∧ c.close.last = c.last ∧ c.close.answered = c.answered ∧
      c.close.badFrames = c.badFrames ∧ c.close.limits = c.limits ∧ c.close.sent = c.sent := by
  unfold Channel.close
  split
  · exact ⟨rfl, rfl, rfl, rfl, rfl, rfl, rfl, rfl, rfl⟩
  · split <;> exact ⟨rfl, rfl, rfl, rfl, rfl, rfl, rfl, rfl, rfl⟩

end Sys2Proof.Machine
end

