-- ==== Sys2Proof/Laws/Records.lean ====
section
/-! SUPPORT. A command that is the decode of a record, said once: every one is the same decode of its record, with its own
owner; and the step that runs the front command. -/

namespace Sys2Proof.Machine

open Sys2Proof

/-- A command that gets a reply is LINK's checks on its record and then its owner. -/
theorem exec_of_replied {c : Instr} {r : Record} (hr : recordOf c = some r) (hc : repliedCommand c = true) :
    ∃ owner, ∀ s, exec c s = done (decodeCommand r.type r.seat r.body owner s) := by
  cases c <;> simp only [recordOf, Option.some.injEq, reduceCtorEq] at hr <;> subst hr <;>
    first
    | exact ⟨_, fun s => rfl⟩
    | simp [repliedCommand] at hc

/-- A well-formed command that carries a record is the decode of that record. -/
theorem exec_of_record {c : Instr} {r : Record} (hr : recordOf c = some r) (hc : c.wellFormed = true) :
    ∃ act, ∀ s, exec c s = done (decodeRecord r act s) := by
  cases c <;> simp only [recordOf, Option.some.injEq, reduceCtorEq] at hr <;> subst hr <;>
    first
    | exact ⟨_, fun s => rfl⟩
    | (refine
         ⟨fun s => s.onLink (Link.count fun n => { n with ignored := satSucc cap16 n.ignored }), fun s => ?_⟩
       simp only [exec, execIgnoredRecord]
       rw [if_pos (by simp only [Instr.wellFormed, Bool.and_eq_true] at hc; exact hc.1)])

/-- A record that LINK's checks refuse is answered with their code and changes nothing else. -/
theorem exec_refused {c : Instr} {r : Record} {s : State} {code : ErrorCode} (hr : recordOf c = some r)
    (hc : repliedCommand c = true) (hd : s.decodesNow r)
    (hl : linkCheck r.seat r.type r.body s.fcu.permit = some code) :
    exec c s = .next (s.refused r.seat code r.type.toNat) := by
  obtain ⟨owner, ho⟩ := exec_of_replied hr hc
  have hh := hd.2.2.2
  rw [ho, decodeCommand_refused hd hl, done_of_none (by simpa using hh)]
  rfl

end Sys2Proof.Machine
end

