-- ==== Sys2Proof/Laws/Samples.lean ====
section
/-! SUPPORT. What the steps of a planner's sample leave alone, each said once: the examination of the markers, the evaluation
of the occupancy bands, the preparation and the commitment of a candidate, what the sample concludes, and the whole sample. -/

namespace Sys2Proof.Machine

open Sys2Proof

/-- One slot examined changes MRK and the notices handed over alone (R131). -/
theorem examineMarker_keeps (flight : FlightState) (p : Vec3) (s : State) (i : Fin 4) :
    ∃ mrk handed, examineMarker flight p s i = { s with mrk := mrk, link := { s.link with handed := handed } } := by
  unfold examineMarker
  split
  · exact ⟨s.mrk, s.link.handed, rfl⟩
  · dsimp only
    split
    · unfold actOnEntry
      dsimp only
      split <;> exact ⟨_, _, rfl⟩
    · exact ⟨_, s.link.handed, rfl⟩

/-- The examination of a position changes MRK and the notices handed over alone (R131). -/
theorem examineMarkers_keeps (flight : FlightState) (p : Vec3) (s : State) :
    ∃ mrk handed, examineMarkers flight p s = { s with mrk := mrk, link := { s.link with handed := handed } } := by
  unfold examineMarkers
  split
  · have h : ∀ (slots : List (Fin 4)) (s : State), ∃ mrk handed,
        slots.foldl (examineMarker flight p) s = { s with mrk := mrk, link := { s.link with handed := handed } } := by
      intro slots
      induction slots with
      | nil => exact fun s => ⟨s.mrk, s.link.handed, rfl⟩
      | cons i rest ih =>
        intro s
        obtain ⟨m, n, h⟩ := examineMarker_keeps flight p s i
        obtain ⟨m', n', h'⟩ := ih (examineMarker flight p s i)
        exact ⟨m', n', by rw [List.foldl_cons, h', h]⟩
    exact h _ s
  · exact ⟨s.mrk, s.link.handed, rfl⟩

/-- A band's entry changes the notices handed over alone (R114). -/
theorem bandNotice_keeps (code : NoticeCode) (sends was now : Bool) (n : Nat) (s : State) :
    ∃ handed, bandNotice code sends was now n s = { s with link := { s.link with handed := handed } } := by
  unfold bandNotice
  split
  · exact ⟨_, rfl⟩
  · exact ⟨s.link.handed, rfl⟩

/-- The evaluation of the bands changes the three band flags and the notices handed over alone (R114). -/
theorem evaluateBands_keeps (s : State) :
    ∃ low critical high handed,
      evaluateBands s =
        { s with
          pln := { s.pln with stream := { s.pln.stream with inLow := low, inCritical := critical, inHigh := high } }
          link := { s.link with handed := handed } } := by
  unfold evaluateBands
  dsimp only
  split
  · exact ⟨_, _, _, _, rfl⟩
  · obtain ⟨h1, e1⟩ := bandNotice_keeps .streamLow (s.pln.stream.state = .primed ∨ s.pln.stream.state = .playing)
      s.pln.stream.inLow (bandLow s.env.limits s.pln.stream.samples.length) s.pln.stream.samples.length
      (s.onPln fun p => { p with stream := p.stream.banded s.env.limits })
    rw [e1]
    obtain ⟨h2, e2⟩ := bandNotice_keeps .streamCritical (s.pln.stream.state = .primed ∨ s.pln.stream.state = .playing)
      s.pln.stream.inCritical (bandCritical s.pln.stream.samples.length) s.pln.stream.samples.length _
    rw [e2]
    obtain ⟨h3, e3⟩ := bandNotice_keeps .streamHigh (s.pln.stream.state = .primed ∨ s.pln.stream.state = .playing)
      s.pln.stream.inHigh (bandHigh s.pln.stream.samples.length) s.pln.stream.samples.length _
    rw [e3]
    exact ⟨_, _, _, h3, rfl⟩

/-- An occurrence of WALL_STRIKE changes the flags and the notices handed over alone (R41, R183). -/
theorem report_wallStrike_keeps (s : State) :
    ∃ flt handed, report .wallStrike 0 none s = { s with flt := flt, link := { s.link with handed := handed } } := by
  have h : Flag.noticeCode .wallStrike = some .wallStrike := rfl
  unfold report
  simp only [h]
  split
  · exact ⟨_, s.link.handed, rfl⟩
  · exact ⟨_, _, rfl⟩

/-- A commitment moves the carrier, hands out the setpoints there, and else changes the flags, MRK and the notices handed
over alone (R40, R41, R131). -/
theorem commit_keeps (p : Prepared) :
    ∃ flt mrk handed,
      p.commit =
        { p.state with
          pln :=
            { p.state.pln with pos := p.committed, vel := restClamped p.cand p.committed p.state.pln.vel }
          ch := (handSetpoints { p.state with pln := { p.state.pln with pos := p.committed } }).ch
          flt := flt
          mrk := mrk
          link := { p.state.link with handed := handed } } := by
  unfold Prepared.commit
  dsimp only
  generalize hs : (p.state.onPln fun n =>
    { n with pos := p.committed, vel := restClamped p.cand p.committed n.vel }) = s
  have hr : ∃ flt handed, (if p.struck = true then report .wallStrike 0 none s else s) =
      { s with flt := flt, link := { s.link with handed := handed } } := by
    split
    · exact report_wallStrike_keeps s
    · exact ⟨s.flt, s.link.handed, rfl⟩
  obtain ⟨flt, handed, hr⟩ := hr
  rw [hr]
  obtain ⟨mrk, handed', hm⟩ := examineMarkers_keeps p.state.fcu.flight p.committed
    (handSetpoints { s with flt := flt, link := { s.link with handed := handed } })
  rw [hm, ← hs]
  exact ⟨flt, mrk, handed', rfl⟩

/-! ## The whole sample -/

/-- What the planner's own steps leave alone: SOL, FRU, the channels, STO, the queue of commands and the carrier's place;
and none of them trips. -/
def State.KeptByPlanner (s t : State) : Prop :=
  t.sol = s.sol ∧ t.fru = s.fru ∧ t.ch = s.ch ∧ t.sto = s.sto ∧ t.pending = s.pending ∧ t.freeCount = s.freeCount ∧
    t.pln.pos = s.pln.pos ∧ (s.fcu.flight ≠ .tripped → t.fcu.flight ≠ .tripped)

theorem State.KeptByPlanner.rfl' (s : State) : s.KeptByPlanner s := ⟨rfl, rfl, rfl, rfl, rfl, rfl, rfl, id⟩

theorem State.KeptByPlanner.trans' {s t u : State} (h : s.KeptByPlanner t) (k : t.KeptByPlanner u) :
    s.KeptByPlanner u := by
  obtain ⟨a1, a2, a3, a4, a5, a6, a7, a8⟩ := h
  obtain ⟨b1, b2, b3, b4, b5, b6, b7, b8⟩ := k
  exact ⟨b1.trans a1, b2.trans a2, b3.trans a3, b4.trans a4, b5.trans a5, b6.trans a6, b7.trans a7, b8 ∘ a8⟩

theorem State.SameButFlags.keptByPlanner {s t : State} (h : s.SameButFlags t) : s.KeptByPlanner t := by
  obtain ⟨h1, h2, -, h4, -, h6, h7, h8, h9, h10, -⟩ := h
  exact ⟨h4, h6, h7, h8, h10, h9, by rw [h2], by rw [h1]; exact id⟩

/-- An occurrence of a flag that is no TRIP flag is kept by the planner. -/
theorem report_keptByPlanner {f : Flag} (h : f.isTrip = false) (channel : Nat) (seat : Option Seat) (s : State) :
    s.KeptByPlanner (report f channel seat s) := (report_sameButFlags h channel seat s).keptByPlanner

theorem enterHold_keptByPlanner (cause : StopCause) (s : State) : s.KeptByPlanner (enterHold cause s) :=
  ⟨rfl, rfl, rfl, rfl, rfl, rfl, rfl, fun _ => (by decide : FlightState.hold ≠ .tripped)⟩

theorem startStop_keptByPlanner (kind : StopKind) (rate : Nat) (cause : StopCause) (s : State) :
    s.KeptByPlanner (startStop kind rate cause s) :=
  ⟨rfl, rfl, rfl, rfl, rfl, rfl, rfl, fun _ => (by decide : FlightState.stopping ≠ .tripped)⟩

theorem rejectPath_keptByPlanner (s : State) : s.KeptByPlanner (rejectPath s) :=
  (State.KeptByPlanner.trans' (t := flushQueue (emptyHand s)) ⟨rfl, rfl, rfl, rfl, rfl, rfl, rfl, id⟩
    (report_keptByPlanner rfl 0 none _)).trans' (enterHold_keptByPlanner .pathRejected _)

theorem startMove_keptByPlanner (m : Move) (step : Bool) (s : State) : s.KeptByPlanner (startMove m step s) := by
  unfold startMove
  dsimp only
  split <;> exact ⟨rfl, rfl, rfl, rfl, rfl, rfl, rfl, fun _ => (by decide : FlightState.track ≠ .tripped)⟩

/-- An arrival keeps what its move-end decision keeps (R79). -/
theorem arriveWith_keptByPlanner {onEnd : State → State} (h : ∀ s : State, s.KeptByPlanner (onEnd s)) (hand : MoveInHand)
    (s : State) : s.KeptByPlanner (arriveWith onEnd hand s) := by
  have hk : ∀ b : Bool, ∀ m : MoveInHand, s.KeptByPlanner
      (if b = true then moveNotice .moveDone m.move (s.onPln fun p => { p with inHand := some m })
        else s.onPln fun p => { p with inHand := some m }) := by
    intro b m
    cases b <;> exact ⟨rfl, rfl, rfl, rfl, rfl, rfl, rfl, id⟩
  unfold arriveWith
  dsimp only
  split
  · exact (hk _ _).trans' (h _)
  · split
    · exact (hk _ _).trans' (h _)
    · exact (hk _ _).trans' ⟨rfl, rfl, rfl, rfl, rfl, rfl, rfl, id⟩

/-- A begin keeps what its move-end decision keeps (R76). -/
theorem beginWith_keptByPlanner {onEnd : State → State} (h : ∀ s : State, s.KeptByPlanner (onEnd s)) (m : Move) (step : Bool)
    (s : State) : s.KeptByPlanner (beginWith onEnd m step s) := by
  unfold beginWith
  split
  · dsimp only
    split
    · exact (startMove_keptByPlanner m step s).trans' (arriveWith_keptByPlanner h _ _)
    · exact startMove_keptByPlanner m step s
  · exact rejectPath_keptByPlanner s

theorem earlyEnd_keptByPlanner {step : Bool} {s t : State} (h : earlyEnd step s = some t) : s.KeptByPlanner t := by
  unfold earlyEnd at h
  split at h
  · cases h; exact enterHold_keptByPlanner _ s
  · split at h
    · cases h; exact enterHold_keptByPlanner _ s
    · cases h

theorem moveEndFrom_keptByPlanner (queue : List Move) :
    ∀ (step : Bool) (s : State), s.KeptByPlanner (moveEndFrom queue step s) := by
  induction queue with
  | nil =>
    intro step s
    unfold moveEndFrom
    dsimp only
    split
    · next h =>
      exact State.KeptByPlanner.trans' (t := emptyHand s) ⟨rfl, rfl, rfl, rfl, rfl, rfl, rfl, id⟩
        (earlyEnd_keptByPlanner h)
    · exact State.KeptByPlanner.trans' (t := notice .queueDrained 0 (emptyHand s))
        ⟨rfl, rfl, rfl, rfl, rfl, rfl, rfl, id⟩ (enterHold_keptByPlanner _ _)
  | cons head rest ih =>
    intro step s
    unfold moveEndFrom
    dsimp only
    split
    · next h =>
      exact State.KeptByPlanner.trans' (t := emptyHand s) ⟨rfl, rfl, rfl, rfl, rfl, rfl, rfl, id⟩
        (earlyEnd_keptByPlanner h)
    · split
      · exact State.KeptByPlanner.trans' (t := moveNotice .cueReached head (emptyHand s))
          ⟨rfl, rfl, rfl, rfl, rfl, rfl, rfl, id⟩ (enterHold_keptByPlanner _ _)
      · exact State.KeptByPlanner.trans' (t := (emptyHand s).onPln fun p => { p with queue := rest })
          ⟨rfl, rfl, rfl, rfl, rfl, rfl, rfl, id⟩ (beginWith_keptByPlanner (ih false) head false _)

theorem moveEnd_keptByPlanner (step : Bool) (s : State) : s.KeptByPlanner (moveEnd step s) :=
  moveEndFrom_keptByPlanner _ step s

theorem concludeFollow_keptByPlanner (played : Vec3) (first : Bool) (s : State) :
    s.KeptByPlanner (concludeFollow played first s) := by
  have h : ∀ u : State, u.KeptByPlanner (if 1000 * u.env.limits.lagLimit < chebyshev played u.pln.pos then lagEnd u
      else if u.pln.stream.state = .ending ∧ u.pln.stream.samples = [] then endStream u else u) := by
    intro u
    split
    · exact ((report_keptByPlanner rfl 0 none u).trans'
        (u := cancelStream (report .streamLag 0 none u)) ⟨rfl, rfl, rfl, rfl, rfl, rfl, rfl, id⟩).trans'
        (startStop_keptByPlanner _ _ _ _)
    · split
      · exact ⟨rfl, rfl, rfl, rfl, rfl, rfl, rfl, fun _ => (by decide : FlightState.stopping ≠ .tripped)⟩
      · exact State.KeptByPlanner.rfl' u
  unfold concludeFollow
  cases first
  · exact h s
  · exact State.KeptByPlanner.trans' (t := notice .streamPlaying 0 s) ⟨rfl, rfl, rfl, rfl, rfl, rfl, rfl, id⟩ (h _)

theorem concludePath_keptByPlanner (kind : SampleKind) (m : MoveInHand) (s : State) :
    s.KeptByPlanner (concludePath kind m s) := by
  unfold concludePath
  split
  · split
    · exact arriveWith_keptByPlanner (moveEnd_keptByPlanner _) m s
    · exact State.KeptByPlanner.rfl' s
  · split
    · exact moveEnd_keptByPlanner _ s
    · exact State.KeptByPlanner.rfl' s
  · split
    · unfold stopRested
      split <;> exact ⟨rfl, rfl, rfl, rfl, rfl, rfl, rfl, fun _ => (by decide : FlightState.hold ≠ .tripped)⟩
    · split
      · unfold stopArrived
        dsimp only
        split <;> exact ⟨rfl, rfl, rfl, rfl, rfl, rfl, rfl, fun _ => (by decide : FlightState.hold ≠ .tripped)⟩
      · exact State.KeptByPlanner.rfl' s
  · exact State.KeptByPlanner.rfl' s

/-- What a sample concludes is kept by the planner (R41, R61, R79 to R81, R84, R116 to R122). -/
theorem conclude_keptByPlanner (kind : SampleKind) (struck : Bool) (s : State) :
    s.KeptByPlanner (conclude kind struck s) := by
  have path : ∀ k, s.KeptByPlanner
      (if struck = true then strikeEnd s else s.pln.inHand.elim s fun m => concludePath k m s) := by
    intro k
    split
    · exact ⟨rfl, rfl, rfl, rfl, rfl, rfl, rfl, fun _ => (by decide : FlightState.hold ≠ .tripped)⟩
    · cases s.pln.inHand with
      | none => exact State.KeptByPlanner.rfl' s
      | some m => exact concludePath_keptByPlanner k m s
  unfold conclude
  split
  · exact State.KeptByPlanner.rfl' s
  · exact State.KeptByPlanner.rfl' s
  · exact concludeFollow_keptByPlanner _ _ s
  · split
    · unfold endAxisStop
      split <;> exact ⟨rfl, rfl, rfl, rfl, rfl, rfl, rfl, fun _ => (by decide : FlightState.hold ≠ .tripped)⟩
    · exact State.KeptByPlanner.rfl' s
  · exact path _
  · exact path _
  · exact path _

theorem prepareFollow_keptByPlanner (first : Bool) (head : Sample) (rest : List Sample) (s : State) :
    s.KeptByPlanner (prepareFollow first head rest s).state := by
  obtain ⟨low, critical, high, handed, h⟩ :=
    evaluateBands_keeps (s.onPln fun p => { p with stream := { p.stream with samples := rest } })
  unfold prepareFollow
  rw [h]
  exact ⟨rfl, rfl, rfl, rfl, rfl, rfl, rfl, id⟩

theorem underrun_keptByPlanner (s : State) : s.KeptByPlanner (underrun s) :=
  ((report_keptByPlanner rfl 0 none s).trans' (u := cancelStream (report .streamUnderrun 0 none s))
    ⟨rfl, rfl, rfl, rfl, rfl, rfl, rfl, id⟩).trans' (startStop_keptByPlanner _ _ _ _)

theorem endStream_keptByPlanner (s : State) : s.KeptByPlanner (endStream s) :=
  ⟨rfl, rfl, rfl, rfl, rfl, rfl, rfl, fun _ => (by decide : FlightState.stopping ≠ .tripped)⟩

theorem prepareStream_keptByPlanner (s : State) : s.KeptByPlanner (prepareStream s).state := by
  unfold prepareStream
  split
  · exact prepareFollow_keptByPlanner _ _ _ s
  · have axis : ∀ rate (u : State), u.KeptByPlanner (prepareAxisStop rate u).state :=
      fun _ _ => ⟨rfl, rfl, rfl, rfl, rfl, rfl, rfl, id⟩
    split
    · exact State.KeptByPlanner.trans' (underrun_keptByPlanner s) (axis _ _)
    · exact State.KeptByPlanner.trans' (endStream_keptByPlanner s) (axis _ _)

theorem prepareStartOfPlay_keptByPlanner (s : State) : s.KeptByPlanner (prepareStartOfPlay s).state := by
  unfold prepareStartOfPlay
  dsimp only
  split
  · exact State.KeptByPlanner.trans' (report_keptByPlanner (f := .streamUnderrun) rfl 0 none s)
      ⟨rfl, rfl, rfl, rfl, rfl, rfl, rfl, id⟩
  · split
    · exact ⟨rfl, rfl, rfl, rfl, rfl, rfl, rfl, id⟩
    · exact State.KeptByPlanner.trans'
        (t := (s.onFcu fun f => { f with flight := .stream }).onPln fun p =>
          { p with vel := Vec3.zero, stream := { p.stream with state := .playing } })
        ⟨rfl, rfl, rfl, rfl, rfl, rfl, rfl, fun _ => (by decide : FlightState.stream ≠ .tripped)⟩
        (prepareFollow_keptByPlanner _ _ _ _)

/-- A sample is prepared in the states that produce samples alone, and the preparation is kept by the planner (R43). -/
theorem prepareSample_keptByPlanner (frameStart : Bool) (s : State) :
    match prepareSample frameStart s with
    | none => producesSamples s.fcu.flight = false
    | some p => producesSamples s.fcu.flight = true ∧ s.KeptByPlanner p.state := by
  have hk : s.KeptByPlanner s := State.KeptByPlanner.rfl' s
  have axis : ∀ rate, s.KeptByPlanner (prepareAxisStop rate s).state := fun _ => ⟨rfl, rfl, rfl, rfl, rfl, rfl, rfl, id⟩
  unfold prepareSample
  cases hf : s.fcu.flight with
  | parked => rfl
  | parking => rfl
  | tripped => rfl
  | arming => exact ⟨rfl, ⟨rfl, rfl, rfl, rfl, rfl, rfl, rfl, id⟩⟩
  | hold =>
    refine ⟨rfl, ?_⟩
    split
    · exact prepareStartOfPlay_keptByPlanner s
    · exact ⟨rfl, rfl, rfl, rfl, rfl, rfl, rfl, id⟩
  | track =>
    refine ⟨rfl, ?_⟩
    unfold prepareTrack
    split
    · exact hk
    · split
      · exact ⟨rfl, rfl, rfl, rfl, rfl, rfl, rfl, id⟩
      · exact ⟨rfl, rfl, rfl, rfl, rfl, rfl, rfl, id⟩
      · exact hk
      · exact hk
  | stick => exact ⟨rfl, ⟨rfl, rfl, rfl, rfl, rfl, rfl, rfl, id⟩⟩
  | stream => exact ⟨rfl, prepareStream_keptByPlanner s⟩
  | stopping =>
    refine ⟨rfl, ?_⟩
    unfold prepareStopping
    split
    · exact ⟨rfl, rfl, rfl, rfl, rfl, rfl, rfl, id⟩
    · exact hk
    · exact axis _
    · exact axis _

/-- The planner's sample at a servo event: none outside the states that produce samples; in them SOL hands every channel its
setpoint at the committed position, and the sample trips nothing (R10, R43). -/
theorem planSample_keeps (frameStart : Bool) (s : State) :
    let t := planSample frameStart s
    t.sol = s.sol ∧ t.fru = s.fru ∧ t.sto = s.sto ∧ t.pending = s.pending ∧ t.freeCount = s.freeCount ∧
      (s.fcu.flight ≠ .tripped → t.fcu.flight ≠ .tripped) ∧ (s.fcu.flight = .tripped → t.fcu.flight = .tripped) ∧
      t.ch =
        if producesSamples s.fcu.flight = true then
          { s.ch with chans := s.ch.chans.zip (setpointsAt s t.pln.pos) fun c n => { c with newest := n } }
        else s.ch := by
  have hp := prepareSample_keptByPlanner frameStart s
  unfold planSample
  cases h : prepareSample frameStart s with
  | none =>
    rw [h] at hp
    dsimp only at hp ⊢
    exact ⟨rfl, rfl, rfl, rfl, rfl, id, id, by rw [hp]; rfl⟩
  | some p =>
    rw [h] at hp
    dsimp only at hp ⊢
    obtain ⟨hf, p1, p2, p3, p4, p5, p6, p7, p8⟩ := hp
    obtain ⟨c1, c2, c3, c4, c5, c6, c7, c8⟩ := conclude_keptByPlanner p.kind p.struck p.commit
    obtain ⟨flt, mrk, handed, hc⟩ := commit_keeps p
    have k1 : p.commit.sol = p.state.sol := by rw [hc]
    have k2 : p.commit.fru = p.state.fru := by rw [hc]
    have k4 : p.commit.sto = p.state.sto := by rw [hc]
    have k5 : p.commit.pending = p.state.pending := by rw [hc]
    have k6 : p.commit.freeCount = p.state.freeCount := by rw [hc]
    have k7 : p.commit.pln.pos = p.committed := by rw [hc]
    have k8 : p.commit.fcu = p.state.fcu := by rw [hc]
    refine ⟨c1.trans (k1.trans p1), c2.trans (k2.trans p2), c4.trans (k4.trans p4), c5.trans (k5.trans p5),
      c6.trans (k6.trans p6), fun ht => c8 (by rw [k8]; exact p8 ht), fun ht => ?_, ?_⟩
    · rw [ht] at hf; exact absurd hf (by decide)
    · rw [if_pos hf, c3, c7, k7, hc]
      show ({ p.state.ch with chans := p.state.ch.chans.zip (setpointsAt p.state p.committed) _ } : Ch) = _
      unfold setpointsAt
      rw [p3, p1]

end Sys2Proof.Machine
end

