-- ==== Sys2Proof/Laws/Servo.lean ====
section
/-! SUPPORT. What the four channels do at a servo event, each said once: a channel's own step, what third misses report, and
what FRU's part of the event leaves alone. -/

namespace Sys2Proof.Machine

open Sys2Proof

/-! ## The channels -/

/-- Without a third miss outside ABSENT the channels close their periods and send their frames, and nothing is reported
(R155, R157, R166). -/
theorem runChannels_quiet {s : State} (h : ∀ w, (s.chan w).thirdMiss = false ∨ (s.chan w).state = .absent) :
    runChannels s = onAllChans (fun c => c.close.send) s := by
  have hw : ∀ w t, reportThirdMiss w (s.ch.chans.get (winchIndex w)) t = t := fun w t => if_pos (h w)
  simp only [runChannels, allWinches, List.foldl, hw]

/-- What a third miss reports, in TRIPPED and outside it (R166, R183, R186). -/
theorem reportThirdMiss_cases (w : Winch) (c : Channel) (s : State) :
    reportThirdMiss w c s =
      if c.thirdMiss = false ∨ c.state = .absent then s
      else if c.state.lostOnMiss = false then notice .driveAbsent (winchNumber w) s
      else if s.fcu.flight = .tripped then report .channelLost (winchNumber w) none s
      else tripEffect .channelLost (winchNumber w) none s := by
  unfold reportThirdMiss
  split
  · rfl
  · by_cases hl : c.state.lostOnMiss = true
    · rw [if_pos hl, if_neg (by simp [hl])]
      split
      · rfl
      · next ht => exact report_trip rfl (winchNumber w) none ht
    · rw [if_neg hl, if_pos (by simpa using hl)]

/-- A third miss's report leaves SOL, ENV, FRU, the free values and the queue of commands alone. -/
theorem reportThirdMiss_keeps (w : Winch) (c : Channel) (s : State) :
    (reportThirdMiss w c s).sol = s.sol ∧ (reportThirdMiss w c s).env = s.env ∧ (reportThirdMiss w c s).fru = s.fru ∧
      (reportThirdMiss w c s).freeCount = s.freeCount ∧ (reportThirdMiss w c s).pending = s.pending := by
  rw [reportThirdMiss_cases]
  split
  · exact ⟨rfl, rfl, rfl, rfl, rfl⟩
  · split
    · exact ⟨rfl, rfl, rfl, rfl, rfl⟩
    · split
      · next ht =>
        obtain ⟨-, -, h3, h4, -, h6, -, -, h9, h10, -⟩ := report_tripped_sameButFlags (f := .channelLost) rfl (winchNumber w) none ht
        exact ⟨h4, h3, h6, h9, h10⟩
      · refine ⟨?_, ?_, ?_, ?_, ?_⟩ <;> (unfold tripEffect; rfl)

/-- The channels' part of a servo event leaves SOL, ENV, FRU, the free values and the queue of commands alone. -/
theorem runChannels_keeps (s : State) :
    (runChannels s).sol = s.sol ∧ (runChannels s).env = s.env ∧ (runChannels s).fru = s.fru ∧
      (runChannels s).freeCount = s.freeCount ∧ (runChannels s).pending = s.pending := by
  simp only [runChannels, allWinches, List.foldl, reportThirdMiss_keeps]
  exact ⟨rfl, rfl, rfl, rfl, rfl⟩

/-! ## FRU's part -/

/-- What follows the channels at a servo event changes FRU and the notices handed over alone: REFERENCE_LOCKED where a pull
completes (R139, R144, R149). -/
theorem finishServo_completePull (index : Nat) (stale : Quad Bool) (s : State) :
    let r := runChannels s
    let told := if s.fru.ref = .pulling ∧ s.fru.pullLeft = 0 then notice .referenceLocked 1 r else r
    finishServo index stale completePull s = { told with fru := (finishServo index stale completePull s).fru } := by
  have hf := (runChannels_keeps s).2.2.1
  have hs : ∀ u : State, settleExhaustion u = { u with fru := (settleExhaustion u).fru } := by
    intro u; unfold settleExhaustion; split <;> rfl
  dsimp only
  unfold finishServo completePull
  rw [hf]
  dsimp only
  split
  · rw [hs]; rfl
  · rw [hs]; rfl

end Sys2Proof.Machine
end

