-- ==== Sys2Proof/Tests/Slice0.lean ====
section
/-! SUPPORT. The model's own tests: the well-formedness smoke tests, small runs of one command on a small state, and for
every statement with hypotheses a state and operands that meet them (test_hyp_…), at the boundaries of its clauses. -/

namespace Sys2Proof.Tests

open Sys2Proof Sys2Proof.Machine

set_option Elab.async false

/-! ## Small states -/

/-- The state a command answers with. -/
def after (c : Instr) (s : State) : State :=
  match exec c s with
  | .next t => t
  | _ => s

/-- The messages a command queues. -/
def sends (c : Instr) (s : State) : List TxRecord := (after c s).link.tx

/-- The reset state with a valid workspace of 10 m about the origin and a valid home there. -/
def space : State :=
  { State.reset with
    env := { State.reset.env with box := ⟨⟨-10000, -10000, -10000⟩, ⟨10000, 10000, 10000⟩⟩, boxValid := true }
    sol := { State.reset.sol with homeValid := true } }

/-- A channel in a state, braked or not, with a valid length of 0 and an open period. -/
def channelIn (c : ChanState) : Channel :=
  { Channel.reset ChannelLimits.default with
    state := c, last := ⟨some .braked, true, 0, 1000⟩, timer := some 500000, sent := some ⟨.poll, 0⟩ }

/-- A part in a flight state, at the origin, consent and permit given, every channel in one state. -/
def inState (f : FlightState) (c : ChanState) : State :=
  { space with
    fcu := ⟨f, .armed, true, true, ⟨Vec3.zero, true, .park⟩⟩
    ch := { space.ch with chans := Quad.fill (channelIn c) } }

/-- A move of 1 m along x. -/
def move1 : Move := ⟨7, ⟨1000, 0, 0⟩, 1000, false, true, false, none, none, .pilot⟩

/-- The move in hand in a phase, half flown at 0.5 m/s. -/
def hand1 (p : Phase) : MoveInHand := ⟨move1, 2000, Vec3.zero, 1000000, 500000, 500000, p, 3, false⟩

/-- A part with a move in hand, and a stop under way or not. -/
def flying (f : FlightState) (p : Phase) (stop : Option Stop) : State :=
  let s := inState f .streaming
  { s with pln := { s.pln with inHand := some (hand1 p), stop := stop } }

/-- A part with a stream in a state, with some samples at the origin. -/
def streaming (f : FlightState) (st : StreamState) (n : Nat) : State :=
  let s := inState f .streaming
  { s with
    pln :=
      { s.pln with
        stream :=
          { Stream.reset with
            state := st, samples := (List.range n).map fun i => ⟨BitVec.ofNat 16 i, Vec3.zero⟩
            expected := BitVec.ofNat 16 n, startFrame := 1 } } }

/-- A KEEP_OUT zone from 1.8 m to 2 m on x, its inflated box from 0.8 m on. -/
def zone1 (lock : Nat) (active : Bool) : Zone := ⟨.keepOut, active, ⟨⟨1800, -100, -100⟩, ⟨2000, 100, 100⟩⟩, lock, .pilot⟩

/-- A state with a zone in slot 23. -/
def withZone (z : Zone) (s : State) : State := { s with env := { s.env with zones := s.env.zones.set 23 (some z) } }

/-- A marker at the origin with a radius of 100 mm. -/
def marker1 : MarkerSpec := ⟨Vec3.zero, 100, false, true⟩

/-- An APPEND_MOVE payload for a target in mm, with its flags byte and what follows it. -/
def movePayload (target : Vec3) (cruise flags : Nat) (rest : List Byte) : List Byte :=
  natField 2 7 ++ vecField target ++ natField 2 cruise ++ natField 1 flags ++ rest

/-- A ZONE_PUT payload. -/
def zonePayload (slot presented kind active : Nat) (b : Box) (cap lock : Nat) : List Byte :=
  natField 1 slot ++ natField 2 presented ++ natField 1 kind ++ natField 1 active ++ boxField b ++ natField 2 cap ++
    natField 2 lock

/-- A MARKER_SET payload. -/
def markerPayload (n : Nat) (point : Vec3) (radius action armed : Nat) : List Byte :=
  natField 1 n ++ vecField point ++ natField 2 radius ++ natField 1 action ++ natField 1 armed

/-- A STREAM_DATA payload of k samples at the origin. -/
def samplesPayload (j k : Nat) : List Byte := natField 2 j ++ List.replicate (12 * k) 0

/-! ## Well-formedness: what the check refuses -/

theorem test_wf_ignored_of_known_type : Instr.wellFormed (.ignoredRecord .pilot 0x08 [0, 0]) = false := by decide
theorem test_wf_ignored_short_body : Instr.wellFormed (.ignoredRecord .pilot 0x07 [0]) = false := by decide
theorem test_wf_ignored_long_body : Instr.wellFormed (.ignoredRecord .pilot 0x2F (List.replicate 513 0)) = false := by
  decide +kernel
theorem test_wf_ignored_good : Instr.wellFormed (.ignoredRecord .pilot 0x2F (List.replicate 512 0)) = true := by
  decide +kernel
theorem test_wf_long_payloads :
    (∀ c ∈ [Instr.stick .pilot (List.replicate 513 0), .appendMove .pilot (List.replicate 513 0),
        .streamStart .pilot (List.replicate 513 0), .streamData .pilot (List.replicate 513 0),
        .zonePut .pilot (List.replicate 513 0), .zoneSet .pilot (List.replicate 513 0),
        .zoneRemove .pilot (List.replicate 513 0), .markerSet .pilot (List.replicate 513 0),
        .setAnchor .pilot (List.replicate 513 0), .setWorkspace .pilot (List.replicate 513 0),
        .setLimits .pilot (List.replicate 513 0), .setChannelLimits .pilot (List.replicate 513 0),
        .setTiming .pilot (List.replicate 513 0), .declarePose .pilot (List.replicate 513 0),
        .setHome .pilot (List.replicate 513 0)], Instr.wellFormed c = false) := by decide +kernel
theorem test_wf_other : Instr.wellFormed .servoEvent = true := by decide

/-! ## Worked values of the manual -/

theorem test_roundInt : roundInt 7 2 = 4 ∧ roundInt (-7) 2 = -4 ∧ roundInt 7 3 = 2 := by decide
theorem test_isqrt : isqrt 0 = 0 ∧ isqrt 15 = 3 ∧ isqrt 16 = 4 ∧ isqrt 17 = 4 := by decide
theorem test_lengthRoot : lengthRoot 12 = 3 ∧ lengthRoot 13 = 4 ∧ lengthRoot 6 = 2 ∧ lengthRoot 7 = 3 := by decide

/-! ## The step -/

theorem test_step_front :
    step { State.reset with pending := [.estopDeassertion, .gapTimeout] } =
      exec .estopDeassertion { State.reset with pending := [.gapTimeout] } := rfl
theorem test_step_idle : step State.reset = .next State.reset := rfl
theorem test_no_word_spells : decodeTableWord 8 0 = none ∧ State.withFetchWord State.reset 8 0 = State.reset :=
  ⟨rfl, rfl⟩

/-! ## LINK -/

/-- The bytes of an ARM from PILOT, sent one by one. -/
theorem test_receive_record :
    (match feed (wireBytes .pilot 0x09 [0, 0]) State.reset with
      | .next t => t.link.decodeQueue
      | _ => []) = [⟨.pilot, 0x09, [0, 0]⟩] := by decide +kernel
theorem test_query_state_reply : (sends (.queryState .director 0 0) State.reset).length = 1 := by decide +kernel
theorem test_seat_closed :
    sends (.saveSettings .service 0 0) State.reset = [⟨.service, .errorReport .seatClosed 0x1D⟩] := by decide +kernel
theorem test_ignored_counted : (after (.ignoredRecord .pilot 0x3F []) State.reset).link.counters.ignored = 1 := by
  decide +kernel
theorem test_subscribe : (after (.subscribe .service 0x1F 0) (inState .parked .ready)).link.masks.get 3 =
    ⟨true, true, true, true, true⟩ := by decide +kernel
theorem test_transmit : (after .transmitComplete (after (.queryState .pilot 0 0) State.reset)).link.tx = [] := by
  decide +kernel

/-! ## Flight -/

theorem test_arm : (after (.arm .pilot 0 0) (inState .parked .ready)).fcu.flight = .arming := by decide +kernel
theorem test_arm_no_consent : sends (.arm .pilot 0 0) State.reset = [⟨.pilot, .errorReport .noConsent 0⟩] := by
  decide +kernel
theorem test_armed_by_answers :
    (after (.driveAnswer .w1 (answerBytes ⟨.released, 0, true, 0, 1000⟩))
      (State.onChan (inState .arming .streaming) .w1 fun c => { c with state := .releasing })).fcu.flight = .hold := by
  decide +kernel
theorem test_hold_stops : (after (.hold .safety 0 0) (flying .track .moving none)).pln.stop = some ⟨.path, 12000⟩ := by
  decide +kernel
/-- A HOLD of a move that STEP began clears its step flag as TRACK is left (R69). -/
theorem test_hold_clears_step_flag :
    ((after (.hold .pilot 0 0) ((flying .track .moving none).onPln fun p =>
      { p with inHand := some { hand1 .moving with stepFlag := true } })).pln.inHand.map MoveInHand.stepFlag) =
    some false := by decide +kernel
theorem test_park : (after (.park .pilot 0 0) (inState .hold .streaming)).fcu.flight = .parking := by decide +kernel
theorem test_trip : (after (.trip .safety 0 0) (flying .track .moving none)).fcu.flight = .tripped := by decide +kernel
theorem test_clear_returns :
    (after (.clearFaults .safety 0 0) (after (.trip .safety 0 0) (inState .parked .ready))).fcu.flight = .parked := by
  decide +kernel
theorem test_estop : (after .estopAssertion State.reset).fcu.cause = .trip := by decide +kernel

/-! ## Planner -/

theorem test_append :
    ((after (.appendMove .director (movePayload ⟨1000, 0, 0⟩ 500 0 [])) (inState .parked .ready)).pln.queue.map
      Move.origin) = [.director] := by decide +kernel
theorem test_append_21_bytes :
    sends (.appendMove .director (movePayload ⟨1000, 0, 0⟩ 500 0 [0, 0, 0, 0])) (inState .parked .ready) =
      [⟨.director, .errorReport .badLength 0⟩] := by decide +kernel
theorem test_resume :
    (let s := inState .hold .streaming
     (after (.resume .pilot 0 0) { s with pln := { s.pln with queue := [move1] } }).fcu.flight) = .track := by
  decide +kernel
theorem test_servo_moves : (after .servoEvent (flying .track .moving none)).pln.pos = ⟨501008, 0, 0⟩ := by decide +kernel
theorem test_stick :
    (after (.stick .pilot (intField 2 2000 ++ intField 2 (-2000) ++ intField 2 5)) (inState .stick .streaming)).pln.stick.q =
      ⟨1000, -1000, 5⟩ := by decide +kernel
/-- A STICK taken before the expiry restarts the timer, and the expiry does not happen. -/
theorem test_stick_before_expiry :
    (let s := inState .stick .streaming
     let s : State := { s with pln := { s.pln with stick := ⟨⟨9, 9, 9⟩, some 1, 0⟩ } }
     let t := after (.stick .pilot (List.replicate 6 1)) s
     (after .stickTimerExpiry s).pln.stick.q = Vec3.zero ∧ after .stickTimerExpiry t = t ∧
       t.pln.stick = ⟨⟨257, 257, 257⟩, some 200000, 0⟩) := by decide +kernel
theorem test_take_stick : (after (.takeStick .pilot 0 0) (inState .hold .streaming)).fcu.flight = .stick := by
  decide +kernel
theorem test_stream_primes :
    (after (.streamStart .director (natField 4 9 ++ natField 2 65535)) (inState .hold .streaming)).pln.stream.state =
      .primed := by decide +kernel
theorem test_stream_data_wraps :
    (let s := streaming .hold .primed 0
     let s := { s with pln := { s.pln with stream := { s.pln.stream with expected := 65535 } } }
     (after (.streamData .director (samplesPayload 65535 2)) s).pln.stream.expected) = 1 := by decide +kernel
theorem test_zone_stop :
    (after (.zonePut .safety (zonePayload 0 0 0 1 (zone1 0 true).box 0 0)) (flying .track .moving none)).fcu.cause =
      .zoneStop := by decide +kernel
theorem test_marker_set :
    ((after (.markerSet .pilot (markerPayload 3 ⟨0, 0, 0⟩ 100 0 1)) (inState .parked .ready)).mrk.markers.get 3).isSome =
      true := by decide +kernel

/-! ## Channels, reference, store -/

theorem test_servo_sends_restart :
    (let s := after (.restartDrive .service 4 0) (inState .parked .ready)
     (after .servoEvent s).ch.chans.q3.sent) = some ⟨.restart, 0⟩ := by decide +kernel
theorem test_reference_starts :
    (after (.reference .service 0 0) (inState .parked .ready)).ch.chans.q2.state = .setting := by decide +kernel
theorem test_bad_frame : (after (.driveAnswer .w2 []) State.reset).ch.chans.q1.badFrames = 1 := by decide +kernel
theorem test_edge_acquires : (after (.referenceEdge 100) State.reset).fru.ref = .acquiring := by decide +kernel
theorem test_save_writes :
    (after (.saveWriteEnd true) (after (.saveSettings .service 0 0) (inState .parked .ready))).sto.defaulted = false := by
  decide +kernel
theorem test_set_timing :
    (after (.setTiming .service (natField 2 1000 ++ natField 1 4)) (inState .parked .ready)).fru.timing = ⟨1000, 4⟩ := by
  decide +kernel
theorem test_part_reset : (after (.partReset .high true) (inState .hold .streaming)).fcu.flight = .parked := by
  decide +kernel

/-! ## The hypotheses of the statements are met -/

theorem offers_head {s : State} {m : Move} {rest : List Move} (hi : s.pln.inHand = none) (hq : s.pln.queue = m :: rest) :
    s.offers m rest := by
  refine Or.inr ⟨fun h k => ?_, hq⟩
  rw [hi] at k
  exact absurd k (by simp)

theorem test_hyp_StepRunsFrontCommand :
    ({ State.reset with pending := [.servoEvent] } : State).pending = [.servoEvent] ∧ State.reset.pending = [] :=
  ⟨rfl, rfl⟩

theorem test_hyp_PartResetLoadsAndTrips :
    State.reset.flt.line = false ∧ (after .estopAssertion State.reset).flt.line = true := by decide +kernel

theorem test_hyp_TripByLineAndRecord :
    (let s := inState .hold .streaming
     let t := inState .tripped .ready
     let u := after .estopAssertion State.reset
     s.flt.line = false ∧ s.fcu.flight ≠ .tripped ∧ s.takesRecord ⟨.pilot, 0x10, [0, 0]⟩ ∧
       t.takesRecord ⟨.safety, 0x10, [0, 0]⟩ ∧ t.fcu.flight = .tripped ∧ t.flt.line = false ∧ t.link.handed = [] ∧
       u.flt.line = true ∧ u.link.handed = [] ∧ Flag.slack.isTrip = true ∧
       (report .slack 2 none s).fcu.flight = .tripped ∧ (report .slack 2 none t).flag .slack = ⟨true, 1, 2⟩) := by
  simp only [State.takesRecord, State.decodesNow]; decide +kernel

theorem test_hyp_FlagsRaisedAndCleared_clear :
    (let s := inState .tripped .braking
     let t := inState .tripped .ready
     s.takesRecord ⟨.safety, 0x11, [0, 0]⟩ ∧ (s.chan .w4).state = .braking ∧ t.takesRecord ⟨.safety, 0x11, [0, 0]⟩ ∧
       (t.chan .w1).state ≠ .braking ∧ (t.chan .w2).state ≠ .braking ∧ (t.chan .w3).state ≠ .braking ∧
       (t.chan .w4).state ≠ .braking) := by
  simp only [State.takesRecord, State.decodesNow]; decide +kernel

theorem test_hyp_FlagsRaisedAndCleared_raise :
    Flag.wallStrike.noticeCode = some .wallStrike ∧ Flag.feedbackErrors.noticeCode = some .feedbackErrors ∧
      (State.reset.flag .wallStrike).set = false ∧
      ((State.reset.setFlag .wallStrike ⟨true, 255, 0⟩).flag .wallStrike).set = true := by decide +kernel

theorem test_hyp_LinkRefusesInOrder :
    (let s := State.reset
     let t := inState .parked .ready
     repliedCommand (.saveSettings .service 0 0) = true ∧ recordOf (.saveSettings .service 0 0) = some ⟨.service, 0x1D, [0, 0]⟩ ∧
       s.decodesNow ⟨.service, 0x1D, [0, 0]⟩ ∧ s.fcu.permit = false ∧
       t.decodesNow ⟨.director, 0x09, [0, 0]⟩ ∧
       sends (.arm .director 0 0) t = [⟨.director, .errorReport .notPermitted 0x09⟩] ∧ t.decodesNow ⟨.pilot, 0x21, [0]⟩ ∧
       sends (.appendMove .pilot [0]) t = [⟨.pilot, .errorReport .badLength 0x21⟩] ∧
       t.takesRecord ⟨.pilot, 0x09, [0, 0]⟩ ∧ t.takesRecord ⟨.pilot, 0x21, List.replicate 17 0⟩ ∧
       t.takesRecord ⟨.pilot, 0x21, List.replicate 19 0⟩ ∧ ¬ t.takesRecord ⟨.pilot, 0x21, List.replicate 20 0⟩ ∧
       t.takesRecord ⟨.pilot, 0x21, List.replicate 21 0⟩ ∧ t.takesRecord ⟨.service, 0x1F, [0, 0]⟩) := by
  simp only [State.takesRecord, State.decodesNow]; decide +kernel

theorem test_hyp_OneReplyPerDecode :
    repliedCommand (.arm .pilot 0 0) = true ∧ recordOf (.arm .pilot 0 0) = some ⟨.pilot, 0x09, [0, 0]⟩ ∧
      State.reset.decodesNow ⟨.pilot, 0x09, [0, 0]⟩ ∧ repliedCommand (.stick .pilot []) = false ∧
      recordOf (.stick .pilot []) = some ⟨.pilot, 0x20, []⟩ ∧ State.reset.decodesNow ⟨.pilot, 0x20, []⟩ := by
  simp only [State.decodesNow]; decide +kernel

/-- Part states in which LINK cannot decode: the transmit queue full, an older record first, a RESET_PART taken. -/
theorem test_hyp_RecordsWaitAndLeave_wait :
    (let r : Record := ⟨.pilot, 0x09, [0, 0]⟩
     let full : State := { State.reset with
       link := { State.reset.link with tx := List.replicate 64 ⟨.pilot, .ack 0x09 0⟩ } }
     let behind : State := { State.reset with
       link := { State.reset.link with decodeQueue := List.replicate 8 ⟨.safety, 0x10, [0, 0]⟩ } }
     let due : State := { State.reset with link := { State.reset.link with resetPhase := .due } }
     Instr.wellFormed (.arm .pilot 0 0) = true ∧ recordOf (.arm .pilot 0 0) = some r ∧
       full.link.handed = [] ∧ full.link.resetPhase = .running ∧ 64 ≤ full.link.tx.length ∧
       behind.link.handed = [] ∧ behind.link.decodeQueue.head? = some ⟨.safety, 0x10, [0, 0]⟩ ∧
       (⟨.safety, 0x10, [0, 0]⟩ : Record) ≠ r ∧ due.link.resetPhase ≠ .running) := by decide +kernel

/-- The assembler hunting, after three bytes, and in a body whose last byte is due. -/
theorem test_hyp_AssemblerTakesBytes :
    (let at' : Assembler → State := fun a => { State.reset with link := { State.reset.link with assembler := a } }
     (at' .hunting).link.resetPhase = .running ∧ (at' .hunting).link.handed = [] ∧
       (at' .hunting).link.assembler = .hunting ∧ (at' (.header [1, 2])).link.assembler = .header [1, 2] ∧
       (at' (.header [1, 2, 3])).link.assembler = .header [1, 2, 3] ∧ headerCheck [1, 2, 3] ≠ headerCheck [1, 2, 4] ∧
       [0xD5, 2, 3, 4] = ([] : List Byte) ++ 0xD5 :: [2, 3, 4] ∧ (typeOfByte 0x09).toNat < 0x20 ∧
       0x20 ≤ (typeOfByte 0x21).toNat ∧
       (at' (.body 0x21 0 [7])).link.assembler = .body 0x21 0 [7] ∧ ([7] : List Byte).length + 1 = 0 + 2) := by
  decide +kernel

/-- The gap timer's time left up to the next servo event, and one µs more. -/
theorem test_hyp_RecordsWaitAndLeave_leave :
    (let s : State := { State.reset with
       link := { State.reset.link with gapTimer := some 2000, tx := [⟨.pilot, .ack 0x1E 0⟩] } }
     let t : ResetPhase → State := fun p => { s with link := { s.link with resetPhase := p } }
     s.link.handed = [] ∧ s.link.resetPhase = .running ∧ s.fru.now + 2000 ≤ s.fru.horizon ∧
       s.fru.horizon < s.fru.now + 2001 ∧ State.reset.link.gapTimer = none ∧ (after .gapTimeout s).link.counters.gap = 1 ∧
       s.link.tx = ⟨.pilot, .ack 0x1E 0⟩ :: [] ∧ (t (.ackQueued 1)).link.resetPhase = .ackQueued 1 ∧
       (t (.ackQueued 2)).link.resetPhase = .ackQueued 2 ∧ (t .due).link.resetPhase = .due ∧
       State.reset.link.tx = []) := by decide +kernel

theorem test_hyp_WireRecordIsReceived :
    bodyFits 0x09 [1, 2] = true ∧ bodyFits 0x21 [] = true ∧ bodyFits 0x21 (List.replicate 512 0) = true ∧
      State.reset.link.resetPhase = .running ∧ State.reset.link.handed = [] ∧
      State.reset.link.assembler = .hunting ∧ State.reset.link.decodeQueue.length < 8 := by decide +kernel

theorem test_hyp_NoticeCopiesRule :
    ({ State.reset.link with counters := ⟨65535, 0, 0, 0, 0, 0, 0, 0⟩ } : Link).counters.dropped ≤ 65535 := by decide

theorem test_hyp_ReadsAnswerAndChangeNothing :
    (let s := inState .parked .ready
     s.takesRecord ⟨.pilot, 0x08, [0, 0]⟩ ∧ s.takesRecord ⟨.service, 0x1F, [0, 0]⟩ ∧ s.takesRecord ⟨.safety, 0x16, [0, 0]⟩ ∧
       s.takesRecord ⟨.pilot, 0x18, [23, 0]⟩ ∧ s.takesRecord ⟨.pilot, 0x18, [24, 0]⟩ ∧
       s.takesRecord ⟨.director, 0x19, [3, 0]⟩ ∧ s.takesRecord ⟨.director, 0x19, [4, 0]⟩ ∧
       0x2E < (0x2F : BitVec 6).toNat ∧ s.decodesNow ⟨.pilot, 0x2F, []⟩ ∧ (0x07 : BitVec 6).toNat < 0x08 ∧
       s.decodesNow ⟨.pilot, 0x07, [0, 0]⟩) := by
  simp only [State.takesRecord, State.decodesNow]; decide +kernel

theorem test_hyp_ConsentPermitAndMask :
    (let s := State.reset
     s.takesRecord ⟨.safety, 0x12, [1, 0]⟩ ∧ s.takesRecord ⟨.safety, 0x12, [2, 0]⟩ ∧
       s.takesRecord ⟨.safety, 0x13, [1, 0]⟩ ∧ s.takesRecord ⟨.safety, 0x13, [2, 0]⟩ ∧
       s.takesRecord ⟨.pilot, 0x17, [31, 0]⟩ ∧ s.takesRecord ⟨.pilot, 0x17, [32, 0]⟩) := by
  simp only [State.takesRecord, State.decodesNow]; decide +kernel

/-- The state of test_arm meets every check of ARM. -/
theorem test_hyp_ArmAndParkTaken_arm :
    (let s := inState .parked .ready
     s.takesRecord ⟨.pilot, 0x09, [0, 0]⟩ ∧ s.fcu.flight = .parked ∧ s.fcu.consent = true ∧
       (∀ f : Flag, f.isTrip = true → (s.flag f).set = false) ∧ s.flt.line = false ∧ s.sto.save = .idle ∧
       s.ch.op.kind = .noSetting ∧ s.env.boxValid = true ∧ (∀ w, (s.chan w).state = .ready) ∧
       (∀ w, (s.chan w).last.lengthValid = true) ∧ s.fcu.pose.valid = true ∧ s.env.free s.fcu.pose.pos = true ∧
       ∀ w, ((s.chan w).last.length : Int) - setpointAt (s.sol.anchors.get (winchIndex w)) s.fcu.pose.pos ≤
           1000 * s.env.limits.poseTol ∧
         (setpointAt (s.sol.anchors.get (winchIndex w)) s.fcu.pose.pos : Int) - (s.chan w).last.length ≤
           1000 * s.env.limits.poseTol) := by
  refine ⟨?_, rfl, rfl, ?_, rfl, rfl, rfl, rfl, ?_, ?_, rfl, ?_, ?_⟩
  · simp only [State.takesRecord, State.decodesNow]; decide +kernel
  · intro f; cases f <;> decide +kernel
  · intro w; cases w <;> rfl
  · intro w; cases w <;> rfl
  · decide +kernel
  · intro w; cases w <;> decide +kernel

/-- A state for each of ARM's refusals. -/
theorem test_hyp_ArmRefusedInOrder :
    (let s := inState .parked .ready
     let r : Record := ⟨.pilot, 0x09, [0, 0]⟩
     let far : State := { s with ch := { s.ch with chans := s.ch.chans.map fun c =>
       { c with last := { c.last with length := 1000 * s.env.limits.poseTol + 1 } } } }
     let outside : State := { s with fcu := { s.fcu with pose := ⟨⟨9000001, 0, 0⟩, true, .park⟩ } }
     let blocked := withZone { zone1 0 true with box := ⟨⟨-1, -1, -1⟩, ⟨1, 1, 1⟩⟩ } s
     (inState .hold .streaming).takesRecord r ∧ (inState .hold .streaming).fcu.flight ≠ .parked ∧
       s.takesRecord r ∧ ({ s with fcu := { s.fcu with consent := false } } : State).takesRecord r ∧
       ({ s with flt := { s.flt with line := true } } : State).flt.line = true ∧
       ({ s with sto := { s.sto with save := .waiting Settings.default } } : State).sto.save ≠ .idle ∧
       ({ s with env := { s.env with boxValid := false } } : State).env.boxValid = false ∧
       winchBits ((inState .parked .absent).ch.chans.map fun c => decide (c.state ≠ .ready)) = 15 ∧
       ({ s with fcu := { s.fcu with pose := { s.fcu.pose with valid := false } } } : State).fcu.pose.valid = false ∧
       inBox outside.env.shrunk outside.fcu.pose.pos = false ∧
       inBox blocked.env.shrunk blocked.fcu.pose.pos = true ∧ blocked.env.blockedAt blocked.fcu.pose.pos = some 23 ∧
       far.env.free far.fcu.pose.pos = true ∧
       winchBits (far.ch.chans.zip far.sol.anchors fun c a =>
         decide (1000 * far.env.limits.poseTol < ((c.last.length : Int) - setpointAt a far.fcu.pose.pos).natAbs)) = 15) := by
  simp only [State.takesRecord, State.decodesNow]; decide +kernel

theorem test_hyp_ArmAndParkTaken_park :
    (inState .hold .streaming).takesRecord ⟨.safety, 0x0A, [0, 0]⟩ ∧ (inState .hold .streaming).fcu.flight = .hold ∧
      (inState .track .streaming).takesRecord ⟨.safety, 0x0A, [0, 0]⟩ ∧ (inState .track .streaming).fcu.flight ≠ .hold := by
  simp only [State.takesRecord, State.decodesNow]; decide +kernel

theorem test_hyp_HoldBySeatAndState :
    (let r : Seat → Record := fun seat => ⟨seat, 0x0B, [0, 0]⟩
     (inState .parked .ready).takesRecord (r .pilot) ∧ (inState .arming .releasing).takesRecord (r .pilot) ∧
       (inState .hold .streaming).takesRecord (r .safety) ∧ (flying .track .moving none).takesRecord (r .director) ∧
       (flying .track .moving none).pln.inHand = some (hand1 .moving) ∧
       (flying .track .dwelling none).takesRecord (r .pilot) ∧
       (flying .track .dwelling none).pln.inHand = some (hand1 .dwelling) ∧
       (inState .stick .streaming).takesRecord (r .pilot) ∧ (streaming .stream .playing 3).takesRecord (r .safety) ∧
       (flying .stopping .moving (some ⟨.path, 11999⟩)).takesRecord (r .safety) ∧
       (flying .stopping .moving (some ⟨.path, 12000⟩)).takesRecord (r .safety) ∧
       roundNat ((flying .stopping .moving none).env.limits.ae * (flying .stopping .moving none).fru.timing.ts) 1000 =
         12000) := by
  simp only [State.takesRecord, State.decodesNow]; decide +kernel

/-- An append that is taken with a field limited and one with none, from a state whose queue holds 31 moves. -/
theorem test_hyp_AppendMoveRule_taken :
    (let s := inState .hold .streaming
     let s : State := { s with pln := { s.pln with queue := List.replicate 31 move1 } }
     let p := movePayload ⟨2000, 0, 0⟩ 500 0 []
     let q := movePayload ⟨2000, 0, 0⟩ 10001 8 (natField 2 4001)
     s.takesRecord ⟨.pilot, 0x21, p⟩ ∧ s.fcu.flight ≠ .tripped ∧ p.length = moveLength p ∧
       legalMove p (moveOf p .pilot) = true ∧ s.pln.queue.length < 32 ∧ s.env.boxValid = true ∧
       s.env.free (toMicrons (moveOf p .pilot).target) = true ∧
       (predictedStart s).map (fun start => s.env.pathBlocked start (toMicrons (moveOf p .pilot).target)) = some false ∧
       ¬ s.env.limits.vmax < (moveOf p .pilot).cruise ∧ (moveOf p .pilot).accel = none ∧
       s.takesRecord ⟨.pilot, 0x21, q⟩ ∧ q.length = moveLength q ∧ legalMove q (moveOf q .pilot) = true ∧
       s.env.limits.vmax < (moveOf q .pilot).cruise ∧ (moveOf q .pilot).accel = some 4001) := by
  simp only [State.takesRecord, State.decodesNow]; decide +kernel

/-- A state and a payload for each of APPEND_MOVE's refusals. -/
theorem test_hyp_AppendMoveRule_refused :
    (let s := withZone (zone1 0 true) (inState .hold .streaming)
     let p := movePayload ⟨500, 0, 0⟩ 500 0 []
     let fits : List Byte → Prop := fun p => s.takesRecord ⟨.pilot, 0x21, p⟩ ∧ p.length = moveLength p
     let target : List Byte → Vec3 := fun p => toMicrons (moveOf p .pilot).target
     (inState .tripped .ready).takesRecord ⟨.pilot, 0x21, p⟩ ∧ fits p ∧
       s.takesRecord ⟨.pilot, 0x21, p ++ [0, 0]⟩ ∧ (p ++ [0, 0]).length ≠ moveLength (p ++ [0, 0]) ∧
       fits (movePayload ⟨500, 0, 0⟩ 0 0 []) ∧ legalMove (movePayload ⟨500, 0, 0⟩ 0 0 []) (moveOf (movePayload ⟨500, 0, 0⟩ 0 0 []) .pilot) = false ∧
       ({ s with pln := { s.pln with queue := List.replicate 32 move1 } } : State).takesRecord ⟨.pilot, 0x21, p⟩ ∧
       ({ s with env := { s.env with boxValid := false } } : State).takesRecord ⟨.pilot, 0x21, p⟩ ∧
       inBox s.env.shrunk (target (movePayload ⟨9001, 0, 0⟩ 500 0 [])) = false ∧
       inBox s.env.shrunk (target (movePayload ⟨900, 0, 0⟩ 500 0 [])) = true ∧
       s.env.blockedAt (target (movePayload ⟨900, 0, 0⟩ 500 0 [])) = some 23 ∧
       s.env.blockedAt (target (movePayload ⟨4000, 0, 0⟩ 500 0 [])) = none ∧ predictedStart s = some Vec3.zero ∧
       s.env.pathBlocked Vec3.zero (target (movePayload ⟨4000, 0, 0⟩ 500 0 [])) = true ∧
       (flying .track .moving none).pln.queue = [] ∧ (flying .track .moving none).pln.inHand = some (hand1 .moving)) := by
  simp only [State.takesRecord, State.decodesNow]; decide +kernel

/-- A queued head and a suspended move that begin, the head without length as well. -/
theorem test_hyp_ResumeAndStepRule_begin :
    (let s := inState .hold .streaming
     let s : State := { s with pln := { s.pln with queue := [move1] } }
     let z : State := { s with pln := { s.pln with queue := [{ move1 with target := Vec3.zero }] } }
     let u := flying .hold .suspended none
     s.fcu.flight = .hold ∧ s.offers move1 [] ∧ u.offers move1 [] ∧ z.offers { move1 with target := Vec3.zero } [] ∧
       inBox s.env.shrunk s.pln.pos = true ∧ inBox s.env.shrunk (toMicrons move1.target) = true ∧
       s.env.pathBlocked s.pln.pos (toMicrons move1.target) = false ∧ s.takesRecord ⟨.pilot, 0x0C, [0, 0]⟩ ∧
       s.takesRecord ⟨.pilot, 0x0D, [0, 0]⟩) := by
  refine ⟨rfl, ?_, ?_, ?_, by decide +kernel, by decide +kernel, by decide +kernel, ?_, ?_⟩
  · exact offers_head rfl rfl
  · exact Or.inl ⟨hand1 .suspended, rfl, rfl, rfl, rfl⟩
  · exact offers_head rfl rfl
  · simp only [State.takesRecord, State.decodesNow]; decide +kernel
  · simp only [State.takesRecord, State.decodesNow]; decide +kernel

theorem test_hyp_ResumeAndStepRule_fail :
    (let s := inState .hold .streaming
     let s : State := { s with pln := { s.pln with queue := [{ move1 with target := ⟨9001, 0, 0⟩ }] } }
     s.takesRecord ⟨.pilot, 0x0C, [0, 0]⟩ ∧ (inState .track .streaming).takesRecord ⟨.pilot, 0x0D, [0, 0]⟩ ∧
       (inState .hold .streaming).pln.queue = [] ∧ (inState .hold .streaming).pln.inHand = none ∧
       s.offers { move1 with target := ⟨9001, 0, 0⟩ } [] ∧
       inBox s.env.shrunk (toMicrons ⟨9001, 0, 0⟩) = false) := by
  refine ⟨?_, ?_, rfl, rfl, ?_, by decide +kernel⟩
  · simp only [State.takesRecord, State.decodesNow]; decide +kernel
  · simp only [State.takesRecord, State.decodesNow]; decide +kernel
  · exact offers_head rfl rfl

theorem test_hyp_FlushMovesBySeat :
    (let s := flying .hold .suspended none
     s.takesRecord ⟨.director, 0x14, [0, 0]⟩ ∧ s.takesRecord ⟨.pilot, 0x14, [0, 0]⟩ ∧
       s.pln.inHand = some (hand1 .suspended) ∧ (inState .hold .streaming).takesRecord ⟨.safety, 0x14, [0, 0]⟩ ∧
       (inState .hold .streaming).pln.inHand = none) := by
  simp only [State.takesRecord, State.decodesNow]; decide +kernel

theorem test_hyp_MoveEndDecision :
    move1.dwell = none ∧ ({ move1 with dwell := some 1 } : Move).dwell = some 1 ∧
      ({ space.mrk with holdPending := true } : Mrk).holdPending = true ∧ space.pln.queue = [] ∧
      ({ space.pln with queue := [{ move1 with tagged := true }] } : Pln).queue = { move1 with tagged := true } :: [] ∧
      move1.tagged = false := by decide

/-- A begin that passes its validation, one without length, and one that an active zone on its path fails. -/
theorem test_hyp_MoveEndDecision_begin :
    (let s := inState .track .streaming
     let wall : State → State := withZone { zone1 0 true with box := ⟨⟨1501, -100, -100⟩, ⟨2000, 100, 100⟩⟩ }
     let begin' : Move → State → State := fun m => beginWith id m false
     inBox s.env.shrunk (commandedPosition s) = true ∧ inBox s.env.shrunk (toMicrons move1.target) = true ∧
       s.env.pathBlocked (commandedPosition s) (toMicrons move1.target) = false ∧
       ((begin' move1 s).pln.inHand.map MoveInHand.dist) = some 1000000 ∧
       ((begin' { move1 with target := Vec3.zero } s).pln.inHand.map MoveInHand.dist) = some 0 ∧
       (wall s).env.pathBlocked (commandedPosition s) (toMicrons move1.target) = true ∧
       (begin' move1 (wall s)).fcu.cause = .pathRejected) := by decide +kernel

theorem test_hyp_PathProfileBounds :
    (hand1 .moving).prog < (hand1 .moving).dist ∧ 0 < (1 : Nat) ∧ (0 : Nat) ≤ 1 ∧ (1 : Nat) ≤ 1 := by decide

theorem test_hyp_TakeStickByState :
    (let r : Record := ⟨.pilot, 0x0E, [0, 0]⟩
     (inState .stopping .streaming).takesRecord r ∧ (inState .stick .streaming).takesRecord r ∧
       (inState .hold .streaming).takesRecord r ∧ (flying .track .moving none).takesRecord r ∧
       (flying .track .moving none).pln.inHand = some (hand1 .moving) ∧ (flying .track .dwelling none).takesRecord r ∧
       (flying .track .dwelling none).pln.inHand = some (hand1 .dwelling) ∧
       (streaming .stream .playing 3).takesRecord r) := by
  simp only [State.takesRecord, State.decodesNow]; decide +kernel

theorem test_hyp_StickInputRules :
    (let s := inState .stick .streaming
     let u : Nat → State := fun left => { s with pln := { s.pln with stick := ⟨Vec3.zero, some left, 0⟩ } }
     s.decodesNow ⟨.pilot, 0x20, List.replicate 6 0⟩ ∧ (inState .hold .streaming).decodesNow ⟨.pilot, 0x20, [0]⟩ ∧
       s.takesRecord ⟨.pilot, 0x0F, [0, 0]⟩ ∧ s.fcu.flight = .stick ∧
       (inState .hold .streaming).takesRecord ⟨.pilot, 0x0F, [0, 0]⟩ ∧ (u 1).fcu.flight = .stick ∧
       (u 2000).fru.now + 2000 ≤ (u 2000).fru.horizon ∧ (u 2001).fru.horizon < (u 2001).fru.now + 2001 ∧
       (after .stickTimerExpiry (u 2000)).flag .stickTimeout = ⟨true, 1, 0⟩ ∧
       s.fru.horizon < s.fru.now + 1000 * s.env.limits.stickTimeout ∧ s.pln.stick.timer = none ∧ s.link.handed = []) := by
  simp only [State.takesRecord, State.decodesNow]; decide +kernel

/-- A start frame equal to the frame count is late; one more is taken; each stream state takes or refuses STREAM_END. -/
theorem test_hyp_StreamStartAndEnd :
    (let p := natField 4 1 ++ natField 2 0
     let s := inState .hold .streaming
     let late : State := { s with fru := { s.fru with frames := 1 } }
     let r : Record := ⟨.director, 0x15, [0, 0]⟩
     s.takesRecord ⟨.director, 0x22, p⟩ ∧ s.fru.frames < unsignedAt p 0 4 ∧ late.takesRecord ⟨.director, 0x22, p⟩ ∧
       unsignedAt p 0 4 ≤ late.fru.frames ∧ (streaming .hold .primed 0).takesRecord ⟨.director, 0x22, p⟩ ∧
       s.takesRecord r ∧ s.pln.stream.state = .idle ∧ (streaming .hold .primed 0).takesRecord r ∧
       (streaming .stream .playing 1).takesRecord r ∧ (streaming .stream .playing 1).pln.stream.samples ≠ [] ∧
       (streaming .stream .playing 0).takesRecord r ∧ (streaming .stream .playing 0).pln.stream.samples = []) := by
  simp only [State.takesRecord, State.decodesNow]; decide +kernel

/-- Records equal to E, one behind, all behind, half the range behind and ahead, and the three kinds discarded. -/
theorem test_hyp_StreamDataByIndex :
    (let s := streaming .hold .primed 3
     let back : Nat → Nat := fun j => (s.pln.stream.expected - BitVec.ofNat 16 j).toNat
     s.decodesNow ⟨.director, 0x23, samplesPayload 3 8⟩ ∧ s.pln.stream.state = .primed ∧
       (samplesPayload 3 8).length = 2 + 12 * 8 ∧ (samplesOf (samplesPayload 3 8) 8).all legalPosition = true ∧
       back 3 = 0 ∧ back 2 = 1 ∧ back 1 = 2 ∧ back (3 + 32768) = 32768 ∧ back (3 + 32767) = 32769 ∧ back 4 = 65535 ∧
       (samplesOf (natField 2 3 ++ vecField ⟨300000001, 0, 0⟩) 1).all legalPosition = false ∧
       (samplesPayload 3 9).length = 2 + 12 * 9 ∧ (inState .hold .streaming).pln.stream.state = .idle ∧
       (streaming .hold .primed 64).pln.stream.samples.length = 64) := by
  simp only [State.decodesNow]; decide +kernel

/-- A ZONE_SET of an empty slot, and of one above 23, whose active byte is 2 (log 30). -/
theorem test_zoneSet_slot_first :
    (let s := inState .hold .streaming
     ∀ slot ∈ [(22 : Byte), 24],
       (sends (.zoneSet .pilot [slot, 0, 0, 2]) s).map TxRecord.msg = [.errorReport .noSuchZone 0]) := by decide +kernel

/-- READ_POSE after ARM and before the next servo event, with a retained pose newer than the snapshot, in PARKED before it,
and after that servo event (R151; log 26). -/
theorem test_pose_after_arm :
    (let parked := inState .parked .ready
     let s : State := { parked with fcu := { parked.fcu with pose := ⟨⟨1000, 0, 0⟩, true, .declare⟩ } }
     let armed := startArming s
     posePosition s = ⟨1000, 0, 0⟩ ∧ armed.fcu.flight = .arming ∧ posePosition armed = Vec3.zero ∧
       posePosition (after .servoEvent armed) = ⟨1000, 0, 0⟩) := by decide +kernel

/-- Edits of slots 23 and 24, of a locked zone with its code, of an occupied zone, with a flag of 0, 1 and 2. -/
theorem test_hyp_ZoneEdits :
    (let s := withZone (zone1 5 false) (inState .hold .streaming)
     let box : Box := (zone1 0 true).box
     let p := zonePayload 23 5 0 1 box 0 0
     let z : Zone := ⟨.keepOut, true, box, 0, .pilot⟩
     s.takesRecord ⟨.pilot, 0x24, zonePayload 24 0 0 1 box 0 0⟩ ∧ s.takesRecord ⟨.pilot, 0x24, p⟩ ∧
       zoneOf (zonePayload 0 0 2 1 box 0 0) s.env.limits.vmax .pilot = none ∧
       zoneOf p s.env.limits.vmax .pilot = some z ∧ s.env.zones[23] = some (zone1 5 false) ∧ unsignedAt p 1 2 = 5 ∧
       s.pln.inHand = none ∧ inBox (inflatedBox s.env.limits.margin z.box) (commandedPosition s) = false ∧
       inBox (inflatedBox s.env.limits.margin ⟨⟨-1, -1, -1⟩, ⟨1, 1, 1⟩⟩) (commandedPosition s) = true ∧
       s.takesRecord ⟨.pilot, 0x25, [23, 5, 0, 1]⟩ ∧ s.takesRecord ⟨.pilot, 0x25, [23, 5, 0, 2]⟩ ∧
       s.takesRecord ⟨.pilot, 0x25, [24, 5, 0, 1]⟩ ∧ s.env.zones[22] = none ∧
       s.takesRecord ⟨.pilot, 0x26, [23, 5, 0]⟩ ∧ s.takesRecord ⟨.pilot, 0x26, [24, 5, 0]⟩ ∧
       s.takesRecord ⟨.pilot, 0x26, [22, 5, 0]⟩) := by
  simp only [State.takesRecord, State.decodesNow]; decide +kernel

theorem test_hyp_lockPasses : lockPasses .pilot 5 (some (zone1 5 true)) ∧ lockPasses .pilot 0 none := by
  refine ⟨fun z h => ?_, fun z h => absurd h (by simp)⟩
  rw [Option.some.injEq] at h
  subst h
  exact Or.inr (Or.inr rfl)

theorem test_hyp_ZoneLocksHold :
    (let s := withZone (zone1 5 true) (inState .hold .streaming)
     let p := zonePayload 23 4 0 1 (zone1 0 true).box 0 0
     unsignedAt p 0 1 = 23 ∧ s.env.zones[23] = some (zone1 5 true) ∧ (zone1 5 true).lock ≠ 0 ∧
       unsignedAt p 1 2 ≠ (zone1 5 true).lock ∧ s.takesRecord ⟨.pilot, 0x24, p⟩ ∧
       zoneOf p s.env.limits.vmax .pilot ≠ none ∧ s.takesRecord ⟨.pilot, 0x25, [23, 4, 0, 1]⟩ ∧
       s.takesRecord ⟨.pilot, 0x26, [23, 4, 0]⟩) ∧
      exec (.estopDeassertion) State.reset = .next (after .estopDeassertion State.reset) := by
  refine ⟨?_, rfl⟩
  simp only [State.takesRecord, State.decodesNow]; decide +kernel

/-- A zone across what is left of a flown move, and of one abandoned already, by ZONE_PUT and by ZONE_SET. -/
theorem test_hyp_ZoneStopOnCutPath :
    (let s := flying .track .moving none
     let u := flying .stopping .abandoned (some ⟨.path, 12000⟩)
     let z := zone1 0 true
     let t := withZone (zone1 0 false) s
     let p := zonePayload 23 0 0 1 z.box 0 0
     s.takesRecord ⟨.pilot, 0x24, p⟩ ∧ unsignedAt p 0 1 < 24 ∧ zoneOf p s.env.limits.vmax .pilot = some z ∧
       ¬ s.occupies z ∧ s.cutBy z (hand1 .moving) ∧ u.takesRecord ⟨.pilot, 0x24, p⟩ ∧ ¬ u.occupies z ∧
       u.cutBy z (hand1 .abandoned) ∧ t.takesRecord ⟨.pilot, 0x25, [23, 0, 0, 1]⟩ ∧
       t.env.zones[23] = some (zone1 0 false) ∧ ¬ t.occupies z ∧ t.cutBy z (hand1 .moving)) := by
  refine ⟨?_, by decide +kernel, by decide +kernel, ?_, ?_, ?_, ?_, ?_, ?_, by decide +kernel, ?_, ?_⟩
  · simp only [State.takesRecord, State.decodesNow]; decide +kernel
  · simp only [State.occupies]; decide +kernel
  · exact ⟨⟨rfl, Or.inl ⟨rfl, rfl⟩⟩, rfl, rfl, by decide +kernel⟩
  · simp only [State.takesRecord, State.decodesNow]; decide +kernel
  · simp only [State.occupies]; decide +kernel
  · exact ⟨⟨rfl, Or.inr ⟨rfl, _, rfl, rfl⟩⟩, rfl, rfl, by decide +kernel⟩
  · simp only [State.takesRecord, State.decodesNow]; decide +kernel
  · simp only [State.occupies]; decide +kernel
  · exact ⟨⟨rfl, Or.inl ⟨rfl, rfl⟩⟩, rfl, rfl, by decide +kernel⟩

theorem test_hyp_MarkerEdits :
    (let s := inState .parked .ready
     let t : State := { s with mrk := { s.mrk with markers := s.mrk.markers.set 3 (some ⟨marker1, true⟩) } }
     let p := markerPayload 3 Vec3.zero 100 1 1
     s.takesRecord ⟨.pilot, 0x27, p⟩ ∧ unsignedAt p 0 1 = 3 ∧ (markerOf p).isSome = true ∧
       s.takesRecord ⟨.pilot, 0x27, markerPayload 4 Vec3.zero 100 1 1⟩ ∧ markerOf (markerPayload 3 Vec3.zero 99 1 1) = none ∧
       s.takesRecord ⟨.pilot, 0x1A, [3, 0]⟩ ∧ s.mrk.markers.get 3 = none ∧ t.takesRecord ⟨.pilot, 0x1A, [3, 0]⟩ ∧
       t.mrk.markers.get 3 ≠ none ∧ s.takesRecord ⟨.pilot, 0x1A, [4, 0]⟩) := by
  simp only [State.takesRecord, State.decodesNow]; decide +kernel

theorem test_hyp_MarkerInsideTest :
    legalPosition ⟨300000000, -300000000, -10000000⟩ = true ∧ legalPositionMm ⟨-300000, 300000, 150000⟩ = true ∧
      insideMarker marker1 ⟨100000, 0, 0⟩ = true ∧ insideMarker marker1 ⟨100001, 0, 0⟩ = false := by decide +kernel

/-- Settings records in PARKED that are taken, and at the ends of their ranges. -/
theorem test_hyp_SettingsTaken :
    (let s := inState .parked .ready
     let a := vecField ⟨300000, 0, 150000⟩ ++ vecField ⟨5000, 0, 0⟩ ++ natField 4 500000 ++ natField 4 1499999 ++ natField 4 1500000
     let l := limitsField Limits.default
     (inState .hold .streaming).takesRecord ⟨.service, 0x28, natField 1 4 ++ a⟩ ∧
       s.takesRecord ⟨.service, 0x28, natField 1 4 ++ a⟩ ∧ s.fcu.flight = .parked ∧ s.sto.save = .idle ∧
       s.ch.op.kind = .noSetting ∧ winchNumber .w4 = 4 ∧ legalAnchor (anchorOf (natField 1 4 ++ a)) = true ∧
       s.takesRecord ⟨.service, 0x29, boxField ⟨⟨0, 0, 0⟩, ⟨2001, 2001, 2001⟩⟩⟩ ∧
       legalBox ⟨⟨0, 0, 0⟩, ⟨2001, 2001, 2001⟩⟩ = true ∧ s.env.limits.margin = 1000 ∧
       s.takesRecord ⟨.service, 0x2A, l⟩ ∧ limitsOf l = Limits.default ∧ legalLimits (limitsOf l) = true ∧
       boxOrdered s.env.box = true ∧
       s.takesRecord ⟨.service, 0x2B, natField 1 1 ++ natField 2 0 ++ natField 2 1 ++ natField 2 2 ++ natField 2 3 ++ natField 2 5⟩ ∧
       legalChannelLimits ⟨0, 1, 2, 3, 5⟩ = true ∧
       s.takesRecord ⟨.service, 0x2E, vecField ⟨9000, 0, 0⟩⟩ ∧ inBox s.env.shrunk (toMicrons ⟨9000, 0, 0⟩) = true ∧
       inBox s.env.shrunk (toMicrons ⟨9001, 0, 0⟩) = false ∧ legalPositionMm ⟨300001, 0, 0⟩ = false ∧
       s.takesRecord ⟨.service, 0x2C, natField 2 2500 ++ natField 1 40⟩) := by
  simp only [State.takesRecord, State.decodesNow]; decide +kernel

theorem test_hyp_SetpointRule :
    legalAnchor ⟨⟨300000, 300000, 150000⟩, ⟨-5000, -5000, -5000⟩, 500000, 0, 1⟩ = true ∧
      legalPosition ⟨-300000000, -300000000, -10000000⟩ = true := by decide

theorem test_hyp_AcceptanceIsExact :
    boxOrdered space.env.box = true ∧ boxOrdered State.reset.env.box = false ∧
      acceptanceDetail State.reset.sol.anchors State.reset.env.box = 255 := by decide +kernel

/-- A SET_ANCHOR on the defaulted box is taken, with every winch failing both ways (R6, R13, R14). -/
theorem test_set_anchor_defaulted_box :
    (sends (.setAnchor .service (natField 1 1 ++ vecField ⟨1000, 1000, 1000⟩ ++ vecField Vec3.zero ++ natField 4 0 ++
        natField 4 1000 ++ natField 4 50000))
      { State.reset with fcu := { State.reset.fcu with permit := true } }).map TxRecord.msg = [.ack 0x28 255] := by
  decide +kernel

theorem test_hyp_PositionAndEnvelopeTests : ∀ axis, (space.env.box).lo.get axis ≤ (space.env.box).hi.get axis := by
  intro axis; cases axis <;> decide

/-- The slot that blocks a point, at a face of an inflated box and one µm before it; the position of each flight state. -/
theorem test_hyp_PositionAndEnvelopeTests_blocked :
    (let e := (withZone (zone1 0 true) space).env
     let s : State → State := fun s => { s with pln := { s.pln with pos := ⟨1, 0, 0⟩, holdPos := ⟨2, 0, 0⟩ } }
     let at' : FlightState → Vec3 := fun f => commandedPosition (s (inState f .ready))
     e.blockedAt ⟨800000, 0, 0⟩ = some 23 ∧ e.blockedAt ⟨799999, 0, 0⟩ = none ∧ e.free ⟨799999, 0, 0⟩ = true ∧
       e.free ⟨9000001, 0, 0⟩ = false ∧ e.pathBlocked Vec3.zero ⟨800000, 0, 0⟩ = true ∧
       e.pathBlocked Vec3.zero ⟨799999, 0, 0⟩ = false ∧ at' .parked = Vec3.zero ∧ at' .parking = ⟨2, 0, 0⟩ ∧
       at' .tripped = Vec3.zero ∧ at' .arming = ⟨1, 0, 0⟩ ∧ at' .stopping = ⟨1, 0, 0⟩) := by decide +kernel

/-- The clamp's two outcomes: set back at a face of the workspace and of a zone, and replaced by the position where a box
taken before holds what a later one leaves. -/
theorem test_hyp_HardClampSafe_values :
    (let bare : Env := { space.env with limits := { space.env.limits with margin := 0 } }
     let wall : Zone := ⟨.keepOut, true, ⟨⟨100, -100, -100⟩, ⟨200, 100, 100⟩⟩, 0, .pilot⟩
     let nook : Zone := ⟨.keepOut, true, ⟨⟨50, 40, -100⟩, ⟨120, 60, 100⟩⟩, 0, .pilot⟩
     let e : Env := { bare with zones := bare.zones.set 7 (some wall) }
     let f : Env := { e with zones := e.zones.set 3 (some nook) }
     e.hardClamp Vec3.zero ⟨150000, 50000, 0⟩ = ⟨99999, 50000, 0⟩ ∧ f.hardClamp Vec3.zero ⟨150000, 50000, 0⟩ = Vec3.zero ∧
       e.hardClamp ⟨200001, 0, 0⟩ ⟨150000, 50000, 0⟩ = ⟨200001, 50000, 0⟩ ∧
       e.hardClamp Vec3.zero ⟨-10000001, 0, 0⟩ = ⟨-10000000, 0, 0⟩) := by decide +kernel

theorem test_hyp_HardClampSafe : space.env.free Vec3.zero = true ∧ space.env.free ⟨9000000, 0, 0⟩ = true := by
  decide +kernel

theorem test_hyp_CeilingAndSoftWall :
    (0 : Int) ≤ 0 ∧ (5 : Int).natAbs ≤ isqrt (2 * (1000 * 6000) * (5 : Int).toNat) ∧
      isqrt (2 * (1000 * 6000) * (0 : Int).toNat) < (5 : Int).natAbs ∧ space.env.free Vec3.zero = true := by
  decide +kernel

/-- A servo event due in each reference state, at the exhausted count, and none due. -/
theorem test_hyp_ServoEventSchedules :
    (let s := inState .parked .ready
     let on : Fru → State := fun f => { s with fru := f }
     s.fru.nextEvent = some 2000 ∧ s.fru.ref = .freeRun ∧ s.fru.frameIndex = 0 ∧
       (after .servoEvent (on { s.fru with ref := .locked, frameIndex := 9 })).fru.nextEvent = none ∧
       (on { s.fru with nextEvent := none }).link.handed = [] ∧
       (after .servoEvent (on { s.fru with ref := .pulling, pullDir := some .shorten, pullLeft := 41 })).fru.pullLeft = 1 ∧
       (sends .servoEvent (on { s.fru with ref := .pulling, pullDir := some .shorten, pullLeft := 0 })).map TxRecord.msg =
         List.replicate 2 (.notice .referenceLocked 1) ∧
       (after .servoEvent (on { s.fru with frames := 4294967294 })).fru.frames = 4294967295 ∧
       (after .servoEvent (on { s.fru with frames := 4294967295 })).fru.frameIndex = 1 ∧
       (after .servoEvent (on { s.fru with ref := .locked, miss := 1 })).fru.miss = 1 ∧
       (after .servoEvent (on { s.fru with ref := .pulling, miss := 1, pullDir := some .lengthen, pullLeft := 40 })).fru.miss
         = 1) := by decide +kernel

/-- FRAME_POSE at a frame start, to the seats that subscribe to it. -/
theorem test_frame_pose :
    (let s := inState .parked .ready
     let s : State := { s with link := { s.link with masks := Quad.fill ⟨false, false, false, false, true⟩ } }
     (sends .servoEvent s).length = 4 ∧ sends .servoEvent { s with fru := { s.fru with frameIndex := 1 } } = []) := by
  decide +kernel

/-- Periods that close as first, second, third and fourth misses, of drives asked for something and not, in flight and in
TRIPPED, one at an event and two at once. -/
theorem test_hyp_ServoEventSendsFrames :
    (let at' : Nat → ChanState → Channel := fun n st =>
       { channelIn st with miss := n, slackCount := 1, warning := true, newest := 7, requested := 9 }
     let on : FlightState → Quad Channel → State := fun f chans =>
       let s := inState f .streaming
       { s with ch := { s.ch with chans := chans }, link := { s.link with masks := Quad.fill ⟨true, true, true, true, false⟩ } }
     let states : State → List (ChanState × Nat) := fun s =>
       (after .servoEvent s).ch.chans.toList.map fun c => (c.state, c.miss)
     let sent : State → List (Option DriveFrame) := fun s => (after .servoEvent s).ch.chans.toList.map Channel.sent
     let tells : State → List Message := fun s => ((sends .servoEvent s).filter (·.seat = .pilot)).map TxRecord.msg
     let calm := on .hold ⟨at' 1 .streaming, at' 2 .absent, at' 3 .ready, at' 0 .braking⟩
     let silent := on .parked ⟨at' 2 .ready, at' 1 .ready, at' 2 .faulted, at' 2 .absent⟩
     let two := on .hold ⟨at' 0 .streaming, at' 2 .setting, at' 2 .braking, at' 2 .ready⟩
     let tripped := on .tripped ⟨at' 2 .braking, at' 0 .braking, at' 0 .ready, at' 0 .ready⟩
     calm.link.handed = [] ∧ calm.fru.nextEvent = some 2000 ∧
       states calm = [(.streaming, 2), (.absent, 3), (.ready, 3), (.braking, 1)] ∧ tells calm = [] ∧
       ((after .servoEvent calm).chan .w1).timer = some 498000 ∧ ((after .servoEvent calm).chan .w1).slackCount = 1 ∧
       states silent = [(.absent, 0), (.ready, 2), (.absent, 0), (.absent, 3)] ∧
       tells silent = [.notice .driveAbsent 1, .notice .driveAbsent 3] ∧ (after .servoEvent silent).fcu.flight = .parked ∧
       states two = [(.braking, 1), (.absent, 0), (.absent, 0), (.absent, 0)] ∧
       sent two = [some ⟨.setpoint 0, 0⟩, some ⟨.poll, 0⟩, some ⟨.poll, 0⟩, some ⟨.poll, 0⟩] ∧
       (after .servoEvent two).flag .channelLost = ⟨true, 2, 3⟩ ∧ (after .servoEvent two).flt.trip.channel = 2 ∧
       tells two =
         [.tripNotice .channelLost true 2 none .hold Vec3.zero 1, .notice .driveAbsent 4] ∧
       states tripped = [(.absent, 0), (.braking, 1), (.ready, 1), (.ready, 1)] ∧
       (after .servoEvent tripped).flag .channelLost = ⟨true, 1, 1⟩) := by decide +kernel

/-- The planner's states before a servo event, each with its clauses' conditions. -/
theorem test_hyp_SamplesCommitted :
    (let fresh : State → State := fun s => { s with ch := { s.ch with chans := s.ch.chans.map fun c => { c with answered := true } } }
     let s := streaming .hold .primed 2
     let far : State := { s with pln := { s.pln with holdPos := ⟨100000000, 0, 0⟩ } }
     (inState .parked .ready).fru.nextEvent ≠ none ∧ producesSamples .parked = false ∧
       (∀ i : Fin 4, ((fresh (inState .stick .streaming)).ch.chans.get i).answered = true) ∧
       (flying .track .moving none).pln.inHand = some (hand1 .moving) ∧
       (streaming .stream .playing 2).pln.stream.samples = ⟨0, Vec3.zero⟩ :: [⟨1, Vec3.zero⟩] ∧
       (streaming .stream .playing 0).pln.stream.samples = [] ∧
       s.fru.frameIndex = 0 ∧ s.fru.frames + 1 = s.pln.stream.startFrame ∧ s.pln.stream.state = .primed ∧
       chebyshev Vec3.zero s.pln.holdPos ≤ 1000 * s.env.limits.joinTol ∧
       1000 * far.env.limits.joinTol < chebyshev Vec3.zero far.pln.holdPos ∧
       (flying .stopping .moving (some ⟨.axis, 12000⟩)).pln.stop = some ⟨.axis, 12000⟩ ∧
       (hand1 .moving).speed - 500000 = 0 ∧ 0 < (hand1 .moving).speed - 499999) := by decide +kernel

/-- What stream samples and axis stops hand over and start: a start of play, refused on the second axis and on an empty
buffer; a lag over the limit; the last sample of an ENDING stream; an underrun; the end of the stop after it. -/
theorem test_hyp_SamplesCommitted_concludes :
    (let counted : State → State := fun s => { s with fru := { s.fru with frames := 1 } }
     let primed := counted (streaming .hold .primed 2)
     let at' : Vec3 → State → State := fun p s => { s with pln := { s.pln with pos := p, holdPos := p } }
     let tells : State → List Message := fun s => (planSample true s).link.handed.map Handed.msg
     let stops : State → FlightState × StopCause × Option Stop := fun s =>
       let u := planSample true s
       (u.fcu.flight, u.fcu.cause, u.pln.stop)
     let stop : Option Stop := some ⟨.axis, 8000⟩
     let resting : State :=
       let s := inState .stopping .streaming
       { s with fcu := { s.fcu with cause := .streamEnded }, pln := { s.pln with stop := stop } }
     tells primed = [.notice .streamLow 1, .notice .streamCritical 1, .notice .streamPlaying 0] ∧
       (planSample true primed).fcu.flight = .stream ∧ (planSample false primed).pln.stream.state = .primed ∧
       tells (at' ⟨0, 50001, 0⟩ primed) = [.notice .joinRefused 1] ∧
       (planSample true (at' ⟨0, 50000, 0⟩ primed)).fcu.flight = .stream ∧
       tells (counted (streaming .hold .primed 0)) = [.notice .streamUnderrun 0] ∧
       stops (at' ⟨600000, 0, 0⟩ (streaming .stream .playing 2)) = (.stopping, .streamLag, stop) ∧
       stops (streaming .stream .ending 1) = (.stopping, .streamEnded, stop) ∧
       stops (streaming .stream .playing 0) = (.hold, .streamUnderrun, none) ∧
       tells resting = [.notice .streamEnded 0, .notice .holding 0x0C] ∧ producesSamples .arming = true) := by
  decide +kernel

/-- A sample that a clamp lands inside an armed marker: WALL_STRIKE comes before MARKER_ENTERED in STICK, in STREAM, in an
axis stop (R100, R118, R103), and in TRACK (log 7). -/
theorem test_strike_before_markers :
    (let marked : Vec3 → State → State := fun p s =>
       { s with mrk := { s.mrk with markers := ⟨some ⟨{ marker1 with point := p }, false⟩, none, none, none⟩ } }
     let fast : State → State := fun s =>
       marked ⟨9000, 0, 0⟩ { s with pln := { s.pln with pos := ⟨8999999, 0, 0⟩, vel := ⟨8000000, 0, 0⟩ } }
     let stopping : State → State := fun s => { s with pln := { s.pln with stop := some ⟨.axis, 8000⟩ } }
     let move : State :=
       let s := withZone { zone1 0 true with box := ⟨⟨1501, -100, -100⟩, ⟨2000, 100, 100⟩⟩ } (flying .track .moving none)
       marked ⟨500, 0, 0⟩ { s with pln := { s.pln with pos := ⟨500000, 0, 0⟩ } }
     let order : List Message := [.notice .wallStrike 0, .notice .markerEntered 0]
     ∀ s ∈ [fast (inState .stick .streaming), fast (streaming .stream .playing 9),
         fast (stopping (inState .stopping .streaming)), move],
       ((planSample false s).link.handed.map Handed.msg).filter (order.contains ·) = order) := by decide +kernel

/-- A path sample of each kind and each end, every period answered: flown, arrived, struck, dwelt, dwelt out, stopped on,
stopped at rest, dropped, arrived in a stop, struck in a stop. -/
theorem test_hyp_PathSamplesConclude :
    (let fresh : State → State := fun s =>
       { s with ch := { s.ch with chans := s.ch.chans.map fun c => { c with answered := true } } }
     let at' : FlightState → Phase → Option Stop → (MoveInHand → MoveInHand) → State := fun f p stop change =>
       let s := fresh (flying f p stop)
       { s with pln := { s.pln with inHand := some (change (hand1 p)), pos := ⟨500000, 0, 0⟩ } }
     let near : MoveInHand → MoveInHand := fun m => { m with prog := 999999 }
     let stop : Option Stop := some ⟨.path, 12000⟩
     let slow : MoveInHand → MoveInHand := fun m => { m with speed := 12000 }
     let wall : State → State := withZone { zone1 0 true with box := ⟨⟨1501, -100, -100⟩, ⟨2000, 100, 100⟩⟩ }
     let flight : State → FlightState := fun s => (after .servoEvent s).fcu.flight
     let cause : State → StopCause := fun s => (after .servoEvent s).fcu.cause
     let s := at' .track .moving none id
     s.link.handed = [] ∧ s.fru.nextEvent = some 2000 ∧ (∀ i : Fin 4, (s.ch.chans.get i).answered = true) ∧
       flight s = .track ∧ cause (at' .track .moving none near) = .queueDrained ∧ cause (wall s) = .wallStrike ∧
       flight (at' .track .dwelling none id) = .track ∧
       flight (at' .track .dwelling none fun m => { m with dwellLeft := 1 }) = .hold ∧
       flight (at' .stopping .moving stop id) = .stopping ∧
       ((after .servoEvent (at' .stopping .moving stop slow)).pln.inHand.map MoveInHand.phase) = some .suspended ∧
       (after .servoEvent (at' .stopping .abandoned stop slow)).pln.inHand = none ∧
       (after .servoEvent (at' .stopping .moving stop near)).pln.inHand = none ∧
       cause (wall (at' .stopping .moving stop fun m => { m with speed := 700000 })) = .wallStrike) := by decide +kernel

/-- A HOLD_AT_END marker and another one, entered by a TRACK sample; the same in PARKED; a hold already pending. -/
theorem test_hyp_MarkersExamined :
    (let on : State → State := fun s =>
       { s with
         mrk :=
           { s.mrk with
             markers :=
               ⟨some ⟨{ marker1 with point := ⟨500, 0, 0⟩ }, false⟩, none, none,
                 some ⟨{ marker1 with point := ⟨500, 0, 0⟩, holdAtEnd := true }, false⟩⟩ } }
     let s := on (flying .track .moving none)
     let p := on (inState .parked .ready)
     s.link.handed = [] ∧ s.fru.nextEvent ≠ none ∧ s.fcu.flight = .track ∧ (after .servoEvent s).fcu.flight = .track ∧
       (after .servoEvent s).mrk.holdPending = true ∧ (sends .servoEvent s).length = 6 ∧
       p.fru.nextEvent ≠ none ∧ (after .servoEvent p).mrk = p.mrk ∧
       (after .servoEvent { flying .track .moving none with mrk := ⟨Quad.fill none, true⟩ }).mrk.holdPending = true ∧
       (after .servoEvent { (flying .stopping .moving (some ⟨.path, 500000⟩)) with mrk := ⟨Quad.fill none, true⟩ }).mrk.holdPending =
         false) := by
  decide +kernel

/-- Edges in each reference state, at both ends of the window and just outside it. -/
theorem test_hyp_EdgeByReferenceState :
    (let s := inState .hold .streaming
     let on : RefState → Nat → State := fun r good =>
       { s with fru := { s.fru with ref := r, good := good, lastRef := some 0, nextEvent := some 21000 } }
     s.link.handed = [] ∧ (after (.referenceEdge 20100) (on .acquiring 2)).fru.good = 3 ∧
       (after (.referenceEdge 19900) (on .acquiring 2)).fru.good = 3 ∧
       (after (.referenceEdge 20101) (on .acquiring 2)).fru.good = 0 ∧
       (after (.referenceEdge 19899) (on .acquiring 2)).fru.good = 0 ∧
       (after (.referenceEdge 20000) (on .acquiring 3)).fru.ref = .pulling ∧
       (after (.referenceEdge 20000) (on .pulling 4)).fru.lastRef = some 20000 ∧
       (after (.referenceEdge 20000) (on .locked 4)).fru.frames = 1 ∧
       (after (.referenceEdge 19899) (on .locked 4)).fru.frames = 0 ∧ (on .locked 4).fru.horizon = 21000 ∧
       ({ (on .locked 4).fru with nextEvent := none } : Fru).horizon = 20100) := by decide +kernel

/-- The fourth good interval in PARKED, and edges at the µs of the servo event just taken: one that was the frame start, one
that becomes it, and one at which a PRIMED stream starts. -/
theorem test_hyp_EdgeByReferenceState_frames :
    (let on : State → RefState → Nat → Nat → State := fun s r lastServo index =>
       { s with
         fru :=
           { s.fru with
             ref := r, good := 3, lastRef := some 0, lastServo := lastServo, frames := 1, frameIndex := index
             nextEvent := some 22000 } }
     let parked := inState .parked .ready
     let primed : State :=
       let s := streaming .hold .primed 2
       { s with
         pln := { s.pln with stream := { s.pln.stream with startFrame := 2 } }
         ch := { s.ch with chans := s.ch.chans.map fun c => { c with sent := some ⟨.setpoint 5, 3⟩ } } }
     let edge : State → State := after (.referenceEdge 20000)
     let locks : State → List Message := fun s => (edge s).link.tx.map TxRecord.msg
     (edge (on parked .acquiring 19000 4)).fru.frames = 2 ∧ Message.notice .referenceLocked 0 ∈ locks (on parked .acquiring 19000 4) ∧
       (edge (on parked .acquiring 20000 1)).fru.frames = 1 ∧ (edge (on parked .acquiring 20000 1)).fru.ref = .locked ∧
       (edge (on parked .acquiring 20000 5)).fru.frames = 2 ∧ (edge (on parked .acquiring 20000 5)).fru.frameIndex = 1 ∧
       (edge (on parked .locked 20000 1)).fru.frames = 1 ∧ (edge (on parked .locked 20000 5)).fru.frames = 2 ∧
       (edge (on primed .locked 20000 5)).fcu.flight = .stream ∧
       ((edge (on primed .locked 20000 5)).chan .w1).sent = some ⟨.setpoint 0, 3⟩ ∧
       (edge (on primed .locked 20000 1)).fcu.flight = .hold) := by decide +kernel

/-- What a fourth good interval outside PARKED and TRIPPED decides, and an edge in a pull: a phase of 0, phases up to half a
period, and over it. -/
theorem test_hyp_EdgeByReferenceState_pulls :
    (let s := inState .hold .streaming
     let on : RefState → Nat → Nat → State := fun r index next =>
       { s with
         fru :=
           { s.fru with ref := r, good := 3, lastRef := some 0, frames := 1, frameIndex := index, nextEvent := some next }
         link := { s.link with masks := Quad.fill ⟨true, true, true, true, false⟩ } }
     let decided : State → RefState × Option PullDir × Nat := fun s =>
       let f := (after (.referenceEdge 20000) s).fru
       (f.ref, f.pullDir, f.pullLeft)
     let locks : State → Bool := fun s =>
       ((after (.referenceEdge 20000) s).link.tx.map TxRecord.msg).contains (.notice .referenceLocked 1)
     s.fru.timing.n * s.fru.timing.ts = 20000 ∧
       ∀ r ∈ [RefState.acquiring, .pulling],
         decided (on r 0 20000) = (.locked, none, 0) ∧ locks (on r 0 20000) = true ∧
         decided (on r 0 20001) = (.pulling, some .shorten, 1) ∧ locks (on r 0 20001) = false ∧
         decided (on r 5 20000) = (.pulling, some .shorten, 10000) ∧
         decided (on r 5 20001) = (.pulling, some .lengthen, 9999) ∧
         decided (on r 1 21999) = (.pulling, some .lengthen, 1)) := by decide +kernel

/-- The snapshot at a lock reached by a jump reads LOCKED, and at a window's close that loses the lock FREE_RUN (log 14). -/
theorem test_snapshot_reference_state :
    (let on : RefState → State := fun r =>
       let s := inState .parked .ready
       { s with
         fru :=
           { s.fru with
             ref := r, good := 3, miss := 1, lastRef := some 0, now := 19000, lastServo := 19000, frames := 1
             frameIndex := 5, nextEvent := some 22000 } }
     (after (.referenceEdge 20000) (on .acquiring)).fru.snapshot.ref = .locked ∧
       (after .windowClose (on .locked)).fru.snapshot.ref = .freeRun) := by decide +kernel

theorem test_hyp_SilenceAndWindowClose :
    (let s := inState .hold .streaming
     let on : RefState → Nat → Option Nat → State := fun r miss next =>
       { s with fru := { s.fru with ref := r, miss := miss, lastRef := some 0, nextEvent := next } }
     let late : State := { s with fru := { s.fru with ref := .locked, lastRef := some 0, now := 30000, nextEvent := some 32000 } }
     (on .acquiring 0 none).link.handed = [] ∧ (on .acquiring 0 none).fru.lastRef = some 0 ∧
       40000 ≤ (on .acquiring 0 (some 40000)).fru.horizon ∧ (on .acquiring 0 (some 39999)).fru.horizon < 40000 ∧
       (after .acquireSilenceTimeout (on .acquiring 0 (some 40000))).fru.ref = .freeRun ∧
       (after .pullSilenceTimeout (on .pulling 0 (some 40000))).fru.ref = .freeRun ∧
       20100 ≤ (on .locked 0 none).fru.horizon ∧ (on .locked 0 (some 20099)).fru.horizon < 20100 ∧
       (after .windowClose (on .locked 0 none)).fru.miss = 1 ∧ (after .windowClose (on .locked 1 none)).fru.ref = .freeRun ∧
       (after .windowClose late).fru.lastServo = 30000) := by
  decide +kernel

/-- A frame start that an edge or a window's close raises of its own, against the servo event of frame index 0 timed there: a
stream that starts, a third miss that trips, both misses of a window. -/
theorem test_hyp_frame_start_is_servo_event :
    (let at' : State → RefState → Nat → State := fun s r miss =>
       { s with
         fru :=
           { s.fru with
             ref := r, miss := miss, good := 3, lastRef := some 0, frameIndex := 5, nextEvent := some 22000, now := 19000
             lastServo := 19000, frames := 1 }
         ch := { s.ch with chans := s.ch.chans.map fun c => { c with miss := 2 } }
         link := { s.link with masks := Quad.fill ⟨true, true, true, true, false⟩ } }
     let primed := streaming .hold .primed 2
     let starts : State := { primed with pln := { primed.pln with stream := { primed.pln.stream with startFrame := 2 } } }
     let own : Nat → Nat → Nat → State → State := fun t last miss s =>
       { s with
         fru := { s.fru with ref := .locked, frameIndex := 0, nextEvent := some t, lastRef := some last, miss := miss } }
     (∀ s ∈ [starts, flying .track .moving none, inState .parked .braking],
       after (.referenceEdge 20000) (at' s .locked 1) = after .servoEvent (own 20000 20000 0 (at' s .locked 1)) ∧
       after .windowClose (at' s .locked 0) = after .servoEvent (own 20100 20000 1 (at' s .locked 0)) ∧
       (after .windowClose (at' s .locked 1)).ch = (after .servoEvent (own 20100 20000 2 (at' s .locked 1))).ch ∧
       (after .windowClose (at' s .locked 1)).flt =
         (report .referenceLost 0 none (after .servoEvent (own 20100 20000 2 (at' s .locked 1)))).flt) ∧
     (after (.referenceEdge 20000) (at' (inState .parked .braking) .acquiring 1)).ch =
       (after .servoEvent (own 20000 20000 0 (at' (inState .parked .braking) .acquiring 1))).ch ∧
     (after (.referenceEdge 20000) (at' (inState .parked .braking) .acquiring 1)).flt =
       (after .servoEvent (own 20000 20000 0 (at' (inState .parked .braking) .acquiring 1))).flt) := by decide +kernel

/-- A valid answer of each drive state, and one with another echo. -/
theorem test_hyp_DriveAnswersByState :
    (let s := inState .parked .ready
     let a : DriveState → AnswerFields := fun d => ⟨d, 0, true, 0, 1000⟩
     (∀ d ∈ [DriveState.starting, .braked, .released, .faulted], answerOf (answerBytes (a d)) = some (a d)) ∧
       (s.chan .w1).sent = some ⟨.poll, 0⟩ ∧ (s.chan .w1).answered = false ∧ (s.chan .w1).restartPending = false ∧
       answerOf (answerBytes ⟨.braked, 1, true, 0, 1000⟩) = some ⟨.braked, 1, true, 0, 1000⟩ ∧
       answerOf [] = none) := by decide +kernel

theorem test_hyp_StreamingChecksAndHandshakes :
    (let s := inState .arming .streaming
     (s.chan .w2).state = .streaming ∧ (s.chan .w2).sent = some ⟨.poll, 0⟩ ∧ (s.chan .w2).answered = false ∧
       (s.chan .w2).restartPending = false ∧
       answerOf (answerBytes ⟨.released, 0, true, 0, 199⟩) = some ⟨.released, 0, true, 0, 199⟩ ∧
       s.fcu.flight = .arming ∧ (∀ i : Fin 4, (s.ch.chans.get i).state = .streaming) ∧
       (inState .parking .ready).fcu.flight = .parking) := by decide +kernel

/-- A state timer in each of its three states, its time left up to the next servo event, and beyond it. -/
theorem test_hyp_ChannelTimeouts :
    (let on : FlightState → ChanState → State := fun f c =>
       State.onChan (State.onChan (inState f c) .w1 fun k => { k with timer := some 2000 }) .w2 fun k =>
         { k with timer := some 2001 }
     let a := on .arming .releasing
     (a.chan .w1).state = .releasing ∧ (a.chan .w1).timer = some 2000 ∧ a.fru.now + 2000 ≤ a.fru.horizon ∧
       a.fcu.flight = .arming ∧ ((on .hold .releasing).chan .w1).state = .releasing ∧
       (after (.releaseTimeout .w1) a).fcu.flight = .parking ∧ after (.releaseTimeout .w2) a = a ∧
       ((on .tripped .braking).chan .w1).state = .braking ∧
       ((after (.brakeTimeout .w1) (on .tripped .braking)).flag .channelLost).set = true ∧
       ((on .parked .setting).chan .w1).state = .setting ∧
       ((after (.setTimeout .w1) (on .parked .setting)).chan .w1).state = .ready ∧
       (a.chan .w2).timer = some 2001 ∧ a.fru.horizon < a.fru.now + 2001 ∧ a.link.handed = []) := by decide +kernel

/-- REFERENCE and DECLARE_POSE taken and refused; RESTART_DRIVE of winch 4 and of none. -/
theorem test_hyp_SettingOperations :
    (let s := inState .parked .ready
     let p := vecField Vec3.zero
     let lose : List Winch → State := fun ws =>
       ws.foldl (fun t w => State.onChan t w fun c => { c with last := { c.last with lengthValid := false } }) s
     s.takesRecord ⟨.service, 0x1B, [0, 0]⟩ ∧ s.sol.homeValid = true ∧ s.env.blockedAt (toMicrons s.sol.home) = none ∧
       s.takesRecord ⟨.service, 0x2D, p⟩ ∧ legalPositionMm (vecAt p 0 4) = true ∧ s.env.boxValid = true ∧
       s.env.free (toMicrons (vecAt p 0 4)) = true ∧ (lose [.w3]).takesRecord ⟨.service, 0x2D, p⟩ ∧
       ((lose [.w3]).ch.chans.map fun c => !c.last.lengthValid).toList.count true = 1 ∧
       ((lose [.w1, .w3]).ch.chans.map fun c => !c.last.lengthValid).toList.count true = 2 ∧
       s.takesRecord ⟨.service, 0x1C, [4, 0]⟩ ∧ s.takesRecord ⟨.service, 0x1C, [0, 0]⟩ ∧
       s.takesRecord ⟨.service, 0x1C, [5, 0]⟩ ∧ s.ch.op.kind = .noSetting) := by
  simp only [State.takesRecord, State.decodesNow]; decide +kernel

theorem test_hyp_StoreWrites :
    (let s := inState .parked .ready
     let on : SaveState → Option RetainedPose → Bool → State := fun save w q =>
       { s with sto := { s.sto with save := save, poseWriting := w, poseWaiting := q } }
     s.takesRecord ⟨.service, 0x1D, [0, 0]⟩ ∧ (inState .hold .streaming).takesRecord ⟨.service, 0x1D, [0, 0]⟩ ∧
       s.takesRecord ⟨.service, 0x1E, [0, 0]⟩ ∧ s.link.handed = [] ∧
       (on (.waiting Settings.default) none false).sto.save = .waiting Settings.default ∧
       (on (.writing Settings.default) none false).sto.save = .writing Settings.default ∧
       (on .idle none true).sto.poseWaiting = true ∧ (requestPoseWrite (on .idle none true)).sto.poseWaiting = true ∧
       (requestPoseWrite s).sto.poseWriting = some s.fcu.pose ∧
       (on .idle (some RetainedPose.default) false).sto.poseWriting = some RetainedPose.default) := by
  simp only [State.takesRecord, State.decodesNow]; decide +kernel

/-- A pose write that waits for a save begins at the save's end, good or bad; one that waits for another is not overtaken by a
SAVE_SETTINGS; a save waits for a pose write (R48, R211, R212; log 20). -/
theorem test_pose_write_not_overtaken :
    (let on : SaveState → Option RetainedPose → Bool → State := fun save w q =>
       let s := inState .parked .ready
       { s with sto := { s.sto with save := save, poseWriting := w, poseWaiting := q } }
     let pose := (inState .parked .ready).fcu.pose
     let old := RetainedPose.default
     let writes : State → Option RetainedPose × Bool := fun s => (s.sto.poseWriting, s.sto.poseWaiting)
     let saves : State → State := after (.saveSettings .service 0 0)
     let waitsToSave : State → Bool := fun s => match s.sto.save with
       | .waiting _ => true
       | _ => false
     writes (after (.saveWriteEnd true) (on (.writing Settings.default) none true)) = (some pose, false) ∧
       writes (after (.saveWriteEnd false) (on (.writing Settings.default) none true)) = (some pose, false) ∧
       writes (saves (after .poseWriteEnd (on .idle (some old) true))) = (some pose, false) ∧
       waitsToSave (saves (after .poseWriteEnd (on .idle (some old) true))) = true ∧
       waitsToSave (saves (on .idle (some old) false)) = true ∧ waitsToSave (saves (on .idle none false)) = false ∧
       writes (after .poseWriteStart (after .poseWriteEnd (on .idle (some old) true))) = (some pose, false)) := by
  decide +kernel

/-- A flying part on a valid rig, whose winches reach 100 m. -/
def rigged : State :=
  let s := flying .track .moving none
  { s with sol := { s.sol with anchors := Quad.fill ⟨⟨0, 0, 0⟩, ⟨0, 0, 0⟩, 7, 0, 100000⟩ } }

/-- A setpoint newly sent from a state that meets the second law's premises. -/
theorem test_hyp_SetpointLawKept :
    workspaceLaw rigged ∧ positionLaw rigged ∧ brakeLaw rigged ∧ streamFlight rigged ∧
      ((after .servoEvent rigged).chan .w1).sendsSetpoint 508008 ∧
      ((after .servoEvent rigged).chan .w1).sent ≠ (rigged.chan .w1).sent := by
  refine ⟨⟨fun _ => by decide +kernel, fun _ => rfl⟩, fun _ => by decide +kernel, fun h => absurd h (by decide), ?_,
    ⟨0, by decide +kernel⟩, by decide +kernel⟩
  intro h; rcases h with h | h <;> exact absurd h (by decide)

/-- Records of both forms, frames of both sizes, an answer. -/
theorem test_hyp_WireForms :
    (Message.ack 0x09 0).type.toNat < 0x20 ∧ 0x20 ≤ (Message.pose State.reset.fru.snapshot).type.toNat ∧
      (TxRecord.mk .pilot (.ack 0x08 0)).wire.length = 5 ∧
      (DriveFrame.mk (.setpoint 16909060) 3).wire.take 5 = [0x23, 4, 3, 2, 1] ∧
      (answerOf (answerBytes ⟨.released, 5, true, 70000, 300⟩)).isSome = true ∧ headerCheck [0x08, 0, 0] = 0x51 := by
  decide +kernel

/-- Records and fields at the ends of their ranges. -/
theorem test_hyp_OperandRanges :
    (0 + 4 ≤ (natField 4 7).length ∧ signedAt (intField 4 (-7)) 0 4 = -7) ∧ legalLimits Limits.default = true ∧
      zoneOf (zonePayload 0 0 1 0 (zone1 0 true).box 100 9) 12000 .safety =
        some ⟨.slow 100, false, (zone1 0 true).box, 9, .safety⟩ ∧
      zoneOf (zonePayload 0 0 1 0 (zone1 0 true).box 99 9) 12000 .safety = none ∧
      markerOf (markerPayload 0 Vec3.zero 20000 1 0) = some ⟨Vec3.zero, 20000, true, false⟩ ∧
      markerOf (markerPayload 0 Vec3.zero 20001 1 0) = none := by decide +kernel

/-- The laws hold together in a flying state, from which a step answers. -/
theorem test_hyp_laws :
    (let s := flying .track .moving none
     linkBounds s ∧ queueLaw s ∧ streamLaw s ∧ streamFlight s ∧ positionLaw s ∧ brakeLaw s ∧ tripLaw s ∧
       step s = .next s ∧ step { s with pending := [.servoEvent] } = .next (after .servoEvent s)) := by
  refine ⟨by unfold linkBounds; decide, by unfold queueLaw; decide, by unfold streamLaw; decide +kernel, ?_, ?_, ?_, ?_, rfl, rfl⟩
  · intro h; rcases h with h | h <;> exact absurd h (by decide)
  · intro _; decide +kernel
  · exact fun h => absurd h (by decide)
  · intro f hf hs; cases f <;> first | exact absurd hf (by decide) | exact absurd hs (by decide +kernel)

theorem test_hyp_laws_speed_and_setting : speedLaw (flying .track .moving none) ∧ settingLaw (flying .track .moving none) := by
  refine ⟨⟨fun a => ?_, fun h => absurd h (by decide), fun m hm => ?_⟩, fun h => absurd rfl h, fun w h => ?_⟩
  · cases a <;> decide
  · have hm' : some (hand1 .moving) = some m := hm
    rw [Option.some.injEq] at hm'
    subst hm'
    exact ⟨by decide, fun _ => Or.inl ⟨rfl, rfl⟩⟩
  · cases w <;> exact absurd h (by decide)

end Sys2Proof.Tests
end

section
/-! The exact arithmetic: isqrt and the length root by the inequalities that pin them, and the distances (00 Conventions;
R1, R2, R3). -/

namespace Sys2Proof.Machine

open Sys2Proof

/-! ## isqrt -/

/-- With enough fuel the value's square is not greater than the argument, and the next square is (R2). -/
theorem isqrtFuel_bounds (fuel : Nat) :
    ∀ n, n < 4 ^ fuel → isqrtFuel fuel n ^ 2 ≤ n ∧ n < (isqrtFuel fuel n + 1) ^ 2 := by
  induction fuel with
  | zero =>
    intro n h
    have hn : n = 0 := by simpa using h
    subst hn
    decide
  | succ fuel ih =>
    intro n h
    obtain ⟨lower, upper⟩ := ih (n / 4) (by rw [pow_succ] at h; omega)
    simp only [isqrtFuel]
    generalize isqrtFuel fuel (n / 4) = q at lower upper ⊢
    have below : (2 * q) ^ 2 ≤ n := by
      have h4 : 4 * (n / 4) ≤ n := Nat.mul_div_le n 4
      nlinarith
    have above : n < (2 * q + 2) ^ 2 := by
      have h4 : n / 4 + 1 ≤ (q + 1) ^ 2 := upper
      have hn : n < 4 * (n / 4 + 1) := by omega
      nlinarith
    split
    · next hs => exact ⟨by rw [pow_two]; exact hs, above⟩
    · next hs => exact ⟨below, by rw [pow_two]; omega⟩

/-- The largest integer whose square is not greater (R2). -/
theorem isqrt_bounds (n : Nat) : isqrt n ^ 2 ≤ n ∧ n < (isqrt n + 1) ^ 2 := by
  refine isqrtFuel_bounds _ n ?_
  calc n < 2 ^ (n.log2 + 1) := Nat.lt_log2_self
    _ ≤ 2 ^ (2 * (n.log2 / 2 + 1)) := Nat.pow_le_pow_right (by decide) (by omega)
    _ = 4 ^ (n.log2 / 2 + 1) := by rw [pow_mul]; norm_num

theorem le_isqrt_of_sq_le {y n : Nat} (h : y ^ 2 ≤ n) : y ≤ isqrt n := by
  have hlt : y ^ 2 < (isqrt n + 1) ^ 2 := lt_of_le_of_lt h (isqrt_bounds n).2
  have := lt_of_pow_lt_pow_left₀ 2 (Nat.zero_le _) hlt
  omega

/-! ## The length root -/

/-- The length root is isqrt, or one more when the remainder is over it (R3). -/
theorem lengthRoot_up {n : Nat} (h : isqrt n < n - isqrt n ^ 2) : lengthRoot n = isqrt n + 1 := by
  rw [pow_two] at h
  exact if_pos h

theorem lengthRoot_down {n : Nat} (h : n - isqrt n ^ 2 ≤ isqrt n) : lengthRoot n = isqrt n := by
  rw [pow_two] at h
  exact if_neg (Nat.not_lt.mpr h)

/-- The argument lies no farther above the root's square than the root (R3). -/
theorem le_lengthRoot_sq_add (n : Nat) : n ≤ lengthRoot n ^ 2 + lengthRoot n := by
  obtain ⟨-, upper⟩ := isqrt_bounds n
  by_cases h : isqrt n < n - isqrt n ^ 2
  · rw [lengthRoot_up h]
    omega
  · rw [lengthRoot_down (by omega)]
    omega

/-- A root that is not 0 has its argument above the product with the number below it (R3). -/
theorem lengthRoot_pred_mul_lt {n k : Nat} (h : lengthRoot n = k + 1) : k * (k + 1) < n := by
  obtain ⟨lower, -⟩ := isqrt_bounds n
  by_cases hr : isqrt n < n - isqrt n ^ 2
  · have hk : isqrt n = k := by rw [lengthRoot_up hr] at h; omega
    rw [hk] at hr
    have : k * (k + 1) = k ^ 2 + k := by ring
    omega
  · have hk : isqrt n = k + 1 := by rw [lengthRoot_down (by omega)] at h; exact h
    rw [hk] at lower
    nlinarith

/-- The length root never decreases (R3): two roots apart would put the arguments the other way round. -/
theorem lengthRoot_mono {m n : Nat} (h : m ≤ n) : lengthRoot m ≤ lengthRoot n := by
  by_contra hlt
  obtain ⟨k, hk⟩ : ∃ k, lengthRoot m = k + 1 := ⟨lengthRoot m - 1, by omega⟩
  have above : k * (k + 1) < m := lengthRoot_pred_mul_lt hk
  have below : n ≤ lengthRoot n ^ 2 + lengthRoot n := le_lengthRoot_sq_add n
  have hle : lengthRoot n ≤ k := by omega
  nlinarith

/-- The length root is at most half away from the true root (R3). -/
theorem lengthRoot_nearest {n : Nat} (hn : n ≠ 0) :
    (2 * (lengthRoot n : Int) - 1) ^ 2 ≤ 4 * n ∧ 4 * (n : Int) < (2 * lengthRoot n + 1) ^ 2 := by
  have below : (n : Int) ≤ (lengthRoot n : Int) ^ 2 + lengthRoot n := by exact_mod_cast le_lengthRoot_sq_add n
  refine ⟨?_, by nlinarith⟩
  cases hr : lengthRoot n with
  | zero =>
    rw [hr] at below
    omega
  | succ k =>
    have above : (k : Int) * (k + 1) < n := by exact_mod_cast lengthRoot_pred_mul_lt hr
    push_cast
    nlinarith

/-! ## Quotients and distances -/

/-- A quotient rounded has the dividend's sign before the rounded quotient of the magnitudes (R2). -/
theorem roundInt_eq (a : Int) (b : Nat) : roundInt a b = (if a < 0 then -1 else 1) * (roundNat a.natAbs b : Int) := by
  unfold roundInt
  split <;> simp

/-- The floored quotient of naturals is the largest integer not over the exact one (R137). -/
theorem floor_quotient (a : Nat) {b : Nat} (hb : 0 < b) : a / b * b ≤ a ∧ ∀ q, q * b ≤ a → q ≤ a / b :=
  ⟨Nat.div_mul_le_self a b, fun _ hq => (Nat.le_div_iff_mul_le hb).mpr hq⟩

/-- The squared distance, in integers (00, Distances). -/
theorem sqDist_cast (p q : Vec3) : ((sqDist p q : Nat) : Int) = (p.x - q.x) ^ 2 + (p.y - q.y) ^ 2 + (p.z - q.z) ^ 2 := by
  simp [sqDist]

/-- The largest difference is no smaller than that of any axis (00, Distances). -/
theorem axis_le_chebyshev (p q : Vec3) (axis : Axis) : (p.get axis - q.get axis).natAbs ≤ chebyshev p q := by
  cases axis <;> simp only [Vec3.get, chebyshev] <;> omega

/-- The largest difference is that of some axis (00, Distances). -/
theorem chebyshev_attained (p q : Vec3) : ∃ axis, chebyshev p q = (p.get axis - q.get axis).natAbs := by
  unfold chebyshev
  rcases max_choice (p.x - q.x).natAbs (max (p.y - q.y).natAbs (p.z - q.z).natAbs) with h | h
  · exact ⟨.x, h⟩
  · rcases max_choice (p.y - q.y).natAbs (p.z - q.z).natAbs with k | k
    · exact ⟨.y, h.trans k⟩
    · exact ⟨.z, h.trans k⟩

@[simp] theorem toMicrons_get (v : Vec3) (axis : Axis) : (toMicrons v).get axis = 1000 * v.get axis := by
  cases axis <;> rfl

/-- Settles O36: the quotients by their definitions, isqrt and the length root by their bounds. -/
theorem rootsAndQuotients : Obligations.RootsAndQuotients := by
  refine ⟨fun a b _ => ?_, by decide, by decide,
    fun p q => ⟨sqDist_cast p q, axis_le_chebyshev p q, chebyshev_attained p q⟩, toMicrons_get, fun _ _ _ => rfl,
    fun a b hb => floor_quotient a hb, fun t => ?_, fun n => ⟨(isqrt_bounds n).1, fun y => le_isqrt_of_sq_le⟩, by decide,
    fun n => ⟨fun h => ⟨lengthRoot_up h, by omega⟩, fun h => ⟨lengthRoot_down h, by omega⟩⟩, fun n => ?_,
    fun m n => lengthRoot_mono⟩
  · rw [roundInt_eq, roundNat]
    push_cast
    rfl
  · obtain ⟨pull, largestPull⟩ := floor_quotient t.ts (b := 50) (by decide)
    obtain ⟨window, largestWindow⟩ := floor_quotient (t.n * t.ts) (b := 200) (by decide)
    exact ⟨pull, largestPull, window, largestWindow⟩
  · by_cases hn : n = 0
    · exact Or.inr hn
    · exact Or.inl (lengthRoot_nearest hn)

end Sys2Proof.Machine
end

section
/-! Cable lengths over a box: the setpoint's steps and bounds (R9), and the acceptance check against every point of the box
(R13, R14). -/

namespace Sys2Proof.Machine

open Sys2Proof

/-! ## The setpoint -/

/-- The first step of R9, axis by axis. -/
theorem anchorPoint_eq (a : Anchor) :
    anchorPoint a = ⟨1000 * (a.a.x - a.b.x), 1000 * (a.a.y - a.b.y), 1000 * (a.a.z - a.b.z)⟩ := rfl

theorem paidOut_eq (a : Anchor) (p : Vec3) : paidOut a p = lengthRoot (sqDist (anchorPoint a) p) := rfl

theorem setpointAt_eq (a : Anchor) (p : Vec3) : setpointAt a p = paidOut a p + (1000 * a.run).toNat := rfl

/-- How far a legal anchor's point can lie from a legal position, axis by axis (R1, R4). -/
theorem anchorPoint_near {a : Anchor} {p : Vec3} (ha : legalAnchor a = true) (hp : legalPosition p = true) :
    ((anchorPoint a).x - p.x).natAbs ≤ 605000000 ∧ ((anchorPoint a).y - p.y).natAbs ≤ 605000000 ∧
      ((anchorPoint a).z - p.z).natAbs ≤ 165000000 := by
  simp only [legalAnchor, legalPosition, Bool.and_eq_true, decide_eq_true_eq] at ha hp
  simp only [anchorPoint_eq]
  omega

/-- The squared distance of a legal anchor's point from a legal position. -/
theorem sqDist_anchorPoint_le {a : Anchor} {p : Vec3} (ha : legalAnchor a = true) (hp : legalPosition p = true) :
    sqDist (anchorPoint a) p ≤ 605000000 ^ 2 + 605000000 ^ 2 + 165000000 ^ 2 := by
  obtain ⟨hx, hy, hz⟩ := anchorPoint_near ha hp
  unfold sqDist
  gcongr

/-- A length root stays below a bound whose square the argument does not reach. -/
theorem lengthRoot_lt {n k : Nat} (h : n ≤ k * (k + 1)) : lengthRoot n < k + 1 := by
  by_contra hlt
  obtain ⟨r, hr⟩ : ∃ r, lengthRoot n = r + 1 := ⟨lengthRoot n - 1, by omega⟩
  have above : r * (r + 1) < n := lengthRoot_pred_mul_lt hr
  have hk : k ≤ r := by omega
  have : k * (k + 1) ≤ r * (r + 1) := by gcongr
  omega

/-- The longest cable of a legal rig is under 900 m. -/
theorem paidOut_lt {a : Anchor} {p : Vec3} (ha : legalAnchor a = true) (hp : legalPosition p = true) :
    paidOut a p < 900000000 :=
  lengthRoot_lt (k := 899999999) (le_trans (sqDist_anchorPoint_le ha hp) (by norm_num))

/-- Settles O37: the four steps of R9, and their bounds from the ranges of R1 and R4. -/
theorem setpointRule : Obligations.SetpointRule := by
  refine ⟨fun a p => ?_, fun a p ha hp => ?_⟩
  · simp only [setpointAt_eq, paidOut_eq]
    rw [← Int.toNat_natCast (sqDist (anchorPoint a) p), sqDist_cast, anchorPoint_eq]
  · obtain ⟨hx, hy, hz⟩ := anchorPoint_near ha hp
    have paid := paidOut_lt ha hp
    have run : (1000 * a.run).toNat ≤ 500000000 := by
      simp only [legalAnchor, Bool.and_eq_true, decide_eq_true_eq] at ha
      omega
    refine ⟨hx, hy, le_trans hz (by norm_num), ?_, paid, ?_, setpointAt_eq a p⟩
    · exact lt_of_le_of_lt (sqDist_anchorPoint_le ha hp) (by norm_num)
    · rw [setpointAt_eq]
      omega

/-! ## The lengths over a box -/

/-- The bounds of a box are in order on every axis. -/
theorem boxOrdered_iff (b : Box) : boxOrdered b = true ↔ ∀ axis, b.lo.get axis < b.hi.get axis := by
  simp only [boxOrdered, Bool.and_eq_true, decide_eq_true_eq]
  constructor
  · rintro ⟨⟨hx, hy⟩, hz⟩ axis
    cases axis <;> assumption
  · exact fun h => ⟨⟨h .x, h .y⟩, h .z⟩

theorem boxMicrons_ordered {b : Box} (h : boxOrdered b = true) (axis : Axis) :
    (boxMicrons b).lo.get axis ≤ (boxMicrons b).hi.get axis := by
  have := (boxOrdered_iff b).mp h axis
  simp only [boxMicrons, toMicrons_get]
  omega

/-- A clamp into a range that is in order lies in it. -/
theorem clampInt_mem {lo hi : Int} (h : lo ≤ hi) (v : Int) : lo ≤ clampInt lo hi v ∧ clampInt lo hi v ≤ hi := by
  unfold clampInt
  omega

/-- The far bound of a range is the farthest coordinate in it (R13). -/
theorem le_farDistance {lo hi v : Int} (hl : lo ≤ v) (hh : v ≤ hi) (c : Int) : (c - v).natAbs ≤ farDistance c lo hi := by
  unfold farDistance
  omega

/-- The clamp of a coordinate into a range is the nearest in it (R13). -/
theorem nearDistance_le {lo hi v : Int} (hl : lo ≤ v) (hh : v ≤ hi) (c : Int) : nearDistance c lo hi ≤ (c - v).natAbs := by
  unfold nearDistance clampInt
  omega

/-- The bound of a range farther from a coordinate. -/
def farBound (c lo hi : Int) : Int := if (c - hi).natAbs ≤ (c - lo).natAbs then lo else hi

theorem farBound_mem {lo hi : Int} (h : lo ≤ hi) (c : Int) : lo ≤ farBound c lo hi ∧ farBound c lo hi ≤ hi := by
  unfold farBound
  split <;> omega

theorem farDistance_attained (c lo hi : Int) : (c - farBound c lo hi).natAbs = farDistance c lo hi := by
  unfold farBound farDistance
  split <;> omega

/-- The corner of a box farthest from a point. -/
def farCorner (c : Vec3) (b : Box) : Vec3 :=
  ⟨farBound c.x b.lo.x b.hi.x, farBound c.y b.lo.y b.hi.y, farBound c.z b.lo.z b.hi.z⟩

theorem farCorner_mem {b : Box} (h : ∀ axis, b.lo.get axis ≤ b.hi.get axis) (c : Vec3) : inBox b (farCorner c b) = true := by
  rw [inBox_iff]
  intro axis
  cases axis
  case x => exact farBound_mem (h .x) c.x
  case y => exact farBound_mem (h .y) c.y
  case z => exact farBound_mem (h .z) c.z

theorem clampIntoBox_mem {b : Box} (h : ∀ axis, b.lo.get axis ≤ b.hi.get axis) (c : Vec3) :
    inBox b (clampIntoBox b c) = true := by
  rw [inBox_iff]
  intro axis
  cases axis
  case x => exact clampInt_mem (h .x) c.x
  case y => exact clampInt_mem (h .y) c.y
  case z => exact clampInt_mem (h .z) c.z

/-- The longest length over a box is that of the farthest corner (R13). -/
theorem paidOut_farCorner (a : Anchor) (b : Box) : paidOut a (farCorner (anchorPoint a) b) = longestOver a b := by
  simp only [paidOut_eq, sqDist, farCorner, farDistance_attained, longestOver]

/-- The shortest length over a box is that of the point of the box nearest to the anchor's point (R13). -/
theorem paidOut_clampIntoBox (a : Anchor) (b : Box) : paidOut a (clampIntoBox b (anchorPoint a)) = shortestOver a b := rfl

/-- Every length over a box lies between the shortest and the longest (R13). -/
theorem paidOut_between {b : Box} {p : Vec3} (h : inBox b p = true) (a : Anchor) :
    shortestOver a b ≤ paidOut a p ∧ paidOut a p ≤ longestOver a b := by
  rw [inBox_iff] at h
  obtain ⟨⟨xl, xh⟩, ⟨yl, yh⟩, zl, zh⟩ := And.intro (h .x) (And.intro (h .y) (h .z))
  constructor
  · refine lengthRoot_mono ?_
    unfold sqDist
    gcongr
    · exact nearDistance_le xl xh _
    · exact nearDistance_le yl yh _
    · exact nearDistance_le zl zh _
  · refine lengthRoot_mono ?_
    unfold sqDist
    gcongr
    · exact le_farDistance xl xh _
    · exact le_farDistance yl yh _
    · exact le_farDistance zl zh _

/-! ## The acceptance check -/

/-- A winch fails low over a box in order exactly when some point of it gives too short a length (R13). -/
theorem failsLow_iff {box : Box} (h : boxOrdered box = true) (a : Anchor) :
    failsLow box a = true ↔ ∃ p, inBox (boxMicrons box) p = true ∧ (paidOut a p : Int) < 1000 * a.lmin := by
  simp only [failsLow, h, Bool.not_true, Bool.false_or, decide_eq_true_eq]
  constructor
  · exact fun hs => ⟨_, clampIntoBox_mem (boxMicrons_ordered h) (anchorPoint a), by rwa [paidOut_clampIntoBox]⟩
  · rintro ⟨p, hp, hs⟩
    have := (paidOut_between hp a).1
    omega

/-- A winch fails high over a box in order exactly when some point of it gives too long a length (R13). -/
theorem failsHigh_iff {box : Box} (h : boxOrdered box = true) (a : Anchor) :
    failsHigh box a = true ↔ ∃ p, inBox (boxMicrons box) p = true ∧ 1000 * a.lmax < (paidOut a p : Int) := by
  simp only [failsHigh, h, Bool.not_true, Bool.false_or, decide_eq_true_eq]
  constructor
  · exact fun hs => ⟨_, farCorner_mem (boxMicrons_ordered h) (anchorPoint a), by rwa [paidOut_farCorner]⟩
  · rintro ⟨p, hp, hs⟩
    have := (paidOut_between hp a).2
    omega

/-- A box that is not in order fails both ways on every winch (R13). -/
theorem fails_of_not_ordered {box : Box} (h : boxOrdered box = false) (a : Anchor) :
    failsLow box a = true ∧ failsHigh box a = true := by
  simp [failsLow, failsHigh, h]

/-- A box passes exactly when no winch fails either way (R13). -/
theorem boxPasses_iff (anchors : Quad Anchor) (box : Box) :
    boxPasses anchors box = true ↔
      ∀ w, failsLow box (anchors.get w) = false ∧ failsHigh box (anchors.get w) = false := by
  simp [boxPasses, Quad.all_iff]

/-- A box in order passes exactly when every length over it lies within its winch's limits (R13). -/
theorem boxPasses_iff_lengths {anchors : Quad Anchor} {box : Box} (h : boxOrdered box = true) :
    boxPasses anchors box = true ↔
      ∀ w p, inBox (boxMicrons box) p = true →
        1000 * (anchors.get w).lmin ≤ (paidOut (anchors.get w) p : Int) ∧
          (paidOut (anchors.get w) p : Int) ≤ 1000 * (anchors.get w).lmax := by
  simp only [boxPasses_iff, ← Bool.not_eq_true, failsLow_iff h, failsHigh_iff h, not_exists, not_and, not_lt]
  exact ⟨fun hf w p hp => ⟨(hf w).1 p hp, (hf w).2 p hp⟩,
    fun hl w => ⟨fun p hp => (hl w p hp).1, fun p hp => (hl w p hp).2⟩⟩

/-- A box that passes is in order. -/
theorem boxOrdered_of_passes {anchors : Quad Anchor} {box : Box} (h : boxPasses anchors box = true) :
    boxOrdered box = true := by
  by_contra hn
  have hlow := ((boxPasses_iff anchors box).mp h 0).1
  rw [(fails_of_not_ordered (by simpa using hn) _).1] at hlow
  exact absurd hlow (by decide)

/-- Four bits: below 16, and each is its entry (R51). -/
theorem winchBits_lt (q : Quad Bool) : winchBits q < 16 := by
  unfold winchBits
  grind

theorem winchBits_testBit (q : Quad Bool) (i : Fin 4) : (winchBits q).testBit i.val = q.get i := by
  obtain ⟨q0, q1, q2, q3⟩ := q
  revert q0 q1 q2 q3 i
  decide

/-- The detail's lower four bits name the winches failing low, its upper four those failing high (R14). -/
theorem acceptanceDetail_testBit (anchors : Quad Anchor) (box : Box) (w : Fin 4) :
    (acceptanceDetail anchors box).testBit w.val = failsLow box (anchors.get w) ∧
      (acceptanceDetail anchors box).testBit (w.val + 4) = failsHigh box (anchors.get w) := by
  have hb : acceptanceDetail anchors box =
      2 ^ 4 * winchBits (anchors.map (failsHigh box)) + winchBits (anchors.map (failsLow box)) := Nat.add_comm _ _
  constructor
  · rw [hb, Nat.testBit_two_pow_mul_add _ (winchBits_lt _), if_pos w.isLt, winchBits_testBit, Quad.get_map]
  · rw [hb, Nat.testBit_two_pow_mul_add _ (winchBits_lt _), if_neg (by omega), Nat.add_sub_cancel, winchBits_testBit,
      Quad.get_map]

theorem acceptanceDetail_lt (anchors : Quad Anchor) (box : Box) : acceptanceDetail anchors box < 256 := by
  have low := winchBits_lt (anchors.map (failsLow box))
  have high := winchBits_lt (anchors.map (failsHigh box))
  unfold acceptanceDetail
  omega

/-- Settles O38: the nearest and the farthest point of the box decide for every point of it. -/
theorem acceptanceIsExact : Obligations.AcceptanceIsExact := by
  refine ⟨fun anchors box h => boxPasses_iff_lengths h, fun anchors box h => ⟨?_, ?_⟩, boxOrdered_iff,
    acceptanceDetail_lt, fun anchors box w h => ?_⟩
  · by_contra hp
    rw [boxOrdered_of_passes (by simpa using hp)] at h
    exact absurd h (by decide)
  · have fails := fails_of_not_ordered h
    simp [acceptanceDetail, Quad.map, winchBits, fails]
  · obtain ⟨low, high⟩ := acceptanceDetail_testBit anchors box w
    rw [low, high]
    exact ⟨failsLow_iff h _, failsHigh_iff h _⟩

end Sys2Proof.Machine
end

section
/-! The reset state: its values, and the laws it meets. -/

namespace Sys2Proof.Machine

open Sys2Proof

/-! ## Uniform tables -/

/-- The table of four channels after reset, by winch. -/
@[simp] theorem chan_reset (w : Winch) : State.reset.chan w = Channel.reset ChannelLimits.default := by
  cases w <;> rfl

/-- No flag is set after reset. -/
@[simp] theorem flag_reset (f : Flag) : State.reset.flag f = FlagEntry.clear := by
  cases f <;> rfl

/-- An empty zone table holds no zone. -/
theorem mem_emptyZones {z : Option Zone} (h : z ∈ (Vector.replicate 24 (none : Option Zone)).toList) : z = none := by
  rw [Vector.toList_replicate] at h
  exact List.eq_of_mem_replicate h

/-! ## Reset -/

/-- Settles O3, block by block. -/
theorem resetStateHoldsResetValues : Obligations.ResetStateHoldsResetValues := by
  refine ⟨?link, rfl, ?pln, ?env, ?sol, ?mrk, ?fru, ?ch, ?flt, ?sto, ?defaults⟩
  case link => exact ⟨rfl, rfl, rfl, rfl, rfl, rfl, rfl⟩
  case pln => exact ⟨rfl, rfl, rfl, rfl, rfl, rfl⟩
  case env => exact ⟨rfl, rfl, rfl, fun _ => mem_emptyZones, rfl⟩
  case sol => exact ⟨rfl, rfl, Quad.get_fill _⟩
  case mrk => exact ⟨Quad.get_fill _, rfl⟩
  case fru => exact ⟨rfl, rfl, rfl, rfl, rfl, rfl, rfl, rfl, rfl, rfl, rfl⟩
  case ch => exact ⟨chan_reset, rfl⟩
  case flt => exact ⟨flag_reset, rfl⟩
  case sto => exact ⟨rfl, rfl, rfl, rfl⟩
  case defaults =>
    exact ⟨Quad.get_fill _, rfl, rfl, rfl, rfl, Quad.get_fill _, fun _ => mem_emptyZones, Quad.get_fill _⟩

/-- Settles O4: the queues are empty, nothing moves or is flown, no workspace is valid, no flag is set and every channel is
ABSENT. -/
theorem lawsHoldAtReset : Obligations.LawsHoldAtReset := by
  have noSamples : producesSamples State.reset.fcu.flight ≠ true := by decide
  refine ⟨⟨Nat.zero_le _, Nat.zero_le _⟩, Nat.zero_le _, ⟨Nat.zero_le _, rfl⟩, ?streamFlight, fun h => absurd h noSamples,
    ⟨?valid, fun h => absurd h noSamples⟩, ⟨?axes, fun _ => rfl, ?hand⟩, fun _ w => ?brake, ⟨?op, fun w h => ?setting⟩,
    fun f _ hset => ?trip⟩
  case streamFlight => rintro (h | h) <;> cases h
  case valid => intro h; cases h
  case axes => intro a; cases a <;> exact Nat.zero_le _
  case hand => intro m h; cases h
  case brake => rw [chan_reset]; exact ⟨by decide, by decide⟩
  case op => exact fun h => absurd rfl h
  case setting => rw [chan_reset] at h; cases h
  case trip => rw [flag_reset] at hset; cases hset

end Sys2Proof.Machine
end

section
/-! The settings records (01 R6, R7, R12 to R15; 02 R20; 08 R137; 09 R169): their common gate, what each refuses, and what
each replaces. -/

namespace Sys2Proof.Machine

open Sys2Proof

/-! ## The common gate -/

/-- The checks of two lists, one after the other: the first list's failure answers. -/
theorem firstError_append (a b : List (Bool × ErrorCode × Nat)) :
    firstError (a ++ b) = (firstError a).or (firstError b) := by
  induction a with
  | nil => rfl
  | cons c rest ih =>
    obtain ⟨fails, code, detail⟩ := c
    cases fails <;> simp [ih]

/-- The settings records are taken: in PARKED with neither a save nor a setting operation in progress (R6, R17). -/
def State.settable (s : State) : Prop := s.fcu.flight = .parked ∧ s.sto.save = .idle ∧ s.ch.op.kind = .noSetting

theorem busy_iff (s : State) : busy s = true ↔ s.sto.save ≠ .idle ∨ s.ch.op.kind ≠ .noSetting := by
  simp [busy, saveInProgress, settingInProgress]

/-- Outside PARKED the gate answers WRONG_STATE (R17). -/
theorem settingsGate_flying {s : State} (h : s.fcu.flight ≠ .parked) :
    firstError (settingsGate s) = some (.wrongState, 0) := by
  simp [settingsGate, h]

/-- In PARKED, while a save or a setting operation is in progress, it answers BUSY. -/
theorem settingsGate_busy {s : State} (hf : s.fcu.flight = .parked) (hb : s.sto.save ≠ .idle ∨ s.ch.op.kind ≠ .noSetting) :
    firstError (settingsGate s) = some (.busy, 0) := by
  simp [settingsGate, hf, (busy_iff s).mpr hb]

/-- Elsewhere it passes. -/
theorem settingsGate_ready {s : State} (h : s.settable) :
    firstError (settingsGate s) = none := by
  obtain ⟨hf, hs, ho⟩ := h
  have hb : ¬ busy s = true := by simp [busy_iff, hs, ho]
  simp [settingsGate, hf, hb]

/-- A failing gate answers before every other check. -/
theorem firstError_gate_failing {s : State} {code : ErrorCode} {detail : Nat}
    (h : firstError (settingsGate s) = some (code, detail)) (rest : List (Bool × ErrorCode × Nat)) :
    firstError (settingsGate s ++ rest) = some (code, detail) := by
  rw [firstError_append, h, Option.some_or]

/-- Past the gate the other checks answer; a record's decode leaves the gate as it stood. -/
theorem firstError_gate_ready {s : State} (h : s.settable) (rest : List (Bool × ErrorCode × Nat)) :
    firstError (settingsGate s.afterDecode ++ rest) = firstError rest := by
  have hpass : firstError (settingsGate s.afterDecode) = none := settingsGate_ready h
  rw [firstError_append, hpass, Option.none_or]

/-- The one check past the gate fails and answers. -/
theorem firstError_gate_check_fails {s : State} (h : s.settable) {check : Bool × ErrorCode × Nat} (hc : check.1 = true) :
    firstError (settingsGate s.afterDecode ++ [check]) = some check.2 := by
  obtain ⟨fails, code, detail⟩ := check
  rw [firstError_gate_ready h, firstError_cons, if_pos hc]

/-- The one check past the gate passes. -/
theorem firstError_gate_check_passes {s : State} (h : s.settable) {check : Bool × ErrorCode × Nat} (hc : check.1 = false) :
    firstError (settingsGate s.afterDecode ++ [check]) = none := by
  obtain ⟨fails, code, detail⟩ := check
  rw [firstError_gate_ready h, firstError_cons, if_neg (by simpa using hc), firstError_nil]

/-! ## A record taken by its owner -/

/-- A record its owner refuses is answered with the code and changes nothing else (R204). -/
theorem done_decode_refused {seat : Seat} {type : BitVec 6} {p : List Byte} {s : State} {owner : State → State}
    {code : ErrorCode} {detail : Nat} (ht : s.takesRecord ⟨seat, type, p⟩)
    (h : owner s.afterDecode = refuse seat code detail s.afterDecode) :
    done (decodeCommand type seat p owner s) = .next (s.refused seat code detail) := by
  rw [decodeCommand_taken ht, h, done_of_none (by simpa using ht.handed)]
  rfl

/-- A record its owner takes, with no notice handed over: the owner's state is the next one. -/
theorem done_decode_taken {seat : Seat} {type : BitVec 6} {p : List Byte} {s t : State} {owner : State → State}
    (ht : s.takesRecord ⟨seat, type, p⟩) (h : owner s.afterDecode = t) (hh : t.link.handed = s.link.handed) :
    done (decodeCommand type seat p owner s) = .next t := by
  rw [decodeCommand_taken ht, h, done_of_none (hh.trans ht.handed)]

/-- A record whose owner refuses what the gate refuses: WRONG_STATE outside PARKED, then BUSY. -/
theorem settings_gates {seat : Seat} {type : BitVec 6} {p : List Byte} {s : State} {owner : State → State} {c : Instr}
    (hexec : exec c s = done (decodeCommand type seat p owner s))
    (howner : ∀ code detail, firstError (settingsGate s.afterDecode) = some (code, detail) →
      owner s.afterDecode = refuse seat code detail s.afterDecode)
    (ht : s.takesRecord ⟨seat, type, p⟩) :
    (s.fcu.flight ≠ .parked → exec c s = .next (s.refused seat .wrongState 0)) ∧
      (s.fcu.flight = .parked → (s.sto.save ≠ .idle ∨ s.ch.op.kind ≠ .noSetting) →
        exec c s = .next (s.refused seat .busy 0)) := by
  constructor
  · intro hf
    rw [hexec, done_decode_refused ht (howner _ _ (settingsGate_flying hf))]
  · intro hf hb
    rw [hexec, done_decode_refused ht (howner _ _ (settingsGate_busy hf hb))]

/-! ## Fields -/

/-- A number names no winch exactly when it lies outside 1 to 4. -/
theorem winchOf_isNone_iff (n : Nat) : (winchOf n).isNone = true ↔ n = 0 ∨ 4 < n := by
  unfold winchOf
  split_ifs <;> simp <;> omega

theorem winchOf_winchNumber (w : Winch) : winchOf (winchNumber w) = some w := by
  cases w <;> rfl

/-- The extents of a box are over twice the margin on every axis (R12, R20). -/
theorem extentsExceed_iff (b : Box) (margin : Nat) :
    extentsExceed b margin = true ↔ ∀ axis, 2 * (margin : Int) < b.hi.get axis - b.lo.get axis := by
  simp only [extentsExceed, Bool.and_eq_true, decide_eq_true_eq]
  constructor
  · rintro ⟨⟨hx, hy⟩, hz⟩ axis
    cases axis <;> assumption
  · exact fun h => ⟨⟨h .x, h .y⟩, h .z⟩

/-- A margin fits the held box when that is without extent, or its extents are over twice the margin (R20). -/
theorem marginTooLarge_eq_false_iff (b : Box) (margin : Nat) :
    marginTooLarge b margin = false ↔
      (boxOrdered b = true → ∀ axis, 2 * (margin : Int) < b.hi.get axis - b.lo.get axis) := by
  rw [← extentsExceed_iff]
  cases hb : boxOrdered b <;> simp [marginTooLarge, hb]

/-- The ranges of Ts and N (R137). -/
theorem legalTiming_iff (t : Timing) :
    legalTiming t = true ↔ 1000 ≤ t.ts ∧ t.ts ≤ 4000 ∧ 4 ≤ t.n ∧ t.n ≤ 40 ∧ t.n * t.ts ≤ 100000 := by
  simp [legalTiming, within, and_assoc]

/-! ## SET_ANCHOR -/

/-- The one check SET_ANCHOR makes past the gate: the winch number and the record's ranges (R4, R6). -/
def anchorCheck (p : List Byte) : Bool × ErrorCode × Nat :=
  ((winchOf (unsignedAt p 0 1)).isNone || !legalAnchor (anchorOf p), .badValue, 0)

theorem setAnchor_refused {seat : Seat} {p : List Byte} {s : State} {code : ErrorCode} {detail : Nat}
    (h : firstError (settingsGate s ++ [anchorCheck p]) = some (code, detail)) :
    setAnchor seat p s = refuse seat code detail s := by
  unfold anchorCheck at h
  simp only [setAnchor, h]

theorem setAnchor_taken {seat : Seat} {p : List Byte} {s : State} {w : Winch}
    (h : firstError (settingsGate s ++ [anchorCheck p]) = none) (hw : winchOf (unsignedAt p 0 1) = some w) :
    setAnchor seat p s =
      ackAcceptance seat 0x28
        (runAcceptance (s.onSol fun o => { o with anchors := o.anchors.set (winchIndex w) (anchorOf p) })) := by
  unfold anchorCheck at h
  unfold setAnchor
  dsimp only
  rw [h, hw]

/-! ## SET_WORKSPACE -/

/-- The one check SET_WORKSPACE makes past the gate: a legal box with extents over twice the margin (R12). -/
def workspaceCheck (p : List Byte) (s : State) : Bool × ErrorCode × Nat :=
  (!legalBox (boxAt p 0) || !extentsExceed (boxAt p 0) s.env.limits.margin, .badValue, 0)

theorem workspaceCheck_passes_iff (p : List Byte) (s : State) :
    (workspaceCheck p s).1 = false ↔
      legalBox (boxAt p 0) = true ∧
        ∀ axis, 2 * (s.env.limits.margin : Int) < (boxAt p 0).hi.get axis - (boxAt p 0).lo.get axis := by
  rw [← extentsExceed_iff]
  simp [workspaceCheck]

theorem setWorkspace_refused {seat : Seat} {p : List Byte} {s : State} {code : ErrorCode} {detail : Nat}
    (h : firstError (settingsGate s ++ [workspaceCheck p s]) = some (code, detail)) :
    setWorkspace seat p s = refuse seat code detail s := by
  unfold workspaceCheck at h
  simp only [setWorkspace, h]

theorem setWorkspace_taken {seat : Seat} {p : List Byte} {s : State}
    (h : firstError (settingsGate s ++ [workspaceCheck p s]) = none) :
    setWorkspace seat p s =
      ackAcceptance seat 0x29 (runAcceptance (s.onEnv fun e => { e with box := boxAt p 0 })) := by
  unfold workspaceCheck at h
  simp only [setWorkspace, h]

/-! ## SET_CHANNEL_LIMITS -/

/-- The one check SET_CHANNEL_LIMITS makes past the gate (R169). -/
def channelLimitsCheck (p : List Byte) : Bool × ErrorCode × Nat :=
  ((winchOf (unsignedAt p 0 1)).isNone || !legalChannelLimits (channelLimitsOf p), .badValue, 0)

theorem setChannelLimits_refused {seat : Seat} {p : List Byte} {s : State} {code : ErrorCode} {detail : Nat}
    (h : firstError (settingsGate s ++ [channelLimitsCheck p]) = some (code, detail)) :
    setChannelLimits seat p s = refuse seat code detail s := by
  unfold channelLimitsCheck at h
  simp only [setChannelLimits, h]

theorem setChannelLimits_taken {seat : Seat} {p : List Byte} {s : State} {w : Winch}
    (h : firstError (settingsGate s ++ [channelLimitsCheck p]) = none) (hw : winchOf (unsignedAt p 0 1) = some w) :
    setChannelLimits seat p s = (ack seat 0x2B 0 s).onChan w fun c => { c with limits := channelLimitsOf p } := by
  unfold channelLimitsCheck at h
  unfold setChannelLimits
  dsimp only
  rw [h, hw]

/-! ## SET_LIMITS and SET_TIMING -/

/-- The one check SET_LIMITS makes past the gate (R20). -/
def limitsCheck (l : Limits) (s : State) : Bool × ErrorCode × Nat :=
  (!legalLimits l || marginTooLarge s.env.box l.margin, .badValue, 0)

/-- The one check SET_TIMING makes past the gate (R137). -/
def timingCheck (t : Timing) : Bool × ErrorCode × Nat := (!legalTiming t, .badValue, 0)

/-! ## The six records -/

section
variable {s : State} {seat : Seat} {p : List Byte}

/-- A record answered by its list of checks refuses what the gate at the list's head refuses. -/
theorem answer_gate_failing {type : BitVec 6} {rest : List (Bool × ErrorCode × Nat)} {take : State → State}
    {code : ErrorCode} {detail : Nat} (h : firstError (settingsGate s) = some (code, detail)) :
    answer seat type (settingsGate s ++ rest) take s = refuse seat code detail s :=
  answer_refused (firstError_gate_failing h rest) seat type take s

theorem setAnchor_bad (ht : s.takesRecord ⟨seat, 0x28, p⟩)
    (hr : s.settable)
    (hbad : unsignedAt p 0 1 = 0 ∨ 4 < unsignedAt p 0 1 ∨ legalAnchor (anchorOf p) = false) :
    exec (.setAnchor seat p) s = .next (s.refused seat .badValue 0) := by
  refine done_decode_refused ht (setAnchor_refused (firstError_gate_check_fails hr ?_))
  show (_ || _) = true
  rw [Bool.or_eq_true, winchOf_isNone_iff]
  rcases hbad with h | h | h <;> simp [h]

theorem setAnchor_good (ht : s.takesRecord ⟨seat, 0x28, p⟩)
    (hr : s.settable) {w : Winch}
    (hw : winchNumber w = unsignedAt p 0 1) (hl : legalAnchor (anchorOf p) = true) :
    let anchors := s.sol.anchors.set (winchIndex w) (anchorOf p)
    let valid := boxPasses anchors s.env.box
    exec (.setAnchor seat p) s =
      .next { s.acked seat 0x28 (acceptanceDetail anchors s.env.box) with
        sol :=
          ⟨anchors, s.sol.home, valid && inBox (shrunkBox s.env.limits.margin s.env.box) (toMicrons s.sol.home)⟩
        env := { s.env with boxValid := valid } } := by
  have hwinch : winchOf (unsignedAt p 0 1) = some w := by rw [← hw, winchOf_winchNumber]
  have passes := firstError_gate_check_passes hr (check := anchorCheck p) (by simp [anchorCheck, hwinch, hl])
  exact done_decode_taken ht ((setAnchor_taken passes hwinch).trans rfl) rfl

theorem setWorkspace_bad (ht : s.takesRecord ⟨seat, 0x29, p⟩)
    (hr : s.settable)
    (hbad : ¬ (workspaceCheck p s).1 = false) :
    exec (.setWorkspace seat p) s = .next (s.refused seat .badValue 0) := by
  exact done_decode_refused ht (setWorkspace_refused (firstError_gate_check_fails hr (eq_true_of_ne_false hbad)))

theorem setWorkspace_good (ht : s.takesRecord ⟨seat, 0x29, p⟩)
    (hr : s.settable)
    (hgood : (workspaceCheck p s).1 = false) :
    let valid := boxPasses s.sol.anchors (boxAt p 0)
    exec (.setWorkspace seat p) s =
      .next { s.acked seat 0x29 (acceptanceDetail s.sol.anchors (boxAt p 0)) with
        env := { s.env with box := boxAt p 0, boxValid := valid }
        sol :=
          { s.sol with
            homeValid := valid && inBox (shrunkBox s.env.limits.margin (boxAt p 0)) (toMicrons s.sol.home) } } := by
  have passes := firstError_gate_check_passes hr (check := workspaceCheck p s) hgood
  exact done_decode_taken ht ((setWorkspace_taken passes).trans rfl) rfl

theorem setLimits_bad (ht : s.takesRecord ⟨seat, 0x2A, p⟩)
    (hr : s.settable)
    (hbad : ¬ (legalLimits (limitsOf p) = true ∧ marginTooLarge s.env.box (limitsOf p).margin = false)) :
    exec (.setLimits seat p) s = .next (s.refused seat .badValue 0) := by
  refine done_decode_refused ht (answer_refused (firstError_gate_check_fails hr ?_) _ _ _ _)
  show (_ || _) = true
  rw [not_and_or] at hbad
  simpa using hbad

theorem setLimits_good (ht : s.takesRecord ⟨seat, 0x2A, p⟩)
    (hr : s.settable)
    (hgood : legalLimits (limitsOf p) = true ∧ marginTooLarge s.env.box (limitsOf p).margin = false) :
    exec (.setLimits seat p) s =
      .next { s.acked seat 0x2A 0 with
        env := { s.env with limits := limitsOf p }
        sol :=
          { s.sol with
            homeValid :=
              s.env.boxValid && inBox (shrunkBox (limitsOf p).margin s.env.box) (toMicrons s.sol.home) } } := by
  have passes := firstError_gate_check_passes hr (check := limitsCheck (limitsOf p) s) (by simpa [limitsCheck] using hgood)
  exact done_decode_taken ht ((answer_taken passes _ _ _ _).trans rfl) rfl

theorem setChannelLimits_bad (ht : s.takesRecord ⟨seat, 0x2B, p⟩)
    (hr : s.settable)
    (hbad : unsignedAt p 0 1 = 0 ∨ 4 < unsignedAt p 0 1 ∨ legalChannelLimits (channelLimitsOf p) = false) :
    exec (.setChannelLimits seat p) s = .next (s.refused seat .badValue 0) := by
  refine done_decode_refused ht (setChannelLimits_refused (firstError_gate_check_fails hr ?_))
  show (_ || _) = true
  rw [Bool.or_eq_true, winchOf_isNone_iff]
  rcases hbad with h | h | h <;> simp [h]

theorem setChannelLimits_good (ht : s.takesRecord ⟨seat, 0x2B, p⟩)
    (hr : s.settable) {w : Winch}
    (hw : winchNumber w = unsignedAt p 0 1) (hl : legalChannelLimits (channelLimitsOf p) = true) :
    exec (.setChannelLimits seat p) s =
      .next { s.acked seat 0x2B 0 with
        ch :=
          { s.ch with
            chans := s.ch.chans.set (winchIndex w) { s.chan w with limits := channelLimitsOf p } } } := by
  have hwinch : winchOf (unsignedAt p 0 1) = some w := by rw [← hw, winchOf_winchNumber]
  have passes := firstError_gate_check_passes hr (check := channelLimitsCheck p) (by simp [channelLimitsCheck, hwinch, hl])
  exact done_decode_taken ht ((setChannelLimits_taken passes hwinch).trans rfl) rfl

/-- SET_HOME past the gate: the ranges, the workspace's validity, the shrunk workspace, in this order (R7; log 31). -/
theorem homeChecks_ready (hr : s.settable) (home : Vec3) :
    firstError (homeChecks home s.afterDecode) =
      if legalPositionMm home = false then some (.badValue, 0)
      else if s.env.boxValid = false then some (.noWorkspace, 0)
      else if inBox s.env.shrunk (toMicrons home) = false then some (.badValue, 0)
      else none := by
  rw [homeChecks, firstError_gate_ready hr]
  simp

theorem setHome_refused (ht : s.takesRecord ⟨seat, 0x2E, p⟩) {code : ErrorCode}
    (h : firstError (homeChecks (vecAt p 0 4) s.afterDecode) = some (code, 0)) :
    exec (.setHome seat p) s = .next (s.refused seat code 0) :=
  done_decode_refused ht (answer_refused h _ _ _ _)

theorem setHome_taken (ht : s.takesRecord ⟨seat, 0x2E, p⟩)
    (h : firstError (homeChecks (vecAt p 0 4) s.afterDecode) = none) :
    exec (.setHome seat p) s =
      .next { s.acked seat 0x2E 0 with sol := { s.sol with home := vecAt p 0 4, homeValid := true } } :=
  done_decode_taken ht ((answer_taken h _ _ _ _).trans rfl) rfl

theorem setTiming_bad (ht : s.takesRecord ⟨seat, 0x2C, p⟩)
    (hr : s.settable)
    (hbad : ¬ legalTiming (timingOf p) = true) :
    exec (.setTiming seat p) s = .next (s.refused seat .badValue 0) := by
  exact done_decode_refused ht (answer_refused (firstError_gate_check_fails hr (by simpa using hbad)) _ _ _ _)

/-- The count is exhausted at the largest 32-bit value (R147). -/
theorem exhausted_iff (s : State) : exhausted s = true ↔ 4294967295 ≤ s.fru.frames := decide_eq_true_iff

/-- The frame index with which the timebase restarts: the next event is a frame start, unless the count is exhausted
(R137, R147). -/
theorem restartTimebase_eq (timing : Timing) (s : State) :
    restartTimebase timing s =
      { s with
        fru :=
          { s.fru with
            timing := timing, ref := .freeRun, frameIndex := if s.fru.frames < 4294967295 then 0 else 1
            nextEvent := some (s.fru.nextEvent.getD (s.fru.lastServo + s.fru.timing.ts)), lastRef := none,
            good := 0, miss := 0, pullDir := none, pullLeft := 0 } } := by
  have hindex : (if exhausted s then 1 else 0) = if s.fru.frames < 4294967295 then 0 else 1 := by
    by_cases h : s.fru.frames < 4294967295
    · rw [if_pos h, if_neg fun he => absurd ((exhausted_iff s).mp he) (by omega)]
    · rw [if_neg h, if_pos ((exhausted_iff s).mpr (by omega))]
  unfold restartTimebase
  rw [hindex]
  rfl

theorem setTiming_good (ht : s.takesRecord ⟨seat, 0x2C, p⟩)
    (hr : s.settable)
    (hgood : legalTiming (timingOf p) = true) :
    exec (.setTiming seat p) s =
      .next { s.acked seat 0x2C 0 with fru := (restartTimebase (timingOf p) s).fru } := by
  have passes := firstError_gate_check_passes hr (check := timingCheck (timingOf p)) (by simpa [timingCheck] using hgood)
  exact done_decode_taken ht ((answer_taken passes _ _ _ _).trans rfl) rfl

end

/-- Settles O34: the gate once for all six, then each record's checks and what it replaces. -/
theorem settingsTaken : Obligations.SettingsTaken := by
  refine ⟨?anchor, ?workspace, ?limits, ?channelLimits, ?home, ?timing⟩ <;> intro s seat p
  case anchor =>
    exact ⟨settings_gates rfl fun _ _ h => setAnchor_refused (firstError_gate_failing h _),
      fun ht hr => ⟨setAnchor_bad ht hr, fun w => setAnchor_good ht hr⟩⟩
  case workspace =>
    refine ⟨settings_gates rfl fun _ _ h => setWorkspace_refused (firstError_gate_failing h _), fun ht hr => ?_⟩
    intro b fits
    have hfits : fits ↔ (workspaceCheck p s).1 = false := (workspaceCheck_passes_iff p s).symm
    rw [hfits]
    exact ⟨setWorkspace_bad ht hr, setWorkspace_good ht hr⟩
  case limits =>
    refine ⟨settings_gates rfl fun _ _ h => answer_gate_failing h, fun ht hr => ?_⟩
    intro l box fits
    have hfits : fits ↔ legalLimits l = true ∧ marginTooLarge box l.margin = false :=
      and_congr_right fun _ => (marginTooLarge_eq_false_iff box l.margin).symm
    rw [hfits]
    exact ⟨setLimits_bad ht hr, setLimits_good ht hr⟩
  case channelLimits =>
    exact ⟨settings_gates rfl fun _ _ h => setChannelLimits_refused (firstError_gate_failing h _),
      fun ht hr => ⟨setChannelLimits_bad ht hr, fun w => setChannelLimits_good ht hr⟩⟩
  case home =>
    refine ⟨settings_gates rfl fun _ _ h => answer_gate_failing h, fun ht hr => ?_⟩
    have checks := homeChecks_ready hr (vecAt p 0 4)
    refine ⟨fun hp => setHome_refused ht ?_, fun hp hv => setHome_refused ht ?_, fun hp hv hi => setHome_refused ht ?_,
      fun hp hv hi => setHome_taken ht ?_⟩ <;> rw [checks]
    · rw [if_pos hp]
    · simp [hp, hv]
    · simp [hp, hv, hi]
    · simp [hp, hv, hi]
  case timing =>
    refine ⟨settings_gates rfl fun _ _ h => answer_gate_failing h, fun ht hr => ?_⟩
    intro ts n fits
    have hfits : fits ↔ legalTiming (timingOf p) = true := (legalTiming_iff (timingOf p)).symm
    rw [hfits]
    refine ⟨setTiming_bad ht hr, fun hgood => ?_⟩
    rw [setTiming_good ht hr hgood, restartTimebase_eq]
    rfl

end Sys2Proof.Machine
end

section
/-! The second law's ground: what keeps the workspace law and the frames sent as they are. Every operation but a servo event's
own, the settings of the workspace and the part reset does (R10, R13, R15, R51). -/

namespace Sys2Proof.Machine

open Sys2Proof

/-! ## The relation -/

/-- A state reached with the workspace law kept, and with no frame sent to a drive. -/
structure State.KeepsGround (s t : State) : Prop where
  law : workspaceLaw s → workspaceLaw t
  frames : ∀ w, (t.chan w).sent = (s.chan w).sent

namespace State.KeepsGround

variable {s t u : State}

theorem refl (s : State) : s.KeepsGround s := ⟨id, fun _ => rfl⟩

theorem trans (h : s.KeepsGround t) (k : t.KeepsGround u) : s.KeepsGround u :=
  ⟨fun hs => k.law (h.law hs), fun w => (k.frames w).trans (h.frames w)⟩

/-- The anchors, the box and its validity stand, no frame is sent, and samples are produced only where they were before or
the workspace is valid. -/
theorem of_fields (anchors : t.sol.anchors = s.sol.anchors) (box : t.env.box = s.env.box)
    (valid : t.env.boxValid = s.env.boxValid) (frames : ∀ w, (t.chan w).sent = (s.chan w).sent)
    (flight : producesSamples t.fcu.flight = true → producesSamples s.fcu.flight = true ∨ s.env.boxValid = true) :
    s.KeepsGround t := by
  refine ⟨fun ⟨passes, flies⟩ => ⟨?_, fun ht => ?_⟩, frames⟩
  · rw [anchors, box, valid]
    exact passes
  · rw [valid]
    exact (flight ht).elim flies id

/-- SOL, ENV, the channels and the flight state stand. -/
theorem of_blocks (sol : t.sol = s.sol) (env : t.env = s.env) (ch : t.ch = s.ch) (flight : t.fcu.flight = s.fcu.flight) :
    s.KeepsGround t :=
  of_fields (by rw [sol]) (by rw [env]) (by rw [env]) (fun w => by rw [State.chan, ch]; rfl)
    (fun h => Or.inl (by rwa [flight] at h))

/-- SOL, ENV and the channels stand while the part flies, whatever the flight state becomes. -/
theorem of_flying (sol : t.sol = s.sol) (env : t.env = s.env) (ch : t.ch = s.ch)
    (flies : producesSamples s.fcu.flight = true) : s.KeepsGround t :=
  of_fields (by rw [sol]) (by rw [env]) (by rw [env]) (fun w => by rw [State.chan, ch]; rfl) (fun _ => Or.inl flies)

/-- SOL, ENV and the channels stand, and the part comes to rest. -/
theorem of_resting (sol : t.sol = s.sol) (env : t.env = s.env) (ch : t.ch = s.ch)
    (rests : producesSamples t.fcu.flight = false) : s.KeepsGround t :=
  of_fields (by rw [sol]) (by rw [env]) (by rw [env]) (fun w => by rw [State.chan, ch]; rfl)
    (fun h => absurd h (by rw [rests]; decide))

end State.KeepsGround

/-! ## LINK -/

theorem reply_keepsGround (seat : Seat) (m : Message) (s : State) : s.KeepsGround (reply seat m s) :=
  .of_blocks rfl rfl rfl rfl

theorem ack_keepsGround (seat : Seat) (type : BitVec 6) (n : Nat) (s : State) : s.KeepsGround (ack seat type n s) :=
  reply_keepsGround _ _ s

theorem refuse_keepsGround (seat : Seat) (code : ErrorCode) (n : Nat) (s : State) : s.KeepsGround (refuse seat code n s) :=
  reply_keepsGround _ _ s

theorem notice_keepsGround (code : NoticeCode) (n : Nat) (s : State) : s.KeepsGround (notice code n s) :=
  .of_blocks rfl rfl rfl rfl

theorem onLink_keepsGround (f : Link → Link) (s : State) : s.KeepsGround (s.onLink f) := .of_blocks rfl rfl rfl rfl

theorem awaitDecode_keepsGround (r : Record) (s : State) : s.KeepsGround (awaitDecode r s) := by
  unfold awaitDecode
  split
  · exact .refl s
  · exact onLink_keepsGround _ s

/-- The end of a command keeps what the command kept. -/
theorem done_keepsGround {s u : State} (h : s.KeepsGround u) : ∃ t, done u = .next t ∧ s.KeepsGround t :=
  ⟨deliver u, rfl, h.trans (.of_blocks rfl rfl rfl rfl)⟩

/-- A decode keeps what the act on the record keeps. -/
theorem decodeRecord_keepsGround {r : Record} {act : State → State} {s : State}
    (h : s.afterDecode.KeepsGround (act s.afterDecode)) : s.KeepsGround (decodeRecord r act s) := by
  rcases decodeRecord_cases r act s with hr | hr | ⟨-, -, hr⟩ <;> rw [hr]
  · exact .refl s
  · exact awaitDecode_keepsGround r s
  · exact (onLink_keepsGround _ s).trans h

/-- A record's command keeps what its owner keeps. -/
theorem decodeCommand_keepsGround {type : BitVec 6} {seat : Seat} {body : List Byte} {owner : State → State} {s : State}
    (h : s.afterDecode.KeepsGround (owner s.afterDecode)) :
    ∃ t, done (decodeCommand type seat body owner s) = .next t ∧ s.KeepsGround t := by
  refine done_keepsGround (decodeRecord_keepsGround ?_)
  split
  · exact refuse_keepsGround _ _ _ _
  · exact h

/-- An owner's answer keeps what the record does when its checks pass. -/
theorem answer_keepsGround {seat : Seat} {type : BitVec 6} {checks : List (Bool × ErrorCode × Nat)} {take : State → State}
    {s : State} (h : firstError checks = none → (ack seat type 0 s).KeepsGround (take (ack seat type 0 s))) :
    s.KeepsGround (answer seat type checks take s) := by
  unfold answer
  split
  · exact refuse_keepsGround _ _ _ s
  · next hc => exact (ack_keepsGround _ _ _ s).trans (h hc)

/-! ## Time -/

theorem advanceTo_keepsGround (t : Nat) (s : State) : s.KeepsGround (advanceTo t s) :=
  .of_fields rfl rfl rfl (fun w => by cases w <;> rfl) Or.inl

theorem atInstant_keepsGround {act : State → State} (h : ∀ u : State, u.KeepsGround (act u)) (t : Nat) (s : State) :
    s.KeepsGround (atInstant t act s) := by
  unfold atInstant
  split
  · exact (advanceTo_keepsGround t s).trans (h _)
  · exact .refl s

theorem atExpiry_keepsGround {act : State → State} (h : ∀ u : State, u.KeepsGround (act u)) (left : Option Nat)
    (s : State) : s.KeepsGround (atExpiry left act s) := by
  rcases atExpiry_cases left act s with hr | ⟨t, hr⟩ <;> rw [hr]
  · exact .refl s
  · exact (advanceTo_keepsGround t s).trans (h _)

/-! ## The channels -/

theorem onChan_keepsGround {f : Channel → Channel} {s : State} {w : Winch}
    (h : (f (s.chan w)).sent = (s.chan w).sent) : s.KeepsGround (s.onChan w f) := by
  refine .of_fields rfl rfl rfl (fun v => ?_) Or.inl
  rw [State.chan_onChan]
  split
  · next hv => rw [hv, h]
  · rfl

theorem onAllChans_keepsGround {f : Channel → Channel} (h : ∀ c, (f c).sent = c.sent) (s : State) :
    s.KeepsGround (onAllChans f s) :=
  .of_fields rfl rfl rfl (fun w => by rw [State.chan_onAllChans, h]) Or.inl

theorem Channel.release_sent (c : Channel) : c.release.sent = c.sent := by unfold Channel.release; split <;> rfl

theorem Channel.brake_sent (c : Channel) : c.brake.sent = c.sent := by unfold Channel.brake; split <;> rfl

theorem Channel.setRequest_sent (length : Nat) (c : Channel) : (c.setRequest length).sent = c.sent := by
  unfold Channel.setRequest; split <;> rfl

theorem Channel.endSetting_sent (c : Channel) : c.endSetting.sent = c.sent := by unfold Channel.endSetting; split <;> rfl

theorem Channel.afterTrip_sent (c : Channel) : c.afterTrip.sent = c.sent := by unfold Channel.afterTrip; split <;> rfl

theorem endSettingOp_keepsGround (s : State) : s.KeepsGround (endSettingOp s) :=
  .of_fields rfl rfl rfl
    (fun w => by simp only [endSettingOp, State.chan, State.onCh_ch, Quad.get_map, Channel.endSetting_sent]) Or.inl

/-! ## Reports, the store and the markers -/

/-- An occurrence of any flag: a trip brakes the channels and brings the part to rest, any other touches the flags alone. -/
theorem report_keepsGround (f : Flag) (channel : Nat) (seat : Option Seat) (s : State) :
    s.KeepsGround (report f channel seat s) := by
  have sameButFlags : s.SameButFlags (report f channel seat s) → s.KeepsGround (report f channel seat s) := by
    rintro ⟨fcu, -, env, sol, -, -, ch, -⟩
    exact .of_blocks sol env ch (by rw [fcu])
  by_cases hf : f.isTrip = true
  · by_cases hs : s.fcu.flight = .tripped
    · exact sameButFlags (report_tripped_sameButFlags hf channel seat hs)
    · rw [report_trip hf channel seat hs]
      refine .of_fields rfl rfl rfl (fun w => ?_) (fun h => absurd h Bool.false_ne_true)
      simp only [tripEffect, State.chan, Quad.get_map, Channel.afterTrip_sent]
  · exact sameButFlags (report_sameButFlags (by simpa using hf) channel seat s)

theorem reportIf_keepsGround (cond : Bool) (f : Flag) (channel : Nat) (s : State) :
    s.KeepsGround (reportIf cond f channel s) := by
  unfold reportIf
  split
  · exact report_keepsGround _ _ _ s
  · exact .refl s

theorem onSto_keepsGround (f : Sto → Sto) (s : State) : s.KeepsGround (s.onSto f) := .of_blocks rfl rfl rfl rfl

theorem beginPoseWrite_keepsGround (s : State) : s.KeepsGround (beginPoseWrite s) := by
  rw [beginPoseWrite_eq]
  split
  · exact .of_blocks rfl rfl rfl rfl
  · exact .refl s

theorem writePose_keepsGround (pose : RetainedPose) (s : State) : s.KeepsGround (writePose pose s) := by
  unfold writePose
  exact .of_blocks (by simp) (by simp) (by simp) (by simp)

theorem recomputeInside_keepsGround (p : Vec3) (s : State) : s.KeepsGround (recomputeInside p s) :=
  .of_blocks rfl rfl rfl rfl

theorem onPln_keepsGround (f : Pln → Pln) (s : State) : s.KeepsGround (s.onPln f) := .of_blocks rfl rfl rfl rfl

theorem onFru_keepsGround (f : Fru → Fru) (s : State) : s.KeepsGround (s.onFru f) := .of_blocks rfl rfl rfl rfl

/-! ## The acceptance check -/

/-- Where nothing is flown, a workspace the acceptance check has just marked meets the workspace law, whatever stood before
(R15). -/
theorem runAcceptance_workspaceLaw {s : State} (h : producesSamples s.fcu.flight = false) :
    workspaceLaw (runAcceptance s) := by
  refine ⟨fun passes => passes, fun hp => ?_⟩
  have flies : producesSamples s.fcu.flight = true := hp
  rw [h] at flies
  cases flies

theorem runAcceptance_keepsGround {s t : State} (ch : t.ch = s.ch) (rests : producesSamples t.fcu.flight = false) :
    s.KeepsGround (runAcceptance t) := by
  refine ⟨fun _ => runAcceptance_workspaceLaw rests, fun w => ?_⟩
  have hch : (runAcceptance t).ch = s.ch := ch
  rw [State.chan, hch]
  rfl

theorem ackAcceptance_keepsGround (seat : Seat) (type : BitVec 6) (s : State) :
    s.KeepsGround (ackAcceptance seat type s) := ack_keepsGround _ _ _ s

/-- Past the settings gate the part is PARKED. -/
theorem parked_of_gate_passes {s : State} {rest : List (Bool × ErrorCode × Nat)}
    (h : firstError (settingsGate s ++ rest) = none) : s.fcu.flight = .parked := by
  by_contra hf
  rw [firstError_gate_failing (settingsGate_flying hf)] at h
  cases h

/-- SET_ANCHOR runs the acceptance check in PARKED (R6). -/
theorem setAnchor_keepsGround (seat : Seat) (p : List Byte) (s : State) : s.KeepsGround (setAnchor seat p s) := by
  cases h : firstError (settingsGate s ++ [anchorCheck p]) with
  | some e => rw [setAnchor_refused (code := e.1) (detail := e.2) h]; exact refuse_keepsGround _ _ _ s
  | none =>
    have hf := parked_of_gate_passes h
    cases hw : winchOf (unsignedAt p 0 1) with
    | none => simp [anchorCheck, hw, firstError_append] at h
    | some w =>
      rw [setAnchor_taken h hw]
      refine State.KeepsGround.trans ?_ (ackAcceptance_keepsGround _ _ _)
      exact runAcceptance_keepsGround rfl (by rw [State.onSol_fcu, hf]; rfl)

/-- SET_WORKSPACE runs the acceptance check in PARKED (R12). -/
theorem setWorkspace_keepsGround (seat : Seat) (p : List Byte) (s : State) : s.KeepsGround (setWorkspace seat p s) := by
  cases h : firstError (settingsGate s ++ [workspaceCheck p s]) with
  | some e => rw [setWorkspace_refused (code := e.1) (detail := e.2) h]; exact refuse_keepsGround _ _ _ s
  | none =>
    have hf := parked_of_gate_passes h
    rw [setWorkspace_taken h]
    refine State.KeepsGround.trans ?_ (ackAcceptance_keepsGround _ _ _)
    exact runAcceptance_keepsGround rfl (by rw [State.onEnv_fcu, hf]; rfl)

theorem setChannelLimits_keepsGround (seat : Seat) (p : List Byte) (s : State) :
    s.KeepsGround (setChannelLimits seat p s) := by
  cases h : firstError (settingsGate s ++ [channelLimitsCheck p]) with
  | some e => rw [setChannelLimits_refused (code := e.1) (detail := e.2) h]; exact refuse_keepsGround _ _ _ s
  | none =>
    cases hw : winchOf (unsignedAt p 0 1) with
    | none => simp [channelLimitsCheck, hw, firstError_append] at h
    | some w =>
      rw [setChannelLimits_taken h hw]
      exact (ack_keepsGround _ _ _ s).trans (onChan_keepsGround rfl)

/-! ## Flight -/

/-- ARM enters ARMING with a valid workspace alone (R51). -/
theorem startArming_keepsGround {s : State} (h : s.env.boxValid = true) : s.KeepsGround (startArming s) :=
  State.KeepsGround.trans
    (t := (s.onFcu fun f => { f with flight := .arming }).onPln fun p =>
      { p with pos := s.fcu.pose.pos, holdPos := s.fcu.pose.pos, vel := Vec3.zero })
    (.of_fields rfl rfl rfl (fun _ => rfl) fun _ => Or.inr h) (onAllChans_keepsGround Channel.release_sent _)

theorem boxValid_of_armChecks {s : State} (h : firstError (armChecks s) = none) : s.env.boxValid = true := by
  have := (firstError_none_iff _).mp h (!s.env.boxValid, .noWorkspace, 0) (by simp [armChecks])
  simpa using this

theorem cancelPrimed_keepsGround (s : State) : s.KeepsGround (cancelPrimed s) := by
  rw [cancelPrimed_eq]
  exact .of_blocks rfl rfl rfl rfl

theorem startParking_keepsGround (s : State) : s.KeepsGround (startParking s) := by
  refine State.KeepsGround.trans ?_ (cancelPrimed_keepsGround _)
  refine State.KeepsGround.trans ?_ (onAllChans_keepsGround Channel.brake_sent _)
  exact .of_resting rfl rfl rfl rfl

/-- HOLD starts a stop, or enters HOLD, only where a sample is produced (R55, R58 to R60, R62). -/
theorem holdEffect_keepsGround (seat : Seat) (s : State) : s.KeepsGround (holdEffect seat s) := by
  unfold holdEffect
  cases hf : s.fcu.flight with
  | hold =>
    dsimp only
    split
    · exact cancelPrimed_keepsGround s
    · exact .refl s
  | track =>
    dsimp only
    unfold holdInTrack
    split
    · exact .refl s
    · split
      · exact .of_flying rfl rfl rfl (by rw [hf]; rfl)
      · exact .of_flying rfl rfl rfl (by rw [hf]; rfl)
      · exact .refl s
      · exact .refl s
  | stopping =>
    dsimp only
    unfold holdInStopping
    split
    · exact .refl s
    · split
      · exact .of_flying rfl rfl rfl (by rw [hf]; rfl)
      · exact .refl s
  | stick => exact .of_flying rfl rfl rfl (by rw [hf]; rfl)
  | stream => exact .of_flying rfl rfl rfl (by rw [hf]; rfl)
  | parked => exact .refl s
  | arming => exact .refl s
  | parking => exact .refl s
  | tripped => exact .refl s

theorem consent_keepsGround (seat : Seat) (d0 : Byte) (s : State) : s.KeepsGround (consent seat d0 s) := by
  unfold consent
  split
  · exact refuse_keepsGround _ _ _ s
  · exact .of_blocks rfl rfl rfl rfl

theorem servicePermit_keepsGround (seat : Seat) (d0 : Byte) (s : State) : s.KeepsGround (servicePermit seat d0 s) := by
  unfold servicePermit
  split
  · exact refuse_keepsGround _ _ _ s
  · exact .of_blocks rfl rfl rfl rfl

theorem subscribe_keepsGround (seat : Seat) (d0 : Byte) (s : State) : s.KeepsGround (subscribe seat d0 s) := by
  unfold subscribe
  split
  · exact refuse_keepsGround _ _ _ s
  · exact .of_blocks rfl rfl rfl rfl

/-! ## CLEAR_FAULTS -/

theorem clearFlags_keepsGround (s : State) : s.KeepsGround (clearFlags s) := by
  have fold : ∀ (flags : List Flag) (t : State), t.KeepsGround
      (flags.foldl (fun t f => if persists s f then t else t.setFlag f FlagEntry.clear) t) := by
    intro flags
    induction flags with
    | nil => exact fun t => .refl t
    | cons f rest ih =>
      intro t
      refine State.KeepsGround.trans ?_ (ih _)
      dsimp only
      split
      · exact .refl t
      · exact .of_blocks rfl rfl rfl rfl
  exact fold allFlags s

theorem returnToParked_keepsGround (s : State) : s.KeepsGround (returnToParked s) := by
  unfold returnToParked
  split
  · exact .of_resting rfl rfl rfl rfl
  · exact .refl s

theorem clearFaultsRecord_keepsGround (seat : Seat) (s : State) : s.KeepsGround (clearFaultsRecord seat s) := by
  unfold clearFaultsRecord
  split
  · exact refuse_keepsGround _ _ _ s
  · refine State.KeepsGround.trans ?_ (ack_keepsGround _ _ _ _)
    unfold clearFaults
    refine State.KeepsGround.trans ?_ (returnToParked_keepsGround _)
    refine (clearFlags_keepsGround s).trans (onAllChans_keepsGround ?_ _)
    exact fun _ => rfl

/-! ## The store -/

theorem startSave_keepsGround (s : State) : s.KeepsGround (startSave s) :=
  (beginPoseWrite_keepsGround s).trans (onSto_keepsGround _ _)

theorem saveFailed_keepsGround (copy : Settings) (s : State) : s.KeepsGround (saveFailed copy s) :=
  .of_blocks rfl rfl rfl rfl

theorem saveSucceeded_keepsGround (copy : Settings) (s : State) : s.KeepsGround (saveSucceeded copy s) :=
  .of_blocks rfl rfl rfl rfl

/-! ## Drive answers -/

theorem badFrame_keepsGround (w : Winch) (s : State) : s.KeepsGround (badFrame w s) := by
  have counted := onChan_keepsGround (s := s) (w := w) (f := fun c => { c with badFrames := satSucc cap16 c.badFrames }) rfl
  unfold badFrame
  dsimp only
  split
  · exact counted.trans (report_keepsGround _ _ _ _)
  · exact counted

theorem loseChannel_keepsGround {f : Channel → Channel} (w : Winch) (s : State)
    (h : (f (s.chan w)).sent = (s.chan w).sent) : s.KeepsGround (loseChannel w f s) :=
  (onChan_keepsGround h).trans (report_keepsGround _ _ _ _)

theorem streamingChecks_keepsGround (w : Winch) (a : AnswerFields) (s : State) : s.KeepsGround (streamingChecks w a s) := by
  unfold streamingChecks
  dsimp only
  refine State.KeepsGround.trans ?_ (reportIf_keepsGround _ _ _ _)
  refine State.KeepsGround.trans ?_ (reportIf_keepsGround _ _ _ _)
  refine State.KeepsGround.trans ?_ (reportIf_keepsGround _ _ _ _)
  refine State.KeepsGround.trans ?_ (reportIf_keepsGround _ _ _ _)
  exact onChan_keepsGround rfl

theorem findDrive_keepsGround (w : Winch) (d : DriveState) (s : State) : s.KeepsGround (findDrive w d s) := by
  unfold findDrive
  split
  · split
    · exact .refl s
    · exact onChan_keepsGround rfl
  · exact (onChan_keepsGround rfl).trans (notice_keepsGround _ _ _)
  · exact (onChan_keepsGround rfl).trans (notice_keepsGround _ _ _)
  · exact .refl s

theorem answerInReady_keepsGround (w : Winch) (d : DriveState) (s : State) : s.KeepsGround (answerInReady w d s) := by
  unfold answerInReady
  split
  · exact (onChan_keepsGround rfl).trans (notice_keepsGround _ _ _)
  · exact .refl s
  · exact onChan_keepsGround rfl
  · exact .refl s

theorem answerInReleasing_keepsGround (w : Winch) (d : DriveState) (s : State) :
    s.KeepsGround (answerInReleasing w d s) := by
  unfold answerInReleasing
  split
  · exact loseChannel_keepsGround w s rfl
  · exact .refl s
  · exact onChan_keepsGround rfl
  · exact .refl s

theorem answerInStreaming_keepsGround (w : Winch) (a : AnswerFields) (s : State) :
    s.KeepsGround (answerInStreaming w a s) := by
  unfold answerInStreaming
  split
  · exact loseChannel_keepsGround w s rfl
  · exact loseChannel_keepsGround w s rfl
  · exact streamingChecks_keepsGround w a s
  · exact .refl s

theorem answerInBraking_keepsGround (w : Winch) (d : DriveState) (s : State) : s.KeepsGround (answerInBraking w d s) := by
  unfold answerInBraking
  split
  · exact loseChannel_keepsGround w s rfl
  · exact onChan_keepsGround rfl
  · exact .refl s
  · exact .refl s

/-- The setting operation's record ended, the channels as they stand (R177). -/
theorem endOp_keepsGround (s : State) :
    s.KeepsGround (s.onCh fun c => { c with op := { c.op with kind := .noSetting } }) :=
  .of_fields rfl rfl rfl (fun _ => rfl) Or.inl

theorem completeSetting_keepsGround (s : State) : s.KeepsGround (completeSetting s) := by
  unfold completeSetting
  dsimp only
  refine State.KeepsGround.trans ?_ (notice_keepsGround _ _ _)
  refine State.KeepsGround.trans ?_ (endOp_keepsGround _)
  exact (writePose_keepsGround _ s).trans (recomputeInside_keepsGround _ _)

theorem settleSetting_keepsGround (s : State) : s.KeepsGround (settleSetting s) := by
  unfold settleSetting
  split
  · exact completeSetting_keepsGround s
  · exact .refl s

theorem answerInSetting_keepsGround (w : Winch) (a : AnswerFields) (s : State) :
    s.KeepsGround (answerInSetting w a s) := by
  unfold answerInSetting
  split
  · exact loseChannel_keepsGround w s rfl
  · split
    · exact (onChan_keepsGround rfl).trans (settleSetting_keepsGround _)
    · exact .refl s

theorem actOnAnswer_keepsGround (w : Winch) (a : AnswerFields) (s : State) : s.KeepsGround (actOnAnswer w a s) := by
  unfold actOnAnswer
  dsimp only
  split
  · split
    · exact .refl s
    · exact (onChan_keepsGround rfl).trans (report_keepsGround _ _ _ _)
  · split
    · exact findDrive_keepsGround w _ s
    · exact findDrive_keepsGround w _ s
    · exact answerInReady_keepsGround w _ s
    · exact answerInReleasing_keepsGround w _ s
    · exact answerInStreaming_keepsGround w a s
    · exact answerInBraking_keepsGround w _ s
    · exact answerInSetting_keepsGround w a s

/-- ARMING ends in HOLD, PARKING in PARKED (R53, R57). -/
theorem watchChannels_keepsGround (s : State) : s.KeepsGround (watchChannels s) := by
  unfold watchChannels
  split
  · next h => exact .of_flying rfl rfl rfl (by rw [h.1]; rfl)
  · split
    · refine State.KeepsGround.trans (t := s.onFcu fun f => { f with flight := .parked }) (.of_resting rfl rfl rfl rfl) ?_
      exact (writePose_keepsGround _ _).trans (notice_keepsGround _ _ _)
    · exact .refl s

theorem driveAnswer_keepsGround (w : Winch) (bytes : List Byte) (s : State) : s.KeepsGround (driveAnswer w bytes s) := by
  unfold driveAnswer
  split
  · exact badFrame_keepsGround w s
  · next a _ =>
    have taken := onChan_keepsGround (s := s) (w := w) (f := Channel.take a) rfl
    exact (taken.trans (actOnAnswer_keepsGround w a _)).trans (watchChannels_keepsGround _)

/-! ## Timeouts and setting operations -/

theorem stateExpiry_keepsGround {act : State → State} (h : ∀ u : State, u.KeepsGround (act u)) (w : Winch)
    (state : ChanState) (s : State) : s.KeepsGround (stateExpiry w state act s) := by
  unfold stateExpiry
  split
  · exact atExpiry_keepsGround h _ s
  · exact .refl s

theorem releaseTimeout_keepsGround (w : Winch) (s : State) : s.KeepsGround (releaseTimeout w s) := by
  have reported := (onChan_keepsGround (s := s) (w := w) (f := fun c => { c with timer := none }) rfl).trans
    (report_keepsGround .armTimeout (winchNumber w) none _)
  unfold releaseTimeout
  dsimp only
  split
  · refine (reported.trans ?_).trans (notice_keepsGround _ _ _)
    refine State.KeepsGround.trans ?_ (onAllChans_keepsGround Channel.brake_sent _)
    exact .of_resting rfl rfl rfl rfl
  · exact reported

theorem settingTimeout_keepsGround (w : Winch) (s : State) : s.KeepsGround (settingTimeout w s) :=
  ((report_keepsGround .settingTimeout (winchNumber w) none s).trans (endSettingOp_keepsGround _)).trans
    ((writePose_keepsGround _ _).trans (notice_keepsGround _ _ _))

theorem startSetting_keepsGround (kind : SettingKind) (p : Vec3) (involved : Quad Bool) (s : State) :
    s.KeepsGround (startSetting kind p involved s) := by
  refine .of_fields rfl rfl rfl (fun w => ?_) Or.inl
  simp only [startSetting, State.chan, State.onCh_ch, Quad.get_zip]
  split
  · exact Channel.setRequest_sent _ _
  · rfl

theorem restartDrive_keepsGround (d0 : Byte) (s : State) : s.KeepsGround (restartDrive d0 s) := by
  unfold restartDrive
  split
  · exact onChan_keepsGround rfl
  · exact .refl s

/-! ## Markers and zones -/

theorem markerRead_keepsGround (seat : Seat) (d0 : Byte) (s : State) : s.KeepsGround (markerRead seat d0 s) := by
  unfold markerRead
  split <;> exact .of_blocks rfl rfl rfl rfl

theorem markerClear_keepsGround (seat : Seat) (d0 : Byte) (s : State) : s.KeepsGround (markerClear seat d0 s) := by
  unfold markerClear
  split
  · exact refuse_keepsGround _ _ _ s
  · split <;> exact .of_blocks rfl rfl rfl rfl

theorem markerSet_keepsGround (seat : Seat) (p : List Byte) (s : State) : s.KeepsGround (markerSet seat p s) := by
  unfold markerSet
  split
  · exact refuse_keepsGround _ _ _ s
  · split <;> exact .of_blocks rfl rfl rfl rfl

/-- A move is flown only where a sample is produced (R29). -/
theorem producesSamples_of_flyingMove {s : State} {m : MoveInHand} (h : flyingMove s = some m) :
    producesSamples s.fcu.flight = true := by
  unfold flyingMove at h
  split at h
  · cases h
  · split at h
    · next hf => rw [hf.1]; rfl
    · split at h
      · next hf => rw [hf.1]; rfl
      · cases h

/-- A ZONE_STOP of a flown move (R30). -/
theorem startZoneStop_keepsGround (m : MoveInHand) {s : State} (h : producesSamples s.fcu.flight = true) :
    s.KeepsGround (startZoneStop m s) := by
  let held := flushQueue (s.onPln fun p => { p with inHand := some { m with phase := .abandoned, stepFlag := false } })
  have same : held.SameButFlags (report .zoneStop 0 none held) := report_sameButFlags rfl 0 none held
  obtain ⟨-, -, env, sol, -, -, ch, -⟩ := same
  exact .of_flying sol env ch h

theorem zoneStopDecision_keepsGround (z : Zone) (s : State) : s.KeepsGround (zoneStopDecision z s) := by
  unfold zoneStopDecision
  split
  · next b m hb hm =>
    split
    · split
      · exact report_keepsGround _ _ _ s
      · exact startZoneStop_keepsGround m (producesSamples_of_flyingMove hm)
    · exact .refl s
  · exact .refl s

theorem putZone_keepsGround (slot : Nat) (z : Option Zone) (s : State) : s.KeepsGround (s.onEnv fun e => e.putZone slot z) :=
  .of_fields rfl rfl rfl (fun _ => rfl) Or.inl

theorem takeZone_keepsGround (slot : Nat) (z : Zone) (s : State) : s.KeepsGround (takeZone slot z s) :=
  (putZone_keepsGround slot (some z) s).trans (zoneStopDecision_keepsGround z _)

theorem zoneRead_keepsGround (seat : Seat) (d0 : Byte) (s : State) : s.KeepsGround (zoneRead seat d0 s) := by
  unfold zoneRead
  split <;> exact .of_blocks rfl rfl rfl rfl

theorem zonePut_keepsGround (seat : Seat) (p : List Byte) (s : State) : s.KeepsGround (zonePut seat p s) := by
  unfold zonePut
  dsimp only
  split
  · exact refuse_keepsGround _ _ _ s
  · split
    · exact refuse_keepsGround _ _ _ s
    · exact answer_keepsGround fun _ => takeZone_keepsGround _ _ _

theorem zoneSet_keepsGround (seat : Seat) (p : List Byte) (s : State) : s.KeepsGround (zoneSet seat p s) := by
  unfold zoneSet
  dsimp only
  split
  · exact refuse_keepsGround _ _ _ s
  · split
    · exact refuse_keepsGround _ _ _ s
    · exact answer_keepsGround fun _ => takeZone_keepsGround _ _ _

theorem zoneRemove_keepsGround (seat : Seat) (p : List Byte) (s : State) : s.KeepsGround (zoneRemove seat p s) := by
  unfold zoneRemove
  dsimp only
  split
  · exact refuse_keepsGround _ _ _ s
  · split
    · exact ack_keepsGround _ _ _ s
    · exact answer_keepsGround fun _ => putZone_keepsGround _ _ _

/-! ## The stick and the stream -/

/-- The stick takes the carrier only where a sample is produced (R96 to R98). -/
theorem takeStick_keepsGround (s : State) : s.KeepsGround (takeStick s) := by
  unfold takeStick
  cases hf : s.fcu.flight with
  | hold =>
    refine (cancelPrimed_keepsGround s).trans (.of_flying rfl rfl rfl ?_)
    rw [cancelPrimed_eq, hf]
    rfl
  | track =>
    dsimp only
    unfold handOverMove
    split
    · exact .of_flying rfl rfl rfl (by rw [hf]; rfl)
    · split <;> exact .of_flying rfl rfl rfl (by rw [hf]; rfl)
  | stream => exact .of_flying rfl rfl rfl (by rw [hf]; rfl)
  | stick => exact .refl s
  | parked => exact .refl s
  | arming => exact .refl s
  | stopping => exact .refl s
  | parking => exact .refl s
  | tripped => exact .refl s

theorem stickRecord_keepsGround (seat : Seat) (p : List Byte) (s : State) : s.KeepsGround (stickRecord seat p s) := by
  unfold stickRecord
  split <;> exact .of_blocks rfl rfl rfl rfl

theorem stickTimeout_keepsGround (s : State) : s.KeepsGround (stickTimeout s) :=
  (onPln_keepsGround _ s).trans (report_keepsGround _ _ _ _)

theorem evaluateBands_keepsGround (s : State) : s.KeepsGround (evaluateBands s) := by
  obtain ⟨low, critical, high, handed, h⟩ := evaluateBands_keeps s
  rw [h]
  exact .of_blocks rfl rfl rfl rfl

theorem appendInOrder_keepsGround (positions : List Vec3) (s : State) : s.KeepsGround (appendInOrder positions s) := by
  unfold appendInOrder
  dsimp only
  refine State.KeepsGround.trans ?_ (evaluateBands_keepsGround _)
  split
  · exact (onPln_keepsGround _ s).trans (report_keepsGround _ _ _ _)
  · exact onPln_keepsGround _ s

theorem takeSamples_keepsGround (j : BitVec 16) (positions : List Vec3) (s : State) :
    s.KeepsGround (takeSamples j positions s) := by
  unfold takeSamples
  dsimp only
  split
  · exact appendInOrder_keepsGround positions s
  · split
    · split
      · exact .refl s
      · exact appendInOrder_keepsGround _ s
    · unfold streamAhead
      dsimp only
      split <;> exact .of_blocks rfl rfl rfl rfl

theorem streamRecord_keepsGround (seat : Seat) (p : List Byte) (s : State) : s.KeepsGround (streamRecord seat p s) := by
  unfold streamRecord
  split
  · exact onPln_keepsGround _ s
  · dsimp only
    split
    · exact takeSamples_keepsGround _ _ s
    · exact onPln_keepsGround _ s

/-- The end of a playing stream starts a stop; a stream plays in STREAM alone (R121, R122). -/
theorem streamEnd_keepsGround {s : State} (h : streamFlight s) : s.KeepsGround (streamEnd s) := by
  unfold streamEnd
  split
  · exact onPln_keepsGround _ s
  · next hp =>
    split
    · exact .of_flying rfl rfl rfl (by rw [h (Or.inl hp)]; rfl)
    · exact onPln_keepsGround _ s
  · exact .refl s
  · exact .refl s

end Sys2Proof.Machine
end

section
/-! The planner and the second law: what its samples and its commands leave of ENV, and the setpoints SOL hands out at a
committed position (R10, R40, R43). -/

namespace Sys2Proof.Machine

open Sys2Proof

/-! ## What the planner leaves of ENV -/

/-- No occurrence of a flag touches ENV. -/
@[simp] theorem report_env (f : Flag) (channel : Nat) (seat : Option Seat) (s : State) :
    (report f channel seat s).env = s.env := by
  by_cases hf : f.isTrip = true
  · by_cases hs : s.fcu.flight = .tripped
    · exact (report_tripped_sameButFlags hf channel seat hs).2.2.1
    · rw [report_trip hf channel seat hs, tripEffect]
  · exact (report_sameButFlags (by simpa using hf) channel seat s).2.2.1

theorem rejectPath_env (s : State) : (rejectPath s).env = s.env := report_env .pathRejected 0 none (flushQueue (emptyHand s))

theorem startMove_env (m : Move) (step : Bool) (s : State) : (startMove m step s).env = s.env := by
  unfold startMove
  dsimp only
  split <;> rfl

/-- An arrival leaves ENV as its move-end decision does (R79). -/
theorem arriveWith_env {onEnd : State → State} (h : ∀ s : State, (onEnd s).env = s.env) (hand : MoveInHand) (s : State) :
    (arriveWith onEnd hand s).env = s.env := by
  have told : ∀ (b : Bool) (t : State), (if b = true then moveNotice .moveDone hand.move t else t).env = t.env := by
    intro b t
    cases b <;> rfl
  unfold arriveWith
  dsimp only
  split
  · rw [h, told]; rfl
  · split
    · rw [h, told]; rfl
    · rw [State.onPln_env, told]; rfl

/-- A begin leaves ENV as its move-end decision does (R76). -/
theorem beginWith_env {onEnd : State → State} (h : ∀ s : State, (onEnd s).env = s.env) (m : Move) (step : Bool) (s : State) :
    (beginWith onEnd m step s).env = s.env := by
  unfold beginWith
  split
  · dsimp only
    split
    · rw [arriveWith_env h, startMove_env]
    · exact startMove_env m step s
  · exact rejectPath_env s

theorem earlyEnd_env {step : Bool} {s t : State} (h : earlyEnd step s = some t) : t.env = s.env := by
  unfold earlyEnd at h
  split at h
  · cases h; rfl
  · split at h
    · cases h; rfl
    · cases h

theorem moveEndFrom_env (queue : List Move) : ∀ (step : Bool) (s : State), (moveEndFrom queue step s).env = s.env := by
  induction queue with
  | nil =>
    intro step s
    unfold moveEndFrom
    dsimp only
    split
    · next h => exact (earlyEnd_env h).trans rfl
    · rfl
  | cons head rest ih =>
    intro step s
    unfold moveEndFrom
    dsimp only
    split
    · next h => exact (earlyEnd_env h).trans rfl
    · split
      · rfl
      · exact beginWith_env (ih false) head false _

theorem moveEnd_env (step : Bool) (s : State) : (moveEnd step s).env = s.env := moveEndFrom_env _ step s

theorem concludePath_env (kind : SampleKind) (m : MoveInHand) (s : State) : (concludePath kind m s).env = s.env := by
  unfold concludePath
  split
  · split
    · exact arriveWith_env (moveEnd_env _) m s
    · rfl
  · split
    · exact moveEnd_env _ s
    · rfl
  · split
    · unfold stopRested
      split <;> rfl
    · split
      · unfold stopArrived
        dsimp only
        split <;> rfl
      · rfl
  · rfl

theorem concludeFollow_env (played : Vec3) (first : Bool) (s : State) : (concludeFollow played first s).env = s.env := by
  have rest : ∀ u : State, (if 1000 * u.env.limits.lagLimit < chebyshev played u.pln.pos then lagEnd u
      else if u.pln.stream.state = .ending ∧ u.pln.stream.samples = [] then endStream u else u).env = u.env := by
    intro u
    split
    · exact report_env .streamLag 0 none u
    · split <;> rfl
  unfold concludeFollow
  cases first
  · exact rest s
  · exact rest (notice .streamPlaying 0 s)

/-- What a sample concludes leaves ENV alone. -/
theorem conclude_env (kind : SampleKind) (struck : Bool) (s : State) : (conclude kind struck s).env = s.env := by
  have path : ∀ k, (if struck = true then strikeEnd s else s.pln.inHand.elim s fun m => concludePath k m s).env = s.env := by
    intro k
    split
    · rfl
    · cases s.pln.inHand with
      | none => rfl
      | some m => exact concludePath_env k m s
  unfold conclude
  split
  · rfl
  · rfl
  · exact concludeFollow_env _ _ s
  · split
    · unfold endAxisStop
      split <;> rfl
    · rfl
  · exact path _
  · exact path _
  · exact path _

/-- ENV as it stands but for the speed ceiling. -/
def Env.SameButCeiling (e f : Env) : Prop := f = { e with ceiling := f.ceiling }

theorem prepareFollow_env (first : Bool) (head : Sample) (rest : List Sample) {s : State} {e : Env} (h : s.env = e) :
    e.SameButCeiling (prepareFollow first head rest s).state.env := by
  obtain ⟨low, critical, high, handed, hb⟩ :=
    evaluateBands_keeps (s.onPln fun p => { p with stream := { p.stream with samples := rest } })
  subst h
  unfold prepareFollow
  rw [hb]
  rfl

theorem prepareStream_env (s : State) : s.env.SameButCeiling (prepareStream s).state.env := by
  unfold prepareStream
  split
  · exact prepareFollow_env _ _ _ rfl
  · split
    · have h : (prepareAxisStop (stepStream s) (underrun s)).state.env = s.env := report_env .streamUnderrun 0 none s
      rw [h]
      rfl
    · rfl

theorem prepareStartOfPlay_env (s : State) : s.env.SameButCeiling (prepareStartOfPlay s).state.env := by
  unfold prepareStartOfPlay
  dsimp only
  split
  · have h : (prepareRest (cancelStream (report .streamUnderrun 0 none s))).state.env = s.env :=
      report_env .streamUnderrun 0 none s
    rw [h]
    rfl
  · split
    · rfl
    · exact prepareFollow_env _ _ _ rfl

theorem prepareTrack_env (s : State) : s.env.SameButCeiling (prepareTrack s).state.env := by
  unfold prepareTrack
  split
  · rfl
  · split <;> rfl

theorem prepareStopping_env (s : State) : s.env.SameButCeiling (prepareStopping s).state.env := by
  unfold prepareStopping
  split <;> rfl

/-- The preparation of a sample computes the speed ceiling and leaves the rest of ENV alone (R36). -/
theorem prepareSample_env {frameStart : Bool} {s : State} :
    ∀ p, prepareSample frameStart s = some p → s.env.SameButCeiling p.state.env := by
  have given : ∀ q : Prepared, s.env.SameButCeiling q.state.env →
      ∀ p, some q = some p → s.env.SameButCeiling p.state.env := fun q hq p h => Option.some.inj h ▸ hq
  unfold prepareSample
  cases s.fcu.flight with
  | parked => exact fun _ h => nomatch h
  | parking => exact fun _ h => nomatch h
  | tripped => exact fun _ h => nomatch h
  | arming => exact given _ rfl
  | hold =>
    refine given _ ?_
    split
    · exact prepareStartOfPlay_env s
    · rfl
  | track => exact given _ (prepareTrack_env s)
  | stick => exact given _ rfl
  | stream => exact given _ (prepareStream_env s)
  | stopping => exact given _ (prepareStopping_env s)

/-! ## The hard clamp stays in the workspace -/

/-- One axis pushed back toward a point stays between bounds that hold both the point and the candidate (R40). -/
theorem pushAxis_between {wl wh lo hi p c : Int} (hp : wl ≤ p ∧ p ≤ wh) (hc : wl ≤ c ∧ c ≤ wh) (hin : lo ≤ c ∧ c ≤ hi) :
    wl ≤ pushAxis lo hi p c ∧ pushAxis lo hi p c ≤ wh := by
  unfold pushAxis
  split_ifs <;> omega

/-- Pass 2 never leaves a workspace that holds the point and the candidate (R40). -/
theorem pushOutOfBox_mem {ws : Box} {p c : Vec3} (hp : inBox ws p = true) (hc : inBox ws c = true) (b : Box) :
    inBox ws (pushOutOfBox p c b) = true := by
  unfold pushOutOfBox
  split
  · next hin =>
    rw [inBox_iff] at hp hc hin ⊢
    intro axis
    cases axis
    case x => exact pushAxis_between (hp .x) (hc .x) (hin .x)
    case y => exact pushAxis_between (hp .y) (hc .y) (hin .y)
    case z => exact pushAxis_between (hp .z) (hc .z) (hin .z)
  · exact hc

/-- From a point of the workspace the hard clamp answers a point of it (R40). -/
theorem clampWith_mem {ws : Box} {p : Vec3} (hp : inBox ws p = true) (zones : List Box) (cand : Vec3) :
    inBox ws (clampWith ws zones p cand) = true := by
  have fold : ∀ (zones : List Box) (c : Vec3), inBox ws c = true → inBox ws (zones.foldl (pushOutOfBox p) c) = true := by
    intro zones
    induction zones with
    | nil => exact fun c hc => hc
    | cons b rest ih => exact fun c hc => ih _ (pushOutOfBox_mem hp hc b)
  have ordered : ∀ axis, ws.lo.get axis ≤ ws.hi.get axis := fun axis =>
    le_trans ((inBox_iff ws p).mp hp axis).1 ((inBox_iff ws p).mp hp axis).2
  unfold clampWith
  dsimp only
  split
  · exact hp
  · exact fold zones _ (clampIntoBox_mem ordered cand)

/-! ## The whole sample -/

/-- A sample leaves ENV alone but for the speed ceiling (R36). -/
theorem planSample_env (frameStart : Bool) (s : State) : s.env.SameButCeiling (planSample frameStart s).env := by
  unfold planSample
  cases h : prepareSample frameStart s with
  | none => rfl
  | some p =>
    obtain ⟨flt, mrk, handed, hc⟩ := commit_keeps p
    have kept : (conclude p.kind p.struck p.commit).env = p.state.env := by rw [conclude_env, hc]
    dsimp only
    rw [kept]
    exact prepareSample_env p h

/-- A sample from a position in the shrunk workspace is committed in it (R40). -/
theorem planSample_pos_mem {frameStart : Bool} {s : State} (h : inBox s.env.shrunk s.pln.pos = true) :
    inBox s.env.shrunk (planSample frameStart s).pln.pos = true := by
  have kept := prepareSample_keptByPlanner frameStart s
  unfold planSample
  cases hp : prepareSample frameStart s with
  | none => exact h
  | some p =>
    rw [hp] at kept
    obtain ⟨-, -, -, -, -, -, -, pos, -⟩ := kept
    obtain ⟨-, -, -, -, -, -, concluded, -⟩ := conclude_keptByPlanner p.kind p.struck p.commit
    obtain ⟨flt, mrk, handed, hc⟩ := commit_keeps p
    have committed : (conclude p.kind p.struck p.commit).pln.pos = p.committed := by rw [concluded, hc]
    have shrunk : p.state.env.shrunk = s.env.shrunk := by
      have he : p.state.env = _ := prepareSample_env p hp
      rw [he]
      rfl
    dsimp only
    rw [committed]
    unfold Prepared.committed Env.hardClamp
    rw [shrunk, pos]
    exact clampWith_mem h _ _

/-- Where nothing is flown there is no sample (R43). -/
theorem planSample_of_rest {frameStart : Bool} {s : State} (h : producesSamples s.fcu.flight = false) :
    planSample frameStart s = s := by
  have kept := prepareSample_keptByPlanner frameStart s
  unfold planSample
  cases hp : prepareSample frameStart s with
  | none => rfl
  | some p =>
    rw [hp] at kept
    rw [h] at kept
    exact absurd kept.1 (by decide)

/-- A sample keeps the workspace law, and hands over setpoints without a frame. -/
theorem planSample_keepsGround (frameStart : Bool) (s : State) : s.KeepsGround (planSample frameStart s) := by
  cases hf : producesSamples s.fcu.flight with
  | false => rw [planSample_of_rest hf]; exact .refl s
  | true =>
    obtain ⟨sol, -, -, -, -, -, -, ch⟩ := planSample_keeps frameStart s
    have env : (planSample frameStart s).env = _ := planSample_env frameStart s
    refine .of_fields (by rw [sol]) (by rw [env]) (by rw [env]) (fun w => ?_) (fun _ => Or.inl hf)
    rw [if_pos hf] at ch
    simp only [State.chan, ch, Quad.get_zip]

/-! ## The setpoints -/

/-- A length within a winch's limits, over its run offset (R9, R13). -/
def Anchor.allows (a : Anchor) (length : Nat) : Prop :=
  ∃ paid : Nat, length = paid + (1000 * a.run).toNat ∧ 1000 * a.lmin ≤ paid ∧ (paid : Int) ≤ 1000 * a.lmax

/-- The shrunk workspace lies in the workspace (R19). -/
theorem inBox_of_shrunk {e : Env} {p : Vec3} (h : inBox e.shrunk p = true) : inBox (boxMicrons e.box) p = true := by
  rw [inBox_iff] at h ⊢
  intro axis
  have := h axis
  cases axis <;> simp only [Env.shrunk, shrunkBox, marginVec, vadd, vsub, toMicrons, boxMicrons, Vec3.get] at this ⊢ <;> omega

/-- Over a workspace that passes the acceptance check every setpoint is within its winch's limits (R13). -/
theorem allows_setpointAt {anchors : Quad Anchor} {e : Env} {p : Vec3} (passes : boxPasses anchors e.box = true)
    (h : inBox e.shrunk p = true) (i : Fin 4) : (anchors.get i).allows (setpointAt (anchors.get i) p) := by
  have lengths := (boxPasses_iff_lengths (boxOrdered_of_passes passes)).mp passes i p (inBox_of_shrunk h)
  exact ⟨paidOut (anchors.get i) p, rfl, lengths.1, lengths.2⟩

/-- The setpoint a channel holds after a sample is within its winch's limits (R10). -/
theorem planSample_newest {frameStart : Bool} {s : State} (hw : workspaceLaw s) (hp : positionLaw s)
    (flies : producesSamples s.fcu.flight = true) (w : Winch) :
    (s.sol.anchors.get (winchIndex w)).allows ((planSample frameStart s).chan w).newest := by
  obtain ⟨-, -, -, -, -, -, -, ch⟩ := planSample_keeps frameStart s
  rw [if_pos flies] at ch
  have held : ((planSample frameStart s).chan w).newest =
      setpointAt (s.sol.anchors.get (winchIndex w)) (planSample frameStart s).pln.pos := by
    simp only [State.chan, ch, Quad.get_zip, setpointsAt, Quad.get_map]
  have free := hp flies
  simp only [Env.free, Bool.and_eq_true] at free
  rw [held]
  exact allows_setpointAt (hw.1 (hw.2 flies)) (planSample_pos_mem free.1) _

/-! ## The planner's commands -/

/-- RESUME and STEP begin a move in HOLD alone (R82, R83). -/
theorem resumeWith_keepsGround (type : BitVec 6) (step : Bool) (seat : Seat) (s : State) :
    s.KeepsGround (resumeWith type step seat s) := by
  have begins : ∀ (m : Move) (u : State), u.fcu.flight = .hold → u.KeepsGround (beginWith (moveEnd step) m step u) := by
    intro m u hu
    obtain ⟨sol, -, ch, -⟩ := beginWith_keptByPlanner (moveEnd_keptByPlanner step) m step u
    exact .of_flying sol (beginWith_env (moveEnd_env step) m step u) ch (by rw [hu]; rfl)
  unfold resumeWith
  split
  · exact refuse_keepsGround _ _ _ s
  · next hh =>
    have hold : s.fcu.flight = .hold := not_not.mp hh
    split
    · exact refuse_keepsGround _ _ _ s
    · next m t hn =>
      have offered : ∃ pln, t = { s with pln := pln } := by
        unfold nextMove at hn
        split at hn
        · cases hn; exact ⟨_, rfl⟩
        · split at hn
          · cases hn
          · cases hn; exact ⟨_, rfl⟩
      obtain ⟨pln, rfl⟩ := offered
      refine State.KeepsGround.trans (t := { s with pln := pln }) (.of_blocks rfl rfl rfl rfl) ?_
      split
      · refine ((ack_keepsGround _ _ _ _).trans (cancelPrimed_keepsGround _)).trans (begins m _ ?_)
        rw [cancelPrimed_eq]
        exact hold
      · exact (ack_keepsGround _ _ _ _).trans (begins m _ hold)

theorem flushMoves_keepsGround (seat : Seat) (s : State) : s.KeepsGround (flushMoves seat s) := by
  unfold flushMoves
  split
  · exact onPln_keepsGround _ s
  · unfold discardSuspended
    split <;> exact .of_blocks rfl rfl rfl rfl

theorem appendMove_keepsGround (seat : Seat) (p : List Byte) (s : State) : s.KeepsGround (appendMove seat p s) := by
  unfold appendMove
  dsimp only
  split
  · exact refuse_keepsGround _ _ _ s
  · exact (ack_keepsGround _ _ _ s).trans (onPln_keepsGround _ _)

end Sys2Proof.Machine
end

section
/-! The second law over every command: the servo events that send setpoints, the part reset, and all that keeps the ground
(R10, R13, R15). -/

namespace Sys2Proof.Machine

open Sys2Proof

/-! ## What a step must meet -/

/-- The workspace law kept, and every setpoint newly sent within its winch's limits where the laws stood before. -/
structure State.StepsSafely (s t : State) : Prop where
  law : workspaceLaw s → workspaceLaw t
  sends : workspaceLaw s → positionLaw s → brakeLaw s → ∀ w length, (t.chan w).sendsSetpoint length →
    (t.chan w).sent ≠ (s.chan w).sent → (s.sol.anchors.get (winchIndex w)).allows length

/-- The states that agree in what the second law's premises speak of, and in the frames sent. -/
structure State.SameRig (s t : State) : Prop where
  flight : t.fcu.flight = s.fcu.flight
  env : t.env = s.env
  anchors : t.sol.anchors = s.sol.anchors
  pos : t.pln.pos = s.pln.pos
  states : ∀ w, (t.chan w).state = (s.chan w).state
  frames : ∀ w, (t.chan w).sent = (s.chan w).sent

theorem State.KeepsGround.stepsSafely {s t : State} (h : s.KeepsGround t) : s.StepsSafely t :=
  ⟨h.law, fun _ _ _ w _ _ hne => absurd (h.frames w) hne⟩

theorem State.SameRig.stepsSafely {s t u : State} (h : s.SameRig t) (k : t.StepsSafely u) : s.StepsSafely u := by
  have hw : workspaceLaw s → workspaceLaw t := by
    intro hs
    unfold workspaceLaw
    rw [h.env, h.anchors, h.flight]
    exact hs
  refine ⟨fun hs => k.law (hw hs), fun hs hp hb w length hsend hne => ?_⟩
  have hp' : positionLaw t := by
    unfold positionLaw
    rw [h.env, h.pos, h.flight]
    exact hp
  have hb' : brakeLaw t := by
    intro hf v
    rw [h.states v]
    exact hb (by rwa [h.flight] at hf) v
  rw [← h.anchors]
  exact k.sends (hw hs) hp' hb' w length hsend (by rwa [h.frames])

theorem State.StepsSafely.keepsGround {s t u : State} (h : s.StepsSafely t) (k : t.KeepsGround u) : s.StepsSafely u := by
  refine ⟨fun hs => k.law (h.law hs), fun hs hp hb w length hsend hne => ?_⟩
  refine h.sends hs hp hb w length ?_ (by rwa [k.frames] at hne)
  rwa [Channel.sendsSetpoint, k.frames] at hsend

theorem State.SameRig.refl (s : State) : s.SameRig s := ⟨rfl, rfl, rfl, rfl, fun _ => rfl, fun _ => rfl⟩

theorem onFru_sameRig (f : Fru → Fru) (s : State) : s.SameRig (s.onFru f) := ⟨rfl, rfl, rfl, rfl, fun _ => rfl, fun _ => rfl⟩

theorem advanceTo_sameRig (t : Nat) (s : State) : s.SameRig (advanceTo t s) :=
  ⟨rfl, rfl, rfl, rfl, fun w => by cases w <;> rfl, fun w => by cases w <;> rfl⟩

theorem countFrame_sameRig (frameStart : Bool) (s : State) : s.SameRig (countFrame frameStart s) := by
  unfold countFrame
  split
  · exact onFru_sameRig _ s
  · exact .refl s

/-! ## The frames of a servo event -/

/-- A channel's frame carries a setpoint only in STREAMING, and then the one the channel holds (R155). -/
theorem frameOf_setpoint {c : Channel} {length : Nat} (h : frameOf c = .setpoint length) :
    c.state = .streaming ∧ length = c.newest := by
  unfold frameOf at h
  split at h
  · cases h
  · split at h <;> cases h
    next hs => exact ⟨hs, rfl⟩

/-- The close of a period leaves STREAMING or goes to ABSENT (R157, R166). -/
theorem streaming_of_close {c : Channel} (h : c.close.state = .streaming) : c.state = .streaming := by
  unfold Channel.close at h
  split at h
  · cases h
  · split at h <;> exact h

theorem reportThirdMiss_keepsGround (w : Winch) (c : Channel) (s : State) : s.KeepsGround (reportThirdMiss w c s) := by
  unfold reportThirdMiss
  split
  · exact .refl s
  · split
    · exact report_keepsGround _ _ _ s
    · exact notice_keepsGround _ _ s

/-- After the frames are sent, what third misses report keeps the ground (R166). -/
theorem runChannels_afterFrames (s : State) : (onAllChans (fun c => c.close.send) s).KeepsGround (runChannels s) :=
  (((reportThirdMiss_keepsGround .w1 _ _).trans (reportThirdMiss_keepsGround .w2 _ _)).trans
    (reportThirdMiss_keepsGround .w3 _ _)).trans (reportThirdMiss_keepsGround .w4 _ _)

/-- A setpoint sent at a servo event is the one a STREAMING channel holds (R10, R155). -/
theorem runChannels_setpoint {s : State} {w : Winch} {length : Nat}
    (h : ((runChannels s).chan w).sendsSetpoint length) :
    (s.chan w).state = .streaming ∧ length = (s.chan w).newest := by
  obtain ⟨q, hq⟩ := h
  rw [(runChannels_afterFrames s).frames, State.chan_onAllChans, Channel.send_eq] at hq
  have hframe : frameOf (s.chan w).close = .setpoint length := by
    rw [Option.some.injEq, DriveFrame.mk.injEq] at hq
    exact hq.1
  obtain ⟨hstate, hlength⟩ := frameOf_setpoint hframe
  obtain ⟨-, newest, -⟩ := (s.chan w).close_keeps
  exact ⟨streaming_of_close hstate, hlength.trans newest⟩

/-- The planner's sample and the channels' frames: what is sent is what SOL handed out at the committed position, since no
channel streams where there is none (R10, R43, R155). -/
theorem sampleAndFrames_safe (frameStart : Bool) (s : State) : s.StepsSafely (runChannels (planSample frameStart s)) := by
  have planned := planSample_keepsGround frameStart s
  constructor
  · intro hs
    exact (runChannels_afterFrames _).law (planned.law hs)
  · intro hs hp hb w length hsend _
    obtain ⟨streaming, rfl⟩ := runChannels_setpoint hsend
    cases hf : producesSamples s.fcu.flight with
    | false =>
      rw [planSample_of_rest hf] at streaming
      exact absurd streaming (hb hf w).2
    | true => exact planSample_newest hs hp hf w

/-! ## FRU's part -/

theorem completePull_keepsGround (s : State) : s.KeepsGround (completePull s) := by
  unfold completePull
  split
  · exact .of_blocks rfl rfl rfl rfl
  · exact .refl s

theorem loseReference_keepsGround (s : State) : s.KeepsGround (loseReference s) :=
  (onFru_keepsGround _ s).trans (report_keepsGround _ _ _ _)

theorem closeMiss_keepsGround (s : State) : s.KeepsGround (closeMiss s) := by
  unfold closeMiss
  split
  · exact loseReference_keepsGround s
  · exact .refl s

theorem jumpLocked_keepsGround (s : State) : s.KeepsGround (jumpLocked s) := .of_blocks rfl rfl rfl rfl

theorem settleExhaustion_keepsGround (s : State) : s.KeepsGround (settleExhaustion s) := by
  unfold settleExhaustion
  split
  · exact onFru_keepsGround _ s
  · exact .refl s

theorem schedule_keepsGround (index : Nat) (s : State) : s.KeepsGround (schedule index s) := by
  unfold schedule
  exact onFru_keepsGround _ s

theorem handFramePose_keepsGround (s : State) : s.KeepsGround (handFramePose s) := by
  unfold handFramePose
  dsimp only
  split <;> exact .of_blocks rfl rfl rfl rfl

section
variable {fruStep : State → State} (hstep : ∀ u : State, u.KeepsGround (fruStep u))
include hstep

theorem finishServo_keepsGround (index : Nat) (stale : Quad Bool) (s : State) :
    (runChannels s).KeepsGround (finishServo index stale fruStep s) := by
  unfold finishServo renewSnapshot
  dsimp only
  refine State.KeepsGround.trans ?_ (onFru_keepsGround _ _)
  refine State.KeepsGround.trans ?_ (onFru_keepsGround _ _)
  refine State.KeepsGround.trans ?_ (schedule_keepsGround index _)
  exact (hstep _).trans (settleExhaustion_keepsGround _)

/-- A servo event sends setpoints within the limits alone (R10, R139). -/
theorem raiseServo_safe (index : Nat) (s : State) : s.StepsSafely (raiseServo index fruStep s) := by
  have event := (countFrame_sameRig (decide (index = 0)) s).stepsSafely
    ((sampleAndFrames_safe (decide (index = 0)) _).keepsGround (finishServo_keepsGround hstep index (staleFlags s) _))
  unfold raiseServo
  dsimp only
  split
  · exact event.keepsGround (handFramePose_keepsGround _)
  · exact event

/-! ## A frame start on an edge -/

omit hstep in
/-- A SETPOINT frame amended carries the setpoint its channel holds (R10). -/
theorem amendFrame_setpoint {c : Channel} {length : Nat} (h : c.amendFrame.sendsSetpoint length) : length = c.newest := by
  obtain ⟨q, hq⟩ := h
  obtain ⟨f, -, hf⟩ := Option.map_eq_some_iff.mp (show c.sent.map _ = some _ from hq)
  split at hf
  · rw [DriveFrame.mk.injEq, FrameKind.setpoint.injEq] at hf
    exact hf.1.symm
  · next hk =>
    subst hf
    exact absurd rfl (hk length)

omit hstep in
/-- The sample of a stream whose start frame an edge makes: its setpoints enter the frames just sent (R115, R148). -/
theorem promoteSample_safe (s : State) : s.StepsSafely (promoteSample s) := by
  unfold promoteSample
  split
  · next h =>
    have flies : producesSamples s.fcu.flight = true := by rw [h.1]; rfl
    constructor
    · exact (planSample_keepsGround true s).law
    · intro hs hp _ w length hsend _
      rw [State.chan_onAllChans] at hsend
      rw [amendFrame_setpoint hsend]
      exact planSample_newest hs hp flies w
  · exact (State.KeepsGround.refl s).stepsSafely

theorem promoteServo_safe (s : State) : s.StepsSafely (promoteServo fruStep s) := by
  refine State.StepsSafely.keepsGround ?_ (handFramePose_keepsGround _)
  refine State.StepsSafely.keepsGround ?_ (onFru_keepsGround _ _)
  refine State.StepsSafely.keepsGround ?_ (schedule_keepsGround 0 _)
  refine State.StepsSafely.keepsGround ?_ (settleExhaustion_keepsGround _)
  refine State.StepsSafely.keepsGround ?_ (hstep _)
  exact (countFrame_sameRig true s).stepsSafely (promoteSample_safe _)

theorem edgeFrameStart_safe (s : State) : s.StepsSafely (edgeFrameStart fruStep s) := by
  unfold edgeFrameStart
  split
  · split
    · exact (hstep s).stepsSafely
    · exact promoteServo_safe hstep s
  · exact raiseServo_safe hstep 0 s

end

theorem decidePull_keepsGround (s : State) : s.KeepsGround (decidePull s) := by
  unfold decidePull
  dsimp only
  split
  · exact .of_blocks rfl rfl rfl rfl
  · split <;> exact onFru_keepsGround _ s

theorem reachLock_safe (s : State) : s.StepsSafely (reachLock s) := by
  unfold reachLock
  split
  · exact edgeFrameStart_safe jumpLocked_keepsGround s
  · exact (decidePull_keepsGround s).stepsSafely

theorem edgeInAcquiring_safe (last : Nat) (s : State) : s.StepsSafely (edgeInAcquiring last s) := by
  unfold edgeInAcquiring
  dsimp only
  split
  · split
    · exact (onFru_sameRig _ s).stepsSafely (reachLock_safe _)
    · exact (onFru_keepsGround _ s).stepsSafely
  · exact (onFru_keepsGround _ s).stepsSafely

theorem edgeInPulling_keepsGround (last : Nat) (s : State) : s.KeepsGround (edgeInPulling last s) := by
  unfold edgeInPulling
  split
  · exact (onFru_keepsGround _ s).trans (decidePull_keepsGround _)
  · exact onFru_keepsGround _ s

theorem edgeInLocked_safe (last : Nat) (s : State) : s.StepsSafely (edgeInLocked last s) := by
  unfold edgeInLocked
  split
  · exact (onFru_sameRig _ s).stepsSafely (edgeFrameStart_safe (fun u => .refl u) _)
  · exact (State.KeepsGround.refl s).stepsSafely

/-- An edge, by the reference state (R140 to R147). -/
theorem referenceEdge_safe (s : State) : s.StepsSafely (referenceEdge s) := by
  unfold referenceEdge
  split
  · exact (State.KeepsGround.refl s).stepsSafely
  · dsimp only
    split
    · exact (onFru_keepsGround _ s).stepsSafely
    · exact edgeInAcquiring_safe _ s
    · exact (edgeInPulling_keepsGround _ s).stepsSafely
    · exact edgeInLocked_safe _ s

/-! ## The part reset -/

/-- After a load no channel has sent a frame. -/
theorem loadedState_sent (strap : Strap) (settings : Settings) (pose : RetainedPose) (w : Winch) :
    ((loadedState strap settings pose).chan w).sent = none := by
  simp only [loadedState, State.chan, Quad.get_map, Channel.reset]

theorem examineLine_keepsGround (s : State) : s.KeepsGround (examineLine s) := by
  unfold examineLine
  split
  · exact report_keepsGround _ _ _ s
  · exact .refl s

/-- A part reset examines its workspace in PARKED, and sends nothing (R210). -/
theorem partReset_safe (strap : Strap) (answers : Bool) (s : State) : s.StepsSafely (partReset strap answers s) := by
  obtain ⟨p, loaded, hl, rests, silent⟩ : ∃ p loaded,
      partReset strap answers s = examineLine (recomputeInside p (runAcceptance loaded)) ∧
        producesSamples loaded.fcu.flight = false ∧ ∀ w, (loaded.chan w).sent = none :=
    ⟨_, _, rfl, rfl,
      loadedState_sent strap ((readImage answers (settingsImageAtReset s)).getD Settings.default)
        ((readImage answers (poseImageAtReset s)).getD RetainedPose.default)⟩
  have kept := (recomputeInside_keepsGround p (runAcceptance loaded)).trans (examineLine_keepsGround _)
  rw [hl]
  refine ⟨fun _ => kept.law (runAcceptance_workspaceLaw rests), fun _ _ _ w length hsend _ => ?_⟩
  obtain ⟨q, hq⟩ := hsend
  have none : ((runAcceptance loaded).chan w).sent = none := silent w
  rw [kept.frames, none] at hq
  cases hq

/-! ## Every command -/

/-- The end of a command is as safe as the command. -/
theorem done_safe {s u : State} (h : s.StepsSafely u) : ∃ t, done u = .next t ∧ s.StepsSafely t :=
  ⟨deliver u, rfl, h.keepsGround (.of_blocks rfl rfl rfl rfl)⟩

theorem execServoEvent_safe (s : State) : ∃ t, execServoEvent s = .next t ∧ s.StepsSafely t := by
  unfold execServoEvent
  refine done_safe ?_
  split
  · exact (State.KeepsGround.refl s).stepsSafely
  · exact (advanceTo_sameRig _ s).stepsSafely (raiseServo_safe completePull_keepsGround _ _)

theorem windowClose_safe (last : Nat) (s : State) : s.StepsSafely (windowClose last s) := by
  unfold windowClose
  exact (onFru_sameRig _ s).stepsSafely (raiseServo_safe closeMiss_keepsGround 0 _)

theorem execWindowClose_safe (s : State) : ∃ t, execWindowClose s = .next t ∧ s.StepsSafely t := by
  unfold execWindowClose
  refine done_safe ?_
  split
  · unfold atInstant
    split
    · exact (advanceTo_sameRig _ s).stepsSafely (windowClose_safe _ _)
    · exact (State.KeepsGround.refl s).stepsSafely
  · exact (State.KeepsGround.refl s).stepsSafely

/-- The commands that raise a servo event, or load the part anew: the four that can set a drive's frame. -/
def setsFrames : Instr → Bool
  | .partReset .. => true
  | .servoEvent => true
  | .referenceEdge _ => true
  | .windowClose => true
  | _ => false

/-- DROP_STICK is taken in STICK alone (R102). -/
theorem stick_of_dropChecks {s : State} (h : firstError [(s.fcu.flight ≠ .stick, .wrongState, 0)] = none) :
    s.fcu.flight = .stick := by
  by_contra hf
  rw [firstError_cons, if_pos (decide_eq_true hf)] at h
  cases h

/-- Every other command keeps the ground. -/
theorem exec_keepsGround {c : Instr} (hc : setsFrames c = false) {s : State} (hs : streamFlight s) :
    ∃ t, exec c s = .next t ∧ s.KeepsGround t := by
  cases c with
  | partReset | servoEvent | referenceEdge | windowClose => cases hc
  | estopAssertion =>
    refine done_keepsGround ?_
    split
    · exact .refl s
    · refine State.KeepsGround.trans ?_ (report_keepsGround _ _ _ _)
      exact .of_blocks rfl rfl rfl rfl
  | estopDeassertion => exact done_keepsGround (.of_blocks rfl rfl rfl rfl)
  | receiveByte b stopBit =>
    refine done_keepsGround ?_
    split
    · exact .refl s
    · exact onLink_keepsGround _ s
  | gapTimeout => exact done_keepsGround (atExpiry_keepsGround (onLink_keepsGround _) _ s)
  | transmitComplete =>
    refine done_keepsGround ?_
    split
    · exact .refl s
    · exact onLink_keepsGround _ s
  | ignoredRecord seat type body =>
    refine done_keepsGround ?_
    split
    · exact decodeRecord_keepsGround (onLink_keepsGround _ _)
    · exact .refl s
  | queryState | readPose | readSettings => exact decodeCommand_keepsGround (reply_keepsGround _ _ _)
  | arm =>
    refine decodeCommand_keepsGround (answer_keepsGround fun h => startArming_keepsGround ?_)
    exact boxValid_of_armChecks (s := s.afterDecode) h
  | park => exact decodeCommand_keepsGround (answer_keepsGround fun _ => startParking_keepsGround _)
  | hold seat => exact decodeCommand_keepsGround (answer_keepsGround fun _ => holdEffect_keepsGround seat _)
  | resume seat => exact decodeCommand_keepsGround (resumeWith_keepsGround _ _ seat _)
  | step seat => exact decodeCommand_keepsGround (resumeWith_keepsGround _ _ seat _)
  | takeStick => exact decodeCommand_keepsGround (answer_keepsGround fun _ => takeStick_keepsGround _)
  | dropStick =>
    refine decodeCommand_keepsGround (answer_keepsGround fun h => .of_flying rfl rfl rfl ?_)
    rw [ack_fcu, stick_of_dropChecks h]
    rfl
  | trip => exact decodeCommand_keepsGround (answer_keepsGround fun _ => report_keepsGround _ _ _ _)
  | clearFaults seat => exact decodeCommand_keepsGround (clearFaultsRecord_keepsGround seat _)
  | consent seat d0 => exact decodeCommand_keepsGround (consent_keepsGround seat d0 _)
  | servicePermit seat d0 => exact decodeCommand_keepsGround (servicePermit_keepsGround seat d0 _)
  | flushMoves seat => exact decodeCommand_keepsGround (answer_keepsGround fun _ => flushMoves_keepsGround seat _)
  | streamEnd => exact decodeCommand_keepsGround (answer_keepsGround fun _ => streamEnd_keepsGround hs)
  | subscribe seat d0 => exact decodeCommand_keepsGround (subscribe_keepsGround seat d0 _)
  | zoneRead seat d0 => exact decodeCommand_keepsGround (zoneRead_keepsGround seat d0 _)
  | markerRead seat d0 => exact decodeCommand_keepsGround (markerRead_keepsGround seat d0 _)
  | markerClear seat d0 => exact decodeCommand_keepsGround (markerClear_keepsGround seat d0 _)
  | reference => exact decodeCommand_keepsGround (answer_keepsGround fun _ => startSetting_keepsGround _ _ _ _)
  | restartDrive seat d0 => exact decodeCommand_keepsGround (answer_keepsGround fun _ => restartDrive_keepsGround d0 _)
  | saveSettings => exact decodeCommand_keepsGround (answer_keepsGround fun _ => startSave_keepsGround _)
  | resetPart => exact decodeCommand_keepsGround (answer_keepsGround fun _ => onLink_keepsGround _ _)
  | stick seat p => exact done_keepsGround (decodeRecord_keepsGround (stickRecord_keepsGround seat p _))
  | appendMove seat p => exact decodeCommand_keepsGround (appendMove_keepsGround seat p _)
  | streamStart => exact decodeCommand_keepsGround (answer_keepsGround fun _ => onPln_keepsGround _ _)
  | streamData seat p => exact done_keepsGround (decodeRecord_keepsGround (streamRecord_keepsGround seat p _))
  | zonePut seat p => exact decodeCommand_keepsGround (zonePut_keepsGround seat p _)
  | zoneSet seat p => exact decodeCommand_keepsGround (zoneSet_keepsGround seat p _)
  | zoneRemove seat p => exact decodeCommand_keepsGround (zoneRemove_keepsGround seat p _)
  | markerSet seat p => exact decodeCommand_keepsGround (markerSet_keepsGround seat p _)
  | setAnchor seat p => exact decodeCommand_keepsGround (setAnchor_keepsGround seat p _)
  | setWorkspace seat p => exact decodeCommand_keepsGround (setWorkspace_keepsGround seat p _)
  | setLimits =>
    refine decodeCommand_keepsGround (answer_keepsGround fun _ => .of_fields rfl rfl rfl (fun _ => rfl) Or.inl)
  | setChannelLimits seat p => exact decodeCommand_keepsGround (setChannelLimits_keepsGround seat p _)
  | setTiming => exact decodeCommand_keepsGround (answer_keepsGround fun _ => .of_blocks rfl rfl rfl rfl)
  | declarePose =>
    refine decodeCommand_keepsGround (answer_keepsGround fun _ => ?_)
    exact (startSetting_keepsGround _ _ _ _).trans (settleSetting_keepsGround _)
  | setHome =>
    refine decodeCommand_keepsGround (answer_keepsGround fun _ => .of_fields rfl rfl rfl (fun _ => rfl) Or.inl)
  | acquireSilenceTimeout =>
    refine done_keepsGround ?_
    split
    · exact atInstant_keepsGround (onFru_keepsGround _) _ s
    · exact .refl s
  | pullSilenceTimeout =>
    refine done_keepsGround ?_
    split
    · exact atInstant_keepsGround loseReference_keepsGround _ s
    · exact .refl s
  | driveAnswer w bytes => exact done_keepsGround (driveAnswer_keepsGround w bytes s)
  | releaseTimeout w => exact done_keepsGround (stateExpiry_keepsGround (releaseTimeout_keepsGround w) w _ s)
  | brakeTimeout w =>
    exact done_keepsGround (stateExpiry_keepsGround (fun u => loseChannel_keepsGround w u rfl) w _ s)
  | setTimeout w => exact done_keepsGround (stateExpiry_keepsGround (settingTimeout_keepsGround w) w _ s)
  | stickTimerExpiry =>
    refine done_keepsGround ?_
    split
    · exact atExpiry_keepsGround stickTimeout_keepsGround _ s
    · exact .refl s
  | saveWriteStart =>
    refine done_keepsGround ?_
    split
    · split
      · exact .refl s
      · exact onSto_keepsGround _ s
    · exact .refl s
  | saveWriteEnd readsBack =>
    refine done_keepsGround ?_
    split
    · refine State.KeepsGround.trans ?_ (beginPoseWrite_keepsGround _)
      split
      · exact saveSucceeded_keepsGround _ s
      · exact saveFailed_keepsGround _ s
    · exact .refl s
  | poseWriteStart => exact done_keepsGround (beginPoseWrite_keepsGround s)
  | poseWriteEnd =>
    refine done_keepsGround ?_
    split
    · exact onSto_keepsGround _ s
    · exact .refl s

/-- Every command steps safely. -/
theorem exec_safe (c : Instr) {s : State} (hs : streamFlight s) : ∃ t, exec c s = .next t ∧ s.StepsSafely t := by
  cases hc : setsFrames c with
  | false =>
    obtain ⟨t, ht, kept⟩ := exec_keepsGround hc hs
    exact ⟨t, ht, kept.stepsSafely⟩
  | true =>
    cases c with
    | partReset strap answers => exact done_safe (partReset_safe strap answers s)
    | servoEvent => exact execServoEvent_safe s
    | referenceEdge t => exact done_safe ((advanceTo_sameRig t s).stepsSafely (referenceEdge_safe _))
    | windowClose => exact execWindowClose_safe s
    | _ => cases hc

/-- Settles O58: every command keeps the workspace law, and the only setpoints sent are those SOL hands out at a position
the hard clamp has kept in an accepted workspace. -/
theorem setpointLawKept : Obligations.SetpointLawKept := by
  constructor
  · intro s t hs hw hstep
    unfold step at hstep
    split at hstep
    · cases hstep
      exact hw
    · next c rest hpending =>
      obtain ⟨u, hu, safe⟩ := exec_safe c (s := { s with pending := rest }) hs
      rw [hu] at hstep
      cases hstep
      exact safe.law hw
  · intro c s t hw hp hb hs hexec w length hsend hne
    obtain ⟨u, hu, safe⟩ := exec_safe c hs
    rw [hu] at hexec
    cases hexec
    exact safe.sends hw hp hb w length hsend hne

end Sys2Proof.Machine
end

section
/-! The hard clamp (R40, R41): its two passes as the manual words them, its fallback, and the free position it gives from a free
one. -/

namespace Sys2Proof.Machine

open Sys2Proof

/-! ## Free positions -/

/-- A point is free when it lies in the shrunk workspace and in no active inflated KEEP_OUT box (R40). -/
theorem free_iff (e : Env) (p : Vec3) :
    e.free p = true ↔ inBox e.shrunk p = true ∧ ∀ b ∈ e.keepOuts.map Prod.snd, inBox b p = false := by
  simp only [Env.free, Env.blockedAt, Bool.and_eq_true, Option.isNone_map, Option.isNone_iff_eq_none, List.find?_eq_none,
    List.forall_mem_map, Bool.not_eq_true]

/-- Freedom depends on the box, the margin and the zones alone. -/
theorem free_congr {e f : Env} (box : f.box = e.box) (margin : f.limits.margin = e.limits.margin) (zones : f.zones = e.zones)
    (p : Vec3) : f.free p = e.free p := by
  simp only [Env.free, Env.shrunk, Env.blockedAt, Env.keepOuts, box, margin, zones]

/-! ## The two passes -/

/-- Pass 2 over every box in slot order (R40). -/
def pushOutOfAll (zones : List Box) (p c : Vec3) : Vec3 := zones.foldl (pushOutOfBox p) c

/-- A result still in one of the boxes is replaced by the position (R40). -/
theorem clampWith_blocked {ws : Box} {zones : List Box} {p cand : Vec3}
    (h : ∃ b ∈ zones, inBox b (pushOutOfAll zones p (clampIntoBox ws cand)) = true) : clampWith ws zones p cand = p :=
  if_pos (List.any_eq_true.mpr h)

/-- A result in none of the boxes stands (R40). -/
theorem clampWith_clear {ws : Box} {zones : List Box} {p cand : Vec3}
    (h : ∀ b ∈ zones, inBox b (pushOutOfAll zones p (clampIntoBox ws cand)) = false) :
    clampWith ws zones p cand = pushOutOfAll zones p (clampIntoBox ws cand) :=
  if_neg (by simpa [List.any_eq_true, pushOutOfAll] using h)

/-- The hard clamp has these two outcomes (R40). -/
theorem clampWith_cases (ws : Box) (zones : List Box) (p cand : Vec3) :
    clampWith ws zones p cand = p ∨
      (clampWith ws zones p cand = pushOutOfAll zones p (clampIntoBox ws cand) ∧
        ∀ b ∈ zones, inBox b (pushOutOfAll zones p (clampIntoBox ws cand)) = false) := by
  by_cases h : ∃ b ∈ zones, inBox b (pushOutOfAll zones p (clampIntoBox ws cand)) = true
  · exact Or.inl (clampWith_blocked h)
  · have clear : ∀ b ∈ zones, inBox b (pushOutOfAll zones p (clampIntoBox ws cand)) = false := by simpa using h
    exact Or.inr ⟨clampWith_clear clear, clear⟩

/-- Pass 2 never leaves a box that holds the position and the candidate (R40). -/
theorem pushOutOfAll_mem {b : Box} {p c : Vec3} (hp : inBox b p = true) (hc : inBox b c = true) (zones : List Box) :
    inBox b (pushOutOfAll zones p c) = true := by
  induction zones generalizing c with
  | nil => exact hc
  | cons z rest ih => exact ih (pushOutOfBox_mem hp hc z)

/-- Pass 2 leaves a candidate in none of the boxes as it is (R40). -/
theorem pushOutOfAll_clear {zones : List Box} {c : Vec3} (h : ∀ b ∈ zones, inBox b c = false) (p : Vec3) :
    pushOutOfAll zones p c = c := by
  induction zones with
  | nil => rfl
  | cons z rest ih =>
    have out : pushOutOfBox p c z = c := if_neg (by simp [h z])
    rw [pushOutOfAll, List.foldl_cons, out]
    exact ih fun b hb => h b (List.mem_cons_of_mem z hb)

/-- Pass 1 leaves a candidate of the workspace as it is (R40). -/
theorem clampIntoBox_of_mem {ws : Box} {c : Vec3} (h : inBox ws c = true) : clampIntoBox ws c = c := by
  have fixed : ∀ lo hi v : Int, lo ≤ v ∧ v ≤ hi → clampInt lo hi v = v := fun lo hi v hv => by unfold clampInt; omega
  rw [inBox_iff] at h
  exact congr (congrArg₂ Vec3.mk (fixed _ _ _ (h .x)) (fixed _ _ _ (h .y))) (fixed _ _ _ (h .z))

/-! ## From a free position -/

/-- From a free position the clamp gives a free one (R40). -/
theorem hardClamp_free {e : Env} {p : Vec3} (h : e.free p = true) (cand : Vec3) : e.free (e.hardClamp p cand) = true := by
  have inside : inBox e.shrunk (e.hardClamp p cand) = true := clampWith_mem ((free_iff e p).mp h).1 _ cand
  rcases clampWith_cases e.shrunk (e.keepOuts.map Prod.snd) p cand with kept | ⟨pushed, clear⟩
  · rwa [Env.hardClamp, kept]
  · refine (free_iff e _).mpr ⟨inside, ?_⟩
    rwa [Env.hardClamp, pushed]

/-- A free candidate stands (R40). -/
theorem hardClamp_of_free {e : Env} {cand : Vec3} (h : e.free cand = true) (p : Vec3) : e.hardClamp p cand = cand := by
  obtain ⟨inside, clear⟩ := (free_iff e cand).mp h
  have passed : pushOutOfAll (e.keepOuts.map Prod.snd) p (clampIntoBox e.shrunk cand) = cand := by
    rw [clampIntoBox_of_mem inside, pushOutOfAll_clear clear]
  rw [Env.hardClamp, clampWith_clear (by rwa [passed]), passed]

/-- The box two points span. -/
def spannedBox (p q : Vec3) : Box :=
  ⟨Vec3.ofAxes fun axis => min (p.get axis) (q.get axis), Vec3.ofAxes fun axis => max (p.get axis) (q.get axis)⟩

theorem mem_spannedBox (p q v : Vec3) :
    inBox (spannedBox p q) v = true ↔
      ∀ axis, min (p.get axis) (q.get axis) ≤ v.get axis ∧ v.get axis ≤ max (p.get axis) (q.get axis) := by
  rw [inBox_iff]
  refine forall_congr' fun axis => ?_
  cases axis <;> rfl

/-- From a position of the workspace the clamp stays in the box that the position and the candidate span (R40). -/
theorem clampWith_between {ws : Box} {p : Vec3} (hp : inBox ws p = true) (zones : List Box) (cand : Vec3) :
    inBox (spannedBox p cand) (clampWith ws zones p cand) = true := by
  have start : inBox (spannedBox p cand) p = true := by
    rw [mem_spannedBox]
    exact fun axis => ⟨min_le_left _ _, le_max_left _ _⟩
  have limited : inBox (spannedBox p cand) (clampIntoBox ws cand) = true := by
    rw [mem_spannedBox]
    rw [inBox_iff] at hp
    intro axis
    have inside := hp axis
    cases axis <;> simp only [clampIntoBox, clampInt, Vec3.get] at inside ⊢ <;> omega
  rcases clampWith_cases ws zones p cand with kept | ⟨pushed, -⟩
  · rwa [kept]
  · rw [pushed]
    exact pushOutOfAll_mem start limited zones

/-! ## The manual's wording -/

/-- The boxes pass 2 takes, picked out of the zone table in slot order (R19, R40). -/
theorem keepOuts_boxes_eq {e : Env} {f : Option Zone → Option Box}
    (h : ∀ o b, f o = some b ↔ ∃ z, o = some z ∧ z.kind = .keepOut ∧ z.active = true ∧ b = inflatedBox e.limits.margin z.box) :
    e.keepOuts.map Prod.snd = e.zones.toList.filterMap f := by
  have same : keepOutBox e.limits.margin = f := by
    funext o
    refine Option.ext fun b => ?_
    rw [keepOutBox_iff, h]
  rw [keepOuts_boxes, same]

/-- Settles O40: the two passes and the fallback by the definition of the clamp; from a free position, by the boxes that
hold the position and the candidate. -/
theorem hardClampSafe : Obligations.HardClampSafe := by
  refine ⟨fun e p cand => ?_, fun cand clamped vel axis => ?_, fun e p cand h => ?_⟩
  · intro boxes inner pushed
    have hboxes : e.keepOuts.map Prod.snd = boxes := by
      refine keepOuts_boxes_eq fun o b => ?_
      cases o with
      | none => simp
      | some z =>
        rw [Option.ite_none_right_eq_some]
        simp [and_assoc, @eq_comm _ _ b]
    have hpushed : pushOutOfAll boxes p (clampIntoBox e.shrunk cand) = pushed := rfl
    rw [Env.hardClamp, hboxes, ← hpushed]
    exact ⟨clampWith_blocked, clampWith_clear⟩
  · cases axis <;> rfl
  · refine ⟨hardClamp_free h cand, fun hc => hardClamp_of_free hc p, ?_⟩
    exact (mem_spannedBox p cand _).mp (clampWith_between ((free_iff e p).mp h).1 _ cand)

end Sys2Proof.Machine
end

section
/-! The zone table's edits (R24 to R31): the lock test, the occupancy test and the cut of a flown move as the manual words
them; ZONE_PUT, ZONE_SET and ZONE_REMOVE by their checks; and what a taken edit does. -/

namespace Sys2Proof.Machine

open Sys2Proof

/-! ## Slots -/

theorem zoneAt_of_lt {slot : Nat} (h : slot < 24) (e : Env) : e.zoneAt slot = e.zones[slot] := by
  simp [Env.zoneAt, h]

theorem zoneAt_of_ge {slot : Nat} (h : 24 ≤ slot) (e : Env) : e.zoneAt slot = none := by
  simp [Env.zoneAt, h]

theorem not_zoneSlots_le {slot : Nat} (h : slot < 24) : ¬ zoneSlots ≤ slot := Nat.not_le.mpr h

theorem putZone_of_lt {slot : Nat} (h : slot < 24) (e : Env) (o : Option Zone) :
    e.putZone slot o = { e with zones := e.zones.set slot o } := by
  simp [Env.putZone, Vector.setIfInBounds, Vector.set, Array.setIfInBounds, h]

/-- A slot's content after a write of a slot. -/
theorem putZone_get {i : Nat} (h : i < 24) (e : Env) (slot : Nat) (o : Option Zone) :
    (e.putZone slot o).zones[i] = if slot = i then o else e.zones[i] := by
  simp [Env.putZone, Vector.getElem_setIfInBounds]

/-! ## The three tests -/

/-- The lock test (R24). -/
theorem lockRefuses_iff (seat : Seat) (presented : Nat) (o : Option Zone) :
    lockRefuses seat presented o = false ↔ lockPasses seat presented o := by
  cases o with
  | none => simp [lockRefuses, lockPasses]
  | some z => simp [lockRefuses, lockPasses, or_iff_not_imp_left]

/-- The occupancy test (R28). -/
theorem zoneOccupied_iff (s : State) (z : Zone) : zoneOccupied s z = true ↔ s.occupies z := by
  unfold zoneOccupied State.occupies
  cases hb : keepOutBox s.env.limits.margin (some z) with
  | none =>
    have idle : ¬ (z.kind = .keepOut ∧ z.active = true) := fun ⟨hk, ha⟩ => by
      rw [(keepOutBox_iff _ _ _).mpr ⟨z, rfl, hk, ha, rfl⟩] at hb
      cases hb
    exact iff_of_false Bool.false_ne_true fun ⟨hk, ha, _⟩ => idle ⟨hk, ha⟩
  | some b =>
    obtain ⟨z', hz, hk, ha, rfl⟩ := (keepOutBox_iff _ _ _).mp hb
    cases hz
    by_cases hp : s.fcu.flight = .parked ∧ s.fcu.pose.valid = false <;> simp [hk, ha, hp]

/-- The flown move (R29, R31). -/
theorem flyingMove_iff (s : State) (m : MoveInHand) : flyingMove s = some m ↔ s.flies m := by
  unfold flyingMove State.flies
  cases s.pln.inHand with
  | none => simp
  | some h =>
    have stops : s.pln.stop.map Stop.kind = some .path ↔ ∃ st, s.pln.stop = some st ∧ st.kind = .path :=
      Option.map_eq_some_iff
    simp only [stops, Option.some.injEq]
    by_cases ht : s.fcu.flight = .track ∧ h.phase = .moving
    · rw [if_pos ht, Option.some.injEq]
      exact ⟨fun e => ⟨e, Or.inl (e ▸ ht)⟩, fun e => e.1⟩
    · rw [if_neg ht, Option.ite_none_right_eq_some, Option.some.injEq]
      exact ⟨fun ⟨hs, e⟩ => ⟨e, Or.inr hs⟩, fun ⟨e, hs⟩ => ⟨hs.resolve_left (e ▸ ht), e⟩⟩

theorem State.flies.producesSamples {s : State} {m : MoveInHand} (h : s.flies m) : producesSamples s.fcu.flight = true :=
  producesSamples_of_flyingMove ((flyingMove_iff s m).mpr h)

/-! ## The ZONE_STOP decision -/

/-- An activation that cuts no flown move stops nothing (R29). -/
theorem zoneStopDecision_uncut {z : Zone} {s : State} (h : ∀ m, ¬ s.cutBy z m) : zoneStopDecision z s = s := by
  unfold zoneStopDecision
  split
  · next b m hb hm =>
    obtain ⟨z', hz, hk, ha, rfl⟩ := (keepOutBox_iff _ _ _).mp hb
    cases hz
    have flies := (flyingMove_iff s m).mp hm
    refine if_neg fun meets => h m ⟨flies, hk, ha, ?_⟩
    rwa [commandedPosition_flying flies.producesSamples] at meets
  · rfl

/-- An activation that cuts a flown move stops it, or is one more occurrence where it is abandoned already (R29 to R31). -/
theorem zoneStopDecision_cut {z : Zone} {s : State} {m : MoveInHand} (h : s.cutBy z m) :
    zoneStopDecision z s = if m.phase = .abandoned then report .zoneStop 0 none s else startZoneStop m s := by
  obtain ⟨flies, hk, ha, meets⟩ := h
  have hb : keepOutBox s.env.limits.margin (some z) = some (inflatedBox s.env.limits.margin z.box) :=
    (keepOutBox_iff _ _ _).mpr ⟨z, rfl, hk, ha, rfl⟩
  unfold zoneStopDecision
  rw [hb, (flyingMove_iff s m).mpr flies]
  dsimp only
  rw [commandedPosition_flying flies.producesSamples, if_pos meets]

/-! ## The three records by their checks -/

section
variable {s : State} {seat : Seat} {p : List Byte}

theorem zonePut_noSlot (h : 24 ≤ unsignedAt p 0 1) : zonePut seat p s = refuse seat .noSuchZone 0 s := if_pos h

theorem zonePut_badValue (h : unsignedAt p 0 1 < 24) (hz : zoneOf p s.env.limits.vmax seat = none) :
    zonePut seat p s = refuse seat .badValue 0 s := by
  unfold zonePut
  dsimp only
  rw [if_neg (not_zoneSlots_le h), hz]

/-- The lock and the occupancy of a ZONE_PUT whose fields are in order (R25). -/
theorem zonePut_checked (h : unsignedAt p 0 1 < 24) {z : Zone} (hz : zoneOf p s.env.limits.vmax seat = some z) :
    zonePut seat p s =
      answer seat 0x24
        [(lockRefuses seat (unsignedAt p 1 2) s.env.zones[unsignedAt p 0 1], .locked, 0), (zoneOccupied s z, .zoneOccupied, 0)]
        (takeZone (unsignedAt p 0 1) z) s := by
  unfold zonePut
  dsimp only
  rw [if_neg (not_zoneSlots_le h), hz, zoneAt_of_lt h]

theorem zoneSet_noZone (h : s.env.zoneAt (unsignedAt p 0 1) = none) : zoneSet seat p s = refuse seat .noSuchZone 0 s := by
  unfold zoneSet
  dsimp only
  rw [h]

/-- The active value of a ZONE_SET (R26). -/
theorem flagByte_of_gt {n : Nat} (h : 1 < n) : flagByte n = none := by
  unfold flagByte
  rw [if_neg (by omega), if_neg (by omega)]

theorem flagByte_of_le {n : Nat} (h : n ≤ 1) : flagByte n = some (decide (n = 1)) := by
  obtain rfl | rfl : n = 0 ∨ n = 1 := by omega
  all_goals rfl

theorem zoneSet_badValue (h : unsignedAt p 0 1 < 24) {z : Zone} (hz : s.env.zones[unsignedAt p 0 1] = some z)
    (hf : 1 < unsignedAt p 3 1) : zoneSet seat p s = refuse seat .badValue 0 s := by
  unfold zoneSet
  dsimp only
  rw [zoneAt_of_lt h, hz, flagByte_of_gt hf]

/-- The lock and the occupancy of a ZONE_SET whose fields are in order (R26). -/
theorem zoneSet_checked (h : unsignedAt p 0 1 < 24) {z : Zone} (hz : s.env.zones[unsignedAt p 0 1] = some z)
    (hf : unsignedAt p 3 1 ≤ 1) :
    zoneSet seat p s =
      answer seat 0x25
        [(lockRefuses seat (unsignedAt p 1 2) (some z), .locked, 0),
          (zoneOccupied s { z with active := decide (unsignedAt p 3 1 = 1) }, .zoneOccupied, 0)]
        (takeZone (unsignedAt p 0 1) { z with active := decide (unsignedAt p 3 1 = 1) }) s := by
  unfold zoneSet
  dsimp only
  rw [zoneAt_of_lt h, hz, flagByte_of_le hf]

theorem zoneRemove_noSlot (h : 24 ≤ unsignedAt p 0 1) : zoneRemove seat p s = refuse seat .noSuchZone 0 s := if_pos h

theorem zoneRemove_empty (h : unsignedAt p 0 1 < 24) (hz : s.env.zones[unsignedAt p 0 1] = none) :
    zoneRemove seat p s = ack seat 0x26 1 s := by
  unfold zoneRemove
  dsimp only
  rw [if_neg (not_zoneSlots_le h), zoneAt_of_lt h, hz]

/-- The lock of a ZONE_REMOVE of a zone (R27). -/
theorem zoneRemove_checked (h : unsignedAt p 0 1 < 24) {z : Zone} (hz : s.env.zones[unsignedAt p 0 1] = some z) :
    zoneRemove seat p s =
      answer seat 0x26 [(lockRefuses seat (unsignedAt p 1 2) (some z), .locked, 0)]
        (fun s => s.onEnv fun e => e.putZone (unsignedAt p 0 1) none) s := by
  unfold zoneRemove
  dsimp only
  rw [if_neg (not_zoneSlots_le h), zoneAt_of_lt h, hz]

/-! ## Edits answered -/

/-- The zone table with one slot of it replaced, the record acknowledged and nothing else changed. -/
def State.edited (s : State) (seat : Seat) (type : BitVec 6) (slot : Nat) (o : Option Zone) : State :=
  (s.acked seat type 0).onEnv fun e => e.putZone slot o

theorem State.edited_of_lt {slot : Nat} (h : slot < 24) (seat : Seat) (type : BitVec 6) (o : Option Zone) (s : State) :
    s.edited seat type slot o = { s.acked seat type 0 with env := { s.env with zones := s.env.zones.set slot o } } :=
  congrArg (fun e => { s.acked seat type 0 with env := e }) (putZone_of_lt h s.env o)

variable {type : BitVec 6} {slot presented : Nat} {held : Option Zone} {z : Zone}

/-- A zone that would hold the commanded position is refused, past the lock (R25, R26, R28). -/
theorem edit_occupied (hl : lockPasses seat presented held) (ho : s.occupies z) (take : State → State) :
    answer seat type [(lockRefuses seat presented held, .locked, 0), (zoneOccupied s z, .zoneOccupied, 0)] take s =
      refuse seat .zoneOccupied 0 s := by
  refine answer_refused ?_ _ _ _ _
  simp [(lockRefuses_iff seat presented held).mpr hl, (zoneOccupied_iff s z).mpr ho]

/-- Past both tests the zone is taken (R25, R26). -/
theorem edit_taken (hl : lockPasses seat presented held) (ho : ¬ s.occupies z) (take : State → State) :
    answer seat type [(lockRefuses seat presented held, .locked, 0), (zoneOccupied s z, .zoneOccupied, 0)] take s =
      take (ack seat type 0 s) := by
  refine answer_taken ?_ _ _ _ _
  simp [(lockRefuses_iff seat presented held).mpr hl, (zoneOccupied_iff s z).not.mpr ho]

/-- A zone taken that cuts no flown move is written and nothing else (R25, R26, R29). -/
theorem takeZone_uncut (h : ∀ m, ¬ s.cutBy z m) :
    takeZone slot z (ack seat type 0 s.afterDecode) = s.edited seat type slot (some z) :=
  zoneStopDecision_uncut (s := s.edited seat type slot (some z)) h

/-- One of the two edits that write a zone, taken without a cut (R25, R26). -/
theorem done_edit_uncut {owner : State → State} (ht : s.takesRecord ⟨seat, type, p⟩) (hs : slot < 24)
    (hl : lockPasses seat presented held) (ho : ¬ s.occupies z) (hc : ∀ m, ¬ s.cutBy z m)
    (howner : owner s.afterDecode =
      answer seat type [(lockRefuses seat presented held, .locked, 0), (zoneOccupied s.afterDecode z, .zoneOccupied, 0)]
        (takeZone slot z) s.afterDecode) :
    done (decodeCommand type seat p owner s) =
      .next { s.acked seat type 0 with env := { s.env with zones := s.env.zones.set slot (some z) } } := by
  rw [← State.edited_of_lt hs]
  refine done_decode_taken ht ?_ rfl
  rw [howner, edit_taken (s := s.afterDecode) hl ho, takeZone_uncut hc]

end

/-- Settles O29: each record by its checks in order, and a taken edit by the slot it writes. -/
theorem zoneEdits : Obligations.ZoneEdits := by
  refine ⟨?put, ?set, ?remove⟩ <;> intro s seat p ht slot
  case put =>
    refine ⟨fun hs => done_decode_refused ht (zonePut_noSlot hs), fun hs => ?_⟩
    refine ⟨fun hz => done_decode_refused ht (zonePut_badValue hs hz), fun z hz hl => ?_⟩
    have checked := zonePut_checked (s := s.afterDecode) hs hz
    exact ⟨fun ho => done_decode_refused ht (checked.trans (edit_occupied (s := s.afterDecode) hl ho _)),
      fun ho hc => done_edit_uncut ht hs hl ho hc checked⟩
  case set =>
    intro flag
    refine ⟨fun hs => done_decode_refused ht (zoneSet_noZone (zoneAt_of_ge hs _)), fun hs => ?_⟩
    refine ⟨fun hz => done_decode_refused ht (zoneSet_noZone ((zoneAt_of_lt hs _).trans hz)), fun z hz => ?_⟩
    refine ⟨fun hf => done_decode_refused ht (zoneSet_badValue hs hz hf), fun hf hl => ?_⟩
    have checked := zoneSet_checked (s := s.afterDecode) (seat := seat) hs hz hf
    exact ⟨fun ho => done_decode_refused ht (checked.trans (edit_occupied (s := s.afterDecode) hl ho _)),
      fun ho hc => done_edit_uncut ht hs hl ho hc checked⟩
  case remove =>
    refine ⟨fun hs => done_decode_refused ht (zoneRemove_noSlot hs), fun hs => ?_⟩
    refine ⟨fun hz => done_decode_taken ht (zoneRemove_empty hs hz) rfl, fun z hz hl => ?_⟩
    rw [← State.edited_of_lt hs]
    refine done_decode_taken ht ((zoneRemove_checked (s := s.afterDecode) hs hz).trans ?_) rfl
    exact answer_taken (by simp [(lockRefuses_iff _ _ _).mpr hl]) _ _ _ _

/-! ## Edits that cut a flown move -/

/-- A ZONE_STOP that starts, whole but for the occurrence of its flag (R30). -/
theorem startZoneStop_eq (m : MoveInHand) (s : State) :
    let u := report .zoneStop 0 none { s with
      pln := { s.pln with inHand := some { m with phase := .abandoned, stepFlag := false }, queue := [] }
      mrk := { s.mrk with holdPending := false } }
    startZoneStop m s =
      { u with
        fcu := { s.fcu with flight := .stopping, cause := .zoneStop }
        pln := { u.pln with stop := some ⟨.path, roundNat (s.env.limits.ae * s.fru.timing.ts) 1000⟩ } } := by
  intro u
  have fcu : u.fcu = s.fcu := (report_sameButFlags (f := .zoneStop) rfl 0 none _).1
  rw [← fcu]
  rfl

/-- One of the two edits that write a zone, taken with a cut (R29 to R31). -/
theorem done_edit_cut {s : State} {seat : Seat} {type : BitVec 6} {p : List Byte} {slot presented : Nat}
    {held : Option Zone} {z : Zone} {m : MoveInHand} {owner : State → State} (ht : s.takesRecord ⟨seat, type, p⟩)
    (hl : lockPasses seat presented held) (ho : ¬ s.occupies z) (hc : s.cutBy z m)
    (howner : owner s.afterDecode =
      answer seat type [(lockRefuses seat presented held, .locked, 0), (zoneOccupied s.afterDecode z, .zoneOccupied, 0)]
        (takeZone slot z) s.afterDecode) :
    done (decodeCommand type seat p owner s) =
      .next (deliver (if m.phase = .abandoned then report .zoneStop 0 none (s.edited seat type slot (some z))
        else startZoneStop m (s.edited seat type slot (some z)))) := by
  rw [decodeCommand_taken ht, howner, edit_taken (s := s.afterDecode) hl ho]
  exact congrArg done (zoneStopDecision_cut (s := s.edited seat type slot (some z)) hc)

/-- Settles O31: both edits end in the same decision, which stops the flown move. -/
theorem zoneStopOnCutPath : Obligations.ZoneStopOnCutPath := by
  unfold Obligations.ZoneStopOnCutPath
  intro stops
  have stopped : ∀ (s : State) (seat : Seat) (type : BitVec 6) (slot : Nat) (z : Zone) (m : MoveInHand)
      (hs : slot < 24),
      (if m.phase = .abandoned then report .zoneStop 0 none (s.edited seat type slot (some z))
        else startZoneStop m (s.edited seat type slot (some z))) =
      stops s { s.acked seat type 0 with env := { s.env with zones := s.env.zones.set slot (some z) } } m := by
    intro s seat type slot z m hs
    rw [startZoneStop_eq, State.edited_of_lt hs]
    rfl
  constructor
  · intro s seat p z m ht hs hz hl ho hc
    rw [← stopped s seat 0x24 _ z m hs]
    exact done_edit_cut ht hl ho hc (zonePut_checked (s := s.afterDecode) hs hz)
  · intro s seat p z m ht hs hz hf hl ho hc
    rw [← stopped s seat 0x25 _ _ m hs]
    have checked := zoneSet_checked (s := s.afterDecode) (seat := seat) hs hz (by omega)
    simp only [hf, decide_true] at checked
    exact done_edit_cut ht hl ho hc checked

end Sys2Proof.Machine
end

section
/-! The first law (R40) and the zone table (R24 to R27): what every operation keeps of the commanded position's freedom, and of
the zones. Only an edit of a slot and the part reset change the table. -/

namespace Sys2Proof.Machine

open Sys2Proof

/-! ## The relation -/

/-- A state reached with the zone table as it stood and the first law kept. -/
structure State.KeepsPlace (s t : State) : Prop where
  zones : t.env.zones = s.env.zones
  law : positionLaw s → positionLaw t

namespace State.KeepsPlace

variable {s t u : State}

theorem refl (s : State) : s.KeepsPlace s := ⟨rfl, id⟩

theorem trans (h : s.KeepsPlace t) (k : t.KeepsPlace u) : s.KeepsPlace u :=
  ⟨k.zones.trans h.zones, fun hs => k.law (h.law hs)⟩

/-- ENV stands, and samples are produced only where they were before, at the same position. -/
theorem of_env (env : t.env = s.env)
    (flight : producesSamples t.fcu.flight = true → producesSamples s.fcu.flight = true ∧ t.pln.pos = s.pln.pos) :
    s.KeepsPlace t := by
  refine ⟨by rw [env], fun law ht => ?_⟩
  obtain ⟨flies, pos⟩ := flight ht
  rw [env, pos]
  exact law flies

/-- ENV, the flight state and the position stand. -/
theorem of_blocks (env : t.env = s.env) (flight : t.fcu.flight = s.fcu.flight) (pos : t.pln.pos = s.pln.pos) :
    s.KeepsPlace t := of_env env fun ht => ⟨flight ▸ ht, pos⟩

/-- ENV and the position stand while the part flies, whatever the flight state becomes. -/
theorem of_flying (env : t.env = s.env) (pos : t.pln.pos = s.pln.pos) (flies : producesSamples s.fcu.flight = true) :
    s.KeepsPlace t := of_env env fun _ => ⟨flies, pos⟩

/-- The zones stand, and the part is at rest. -/
theorem of_resting (zones : t.env.zones = s.env.zones) (rests : producesSamples t.fcu.flight = false) : s.KeepsPlace t :=
  ⟨zones, fun _ ht => absurd ht (by rw [rests]; exact Bool.false_ne_true)⟩

end State.KeepsPlace

/-! ## LINK -/

theorem reply_keepsPlace (seat : Seat) (m : Message) (s : State) : s.KeepsPlace (reply seat m s) := .of_blocks rfl rfl rfl

theorem ack_keepsPlace (seat : Seat) (type : BitVec 6) (n : Nat) (s : State) : s.KeepsPlace (ack seat type n s) :=
  reply_keepsPlace _ _ s

theorem refuse_keepsPlace (seat : Seat) (code : ErrorCode) (n : Nat) (s : State) : s.KeepsPlace (refuse seat code n s) :=
  reply_keepsPlace _ _ s

theorem onLink_keepsPlace (f : Link → Link) (s : State) : s.KeepsPlace (s.onLink f) := .of_blocks rfl rfl rfl

theorem awaitDecode_keepsPlace (r : Record) (s : State) : s.KeepsPlace (awaitDecode r s) := by
  unfold awaitDecode
  split
  · exact .refl s
  · exact onLink_keepsPlace _ s

/-- The end of a command keeps what the command kept. -/
theorem done_keepsPlace {s u : State} (h : s.KeepsPlace u) : ∃ t, done u = .next t ∧ s.KeepsPlace t :=
  ⟨deliver u, rfl, h.trans (onLink_keepsPlace _ u)⟩

/-- A decode keeps what the act on the record keeps. -/
theorem decodeRecord_keepsPlace {r : Record} {act : State → State} {s : State}
    (h : s.afterDecode.KeepsPlace (act s.afterDecode)) : s.KeepsPlace (decodeRecord r act s) := by
  rcases decodeRecord_cases r act s with hr | hr | ⟨-, -, hr⟩ <;> rw [hr]
  · exact .refl s
  · exact awaitDecode_keepsPlace r s
  · exact (onLink_keepsPlace _ s).trans h

/-- A record's command keeps what its owner keeps. -/
theorem decodeCommand_keepsPlace {type : BitVec 6} {seat : Seat} {body : List Byte} {owner : State → State} {s : State}
    (h : s.afterDecode.KeepsPlace (owner s.afterDecode)) :
    ∃ t, done (decodeCommand type seat body owner s) = .next t ∧ s.KeepsPlace t := by
  refine done_keepsPlace (decodeRecord_keepsPlace ?_)
  split
  · exact refuse_keepsPlace _ _ _ _
  · exact h

/-- An owner's answer keeps what the record does when its checks pass. -/
theorem answer_keepsPlace {seat : Seat} {type : BitVec 6} {checks : List (Bool × ErrorCode × Nat)} {take : State → State}
    {s : State} (h : firstError checks = none → (ack seat type 0 s).KeepsPlace (take (ack seat type 0 s))) :
    s.KeepsPlace (answer seat type checks take s) := by
  unfold answer
  split
  · exact refuse_keepsPlace _ _ _ s
  · next hc => exact (ack_keepsPlace _ _ _ s).trans (h hc)

/-! ## Time -/

/-- The operations that leave the rig's flight state, ENV and position alone, among them the passing of time. -/
theorem State.SameRig.keepsPlace {s t : State} (h : s.SameRig t) : s.KeepsPlace t := .of_blocks h.env h.flight h.pos

theorem atInstant_keepsPlace {act : State → State} (h : ∀ u : State, u.KeepsPlace (act u)) (t : Nat) (s : State) :
    s.KeepsPlace (atInstant t act s) := by
  unfold atInstant
  split
  · exact (advanceTo_sameRig t s).keepsPlace.trans (h _)
  · exact .refl s

theorem atExpiry_keepsPlace {act : State → State} (h : ∀ u : State, u.KeepsPlace (act u)) (left : Option Nat)
    (s : State) : s.KeepsPlace (atExpiry left act s) := by
  rcases atExpiry_cases left act s with hr | ⟨t, hr⟩ <;> rw [hr]
  · exact .refl s
  · exact (advanceTo_sameRig t s).keepsPlace.trans (h _)

theorem stateExpiry_keepsPlace {act : State → State} (h : ∀ u : State, u.KeepsPlace (act u)) (w : Winch)
    (state : ChanState) (s : State) : s.KeepsPlace (stateExpiry w state act s) := by
  unfold stateExpiry
  split
  · exact atExpiry_keepsPlace h _ s
  · exact .refl s

/-! ## Reports and the store -/

theorem State.SameButFlags.keepsPlace {s t : State} (h : s.SameButFlags t) : s.KeepsPlace t := by
  obtain ⟨fcu, pln, env, -⟩ := h
  exact .of_blocks env (by rw [fcu]) (by rw [pln])

/-- An occurrence of any flag: a trip brings the part to rest, any other touches the flags alone. -/
theorem report_keepsPlace (f : Flag) (channel : Nat) (seat : Option Seat) (s : State) :
    s.KeepsPlace (report f channel seat s) := by
  by_cases hf : f.isTrip = true
  · by_cases hs : s.fcu.flight = .tripped
    · exact (report_tripped_sameButFlags hf channel seat hs).keepsPlace
    · rw [report_trip hf channel seat hs]
      exact .of_resting rfl rfl
  · exact (report_sameButFlags (by simpa using hf) channel seat s).keepsPlace

/-- A report after what kept the place. -/
theorem State.KeepsPlace.reported {s t : State} (h : s.KeepsPlace t) (f : Flag) (channel : Nat) (seat : Option Seat) :
    s.KeepsPlace (report f channel seat t) := h.trans (report_keepsPlace f channel seat t)

theorem onChan_keepsPlace (w : Winch) (f : Channel → Channel) (s : State) : s.KeepsPlace (s.onChan w f) :=
  .of_blocks rfl rfl rfl

theorem onPln_keepsPlace {f : Pln → Pln} {s : State} (h : (f s.pln).pos = s.pln.pos) : s.KeepsPlace (s.onPln f) :=
  .of_blocks rfl rfl h

theorem reportIf_keepsPlace (cond : Bool) (f : Flag) (channel : Nat) (s : State) :
    s.KeepsPlace (reportIf cond f channel s) := by
  unfold reportIf
  split
  · exact report_keepsPlace _ _ _ s
  · exact .refl s

theorem beginPoseWrite_keepsPlace (s : State) : s.KeepsPlace (beginPoseWrite s) := by
  rw [beginPoseWrite_eq]
  split
  · exact .of_blocks rfl rfl rfl
  · exact .refl s

theorem writePose_keepsPlace (pose : RetainedPose) (s : State) : s.KeepsPlace (writePose pose s) := by
  unfold writePose
  exact .of_blocks (by simp) (by simp) (by simp)

theorem clearFlags_sameButFlags (s : State) : s.SameButFlags (clearFlags s) := by
  have fold : ∀ (flags : List Flag) (t : State), t.SameButFlags
      (flags.foldl (fun t f => if persists s f then t else t.setFlag f FlagEntry.clear) t) := by
    intro flags
    induction flags with
    | nil => exact fun t => .rfl' t
    | cons f rest ih =>
      intro t
      refine State.SameButFlags.trans' ?_ (ih _)
      dsimp only
      split
      · exact .rfl' t
      · exact ⟨rfl, rfl, rfl, rfl, rfl, rfl, rfl, rfl, rfl, rfl, rfl, rfl, rfl⟩
  exact fold allFlags s

/-- CLEAR_FAULTS ends in PARKED or in the flight state it found (R194). -/
theorem clearFaultsRecord_keepsPlace (seat : Seat) (s : State) : s.KeepsPlace (clearFaultsRecord seat s) := by
  have cleared := (clearFlags_sameButFlags s).keepsPlace
  unfold clearFaultsRecord
  split
  · exact refuse_keepsPlace _ _ _ s
  · refine State.KeepsPlace.trans ?_ (ack_keepsPlace _ _ _ _)
    unfold clearFaults returnToParked
    split
    · exact cleared.trans (.of_resting rfl rfl)
    · exact cleared.trans (.of_blocks rfl rfl rfl)

/-! ## The acceptance check and the settings -/

/-- A record taken past the settings gate: the part is PARKED, so that no position is held (R6, R17). -/
theorem settings_keepsPlace {s t : State} {rest : List (Bool × ErrorCode × Nat)}
    (h : firstError (settingsGate s ++ rest) = none) (zones : t.env.zones = s.env.zones) (flight : t.fcu.flight = s.fcu.flight) :
    s.KeepsPlace t := .of_resting zones (by rw [flight, parked_of_gate_passes h]; rfl)

theorem setAnchor_keepsPlace (seat : Seat) (p : List Byte) (s : State) : s.KeepsPlace (setAnchor seat p s) := by
  unfold setAnchor
  dsimp only
  split
  · exact refuse_keepsPlace _ _ _ s
  · exact refuse_keepsPlace _ _ _ s
  · next h _ => exact settings_keepsPlace h rfl rfl

theorem setWorkspace_keepsPlace (seat : Seat) (p : List Byte) (s : State) : s.KeepsPlace (setWorkspace seat p s) := by
  unfold setWorkspace
  dsimp only
  split
  · exact refuse_keepsPlace _ _ _ s
  · next h => exact settings_keepsPlace h rfl rfl

theorem setChannelLimits_keepsPlace (seat : Seat) (p : List Byte) (s : State) :
    s.KeepsPlace (setChannelLimits seat p s) := by
  unfold setChannelLimits
  dsimp only
  split
  · exact refuse_keepsPlace _ _ _ s
  · exact refuse_keepsPlace _ _ _ s
  · exact .of_blocks rfl rfl rfl

/-! ## Flight -/

/-- ARM takes the retained pose for the position only where it is free (R51, R52). -/
theorem startArming_keepsPlace {s : State} (h : s.env.free s.fcu.pose.pos = true) : s.KeepsPlace (startArming s) :=
  ⟨rfl, fun _ _ => h⟩

theorem free_of_armChecks {s : State} (h : firstError (armChecks s) = none) : s.env.free s.fcu.pose.pos = true := by
  have clear : (poseBlock s.env s.fcu.pose.pos).isSome = false :=
    (firstError_none_iff _).mp h
      ((poseBlock s.env s.fcu.pose.pos).isSome, .poseBlocked, (poseBlock s.env s.fcu.pose.pos).getD 0)
      (by simp [armChecks])
  unfold poseBlock at clear
  split at clear
  · next inside => simpa [Env.free, inside] using clear
  · cases clear

theorem cancelPrimed_keepsPlace (s : State) : s.KeepsPlace (cancelPrimed s) := by
  rw [cancelPrimed_eq]
  exact .of_blocks rfl rfl rfl

theorem startParking_keepsPlace (s : State) : s.KeepsPlace (startParking s) := by
  refine State.KeepsPlace.trans ?_ (cancelPrimed_keepsPlace _)
  exact .of_resting rfl rfl

/-- HOLD starts a stop, or enters HOLD, only where a sample is produced (R55, R58 to R60, R62). -/
theorem holdEffect_keepsPlace (seat : Seat) (s : State) : s.KeepsPlace (holdEffect seat s) := by
  unfold holdEffect
  cases hf : s.fcu.flight with
  | hold =>
    dsimp only
    split
    · exact cancelPrimed_keepsPlace s
    · exact .refl s
  | track =>
    dsimp only
    unfold holdInTrack
    split
    · exact .refl s
    · split
      · exact .of_flying rfl rfl (by rw [hf]; rfl)
      · exact .of_flying rfl rfl (by rw [hf]; rfl)
      · exact .refl s
      · exact .refl s
  | stopping =>
    dsimp only
    unfold holdInStopping
    split
    · exact .refl s
    · split
      · exact .of_flying rfl rfl (by rw [hf]; rfl)
      · exact .refl s
  | stick | stream => exact .of_flying rfl rfl (by rw [hf]; rfl)
  | parked | arming | parking | tripped => exact .refl s

/-! ## Drive answers -/

theorem badFrame_keepsPlace (w : Winch) (s : State) : s.KeepsPlace (badFrame w s) := by
  unfold badFrame
  dsimp only
  split
  · exact (onChan_keepsPlace w _ s).reported _ _ _
  · exact onChan_keepsPlace w _ s

theorem loseChannel_keepsPlace (w : Winch) (f : Channel → Channel) (s : State) : s.KeepsPlace (loseChannel w f s) :=
  (onChan_keepsPlace w f s).reported _ _ _

theorem streamingChecks_keepsPlace (w : Winch) (a : AnswerFields) (s : State) : s.KeepsPlace (streamingChecks w a s) := by
  unfold streamingChecks
  dsimp only
  refine State.KeepsPlace.trans ?_ (reportIf_keepsPlace _ _ _ _)
  refine State.KeepsPlace.trans ?_ (reportIf_keepsPlace _ _ _ _)
  refine State.KeepsPlace.trans ?_ (reportIf_keepsPlace _ _ _ _)
  refine State.KeepsPlace.trans ?_ (reportIf_keepsPlace _ _ _ _)
  exact .of_blocks rfl rfl rfl

/-- An answer in ABSENT or FAULTED moves its channel alone (R159, R165). -/
theorem findDrive_keepsPlace (w : Winch) (d : DriveState) (s : State) : s.KeepsPlace (findDrive w d s) := by
  unfold findDrive
  split
  · split <;> exact .of_blocks rfl rfl rfl
  all_goals exact .of_blocks rfl rfl rfl

theorem answerInReady_keepsPlace (w : Winch) (d : DriveState) (s : State) : s.KeepsPlace (answerInReady w d s) := by
  unfold answerInReady
  split <;> exact .of_blocks rfl rfl rfl

theorem answerInReleasing_keepsPlace (w : Winch) (d : DriveState) (s : State) :
    s.KeepsPlace (answerInReleasing w d s) := by
  unfold answerInReleasing
  split
  · exact loseChannel_keepsPlace w _ s
  all_goals exact .of_blocks rfl rfl rfl

theorem answerInStreaming_keepsPlace (w : Winch) (a : AnswerFields) (s : State) :
    s.KeepsPlace (answerInStreaming w a s) := by
  unfold answerInStreaming
  split
  · exact loseChannel_keepsPlace w _ s
  · exact loseChannel_keepsPlace w _ s
  · exact streamingChecks_keepsPlace w a s
  · exact .refl s

theorem answerInBraking_keepsPlace (w : Winch) (d : DriveState) (s : State) : s.KeepsPlace (answerInBraking w d s) := by
  unfold answerInBraking
  split
  · exact loseChannel_keepsPlace w _ s
  all_goals exact .of_blocks rfl rfl rfl

theorem settleSetting_keepsPlace (s : State) : s.KeepsPlace (settleSetting s) := by
  unfold settleSetting
  split
  · exact (writePose_keepsPlace _ s).trans (.of_blocks rfl rfl rfl)
  · exact .refl s

theorem answerInSetting_keepsPlace (w : Winch) (a : AnswerFields) (s : State) : s.KeepsPlace (answerInSetting w a s) := by
  unfold answerInSetting
  split
  · exact loseChannel_keepsPlace w _ s
  · split
    · exact (onChan_keepsPlace w _ s).trans (settleSetting_keepsPlace _)
    · exact .refl s

theorem actOnAnswer_keepsPlace (w : Winch) (a : AnswerFields) (s : State) : s.KeepsPlace (actOnAnswer w a s) := by
  unfold actOnAnswer
  dsimp only
  split
  · split
    · exact .refl s
    · exact (onChan_keepsPlace w _ s).reported _ _ _
  · split
    · exact findDrive_keepsPlace w _ s
    · exact findDrive_keepsPlace w _ s
    · exact answerInReady_keepsPlace w _ s
    · exact answerInReleasing_keepsPlace w _ s
    · exact answerInStreaming_keepsPlace w a s
    · exact answerInBraking_keepsPlace w _ s
    · exact answerInSetting_keepsPlace w a s

/-- ARMING ends in HOLD where it stands, PARKING in PARKED (R53, R57). -/
theorem watchChannels_keepsPlace (s : State) : s.KeepsPlace (watchChannels s) := by
  unfold watchChannels
  split
  · next h => exact .of_flying rfl rfl (by rw [h.1]; rfl)
  · split
    · refine State.KeepsPlace.trans (t := s.onFcu fun f => { f with flight := .parked }) (.of_resting rfl rfl) ?_
      exact (writePose_keepsPlace _ _).trans (.of_blocks rfl rfl rfl)
    · exact .refl s

theorem driveAnswer_keepsPlace (w : Winch) (bytes : List Byte) (s : State) : s.KeepsPlace (driveAnswer w bytes s) := by
  unfold driveAnswer
  split
  · exact badFrame_keepsPlace w s
  · next a _ =>
    have taken : s.KeepsPlace (s.onChan w (Channel.take a)) := .of_blocks rfl rfl rfl
    exact (taken.trans (actOnAnswer_keepsPlace w a _)).trans (watchChannels_keepsPlace _)

/-! ## Timeouts and setting operations -/

theorem releaseTimeout_keepsPlace (w : Winch) (s : State) : s.KeepsPlace (releaseTimeout w s) := by
  have reported : s.KeepsPlace (report .armTimeout (winchNumber w) none (s.onChan w fun c => { c with timer := none })) :=
    (onChan_keepsPlace w _ s).reported _ _ _
  unfold releaseTimeout
  dsimp only
  split
  · exact reported.trans (.of_resting rfl rfl)
  · exact reported

theorem settingTimeout_keepsPlace (w : Winch) (s : State) : s.KeepsPlace (settingTimeout w s) := by
  have ended : s.KeepsPlace (endSettingOp (report .settingTimeout (winchNumber w) none s)) :=
    (report_keepsPlace _ _ _ s).trans (.of_blocks rfl rfl rfl)
  exact ended.trans ((writePose_keepsPlace _ _).trans (.of_blocks rfl rfl rfl))

/-! ## The stick and the stream -/

/-- The stick takes the carrier only where a sample is produced (R96 to R98). -/
theorem takeStick_keepsPlace (s : State) : s.KeepsPlace (takeStick s) := by
  unfold takeStick
  cases hf : s.fcu.flight with
  | hold =>
    refine (cancelPrimed_keepsPlace s).trans (.of_flying rfl rfl ?_)
    rw [cancelPrimed_eq, hf]
    rfl
  | track =>
    dsimp only
    unfold handOverMove
    split
    · exact .of_flying rfl rfl (by rw [hf]; rfl)
    · split <;> exact .of_flying rfl rfl (by rw [hf]; rfl)
  | stream => exact .of_flying rfl rfl (by rw [hf]; rfl)
  | parked | arming | stick | stopping | parking | tripped => exact .refl s

theorem evaluateBands_keepsPlace (s : State) : s.KeepsPlace (evaluateBands s) := by
  obtain ⟨low, critical, high, handed, h⟩ := evaluateBands_keeps s
  rw [h]
  exact .of_blocks rfl rfl rfl

theorem appendInOrder_keepsPlace (positions : List Vec3) (s : State) : s.KeepsPlace (appendInOrder positions s) := by
  unfold appendInOrder
  dsimp only
  refine State.KeepsPlace.trans ?_ (evaluateBands_keepsPlace _)
  split
  · exact (onPln_keepsPlace rfl).reported _ _ _
  · exact onPln_keepsPlace rfl

theorem takeSamples_keepsPlace (j : BitVec 16) (positions : List Vec3) (s : State) :
    s.KeepsPlace (takeSamples j positions s) := by
  unfold takeSamples
  dsimp only
  split
  · exact appendInOrder_keepsPlace positions s
  · split
    · split
      · exact .refl s
      · exact appendInOrder_keepsPlace _ s
    · unfold streamAhead
      dsimp only
      split <;> exact .of_blocks rfl rfl rfl

theorem streamRecord_keepsPlace (seat : Seat) (p : List Byte) (s : State) : s.KeepsPlace (streamRecord seat p s) := by
  unfold streamRecord
  split
  · exact .of_blocks rfl rfl rfl
  · dsimp only
    split
    · exact takeSamples_keepsPlace _ _ s
    · exact .of_blocks rfl rfl rfl

/-- STREAM_END leaves ENV alone. -/
theorem streamEnd_env (s : State) : (streamEnd s).env = s.env := by
  unfold streamEnd
  split
  · rfl
  · split <;> rfl
  all_goals rfl

/-- The end of a playing stream starts a stop; a stream plays in STREAM alone (R121, R122). -/
theorem streamEnd_keepsPlace {s : State} (h : streamFlight s) : s.KeepsPlace (streamEnd s) := by
  unfold streamEnd
  split
  · exact .of_blocks rfl rfl rfl
  · next hp =>
    split
    · exact .of_flying rfl rfl (by rw [h (Or.inl hp)]; rfl)
    · exact .of_blocks rfl rfl rfl
  all_goals exact .refl s

/-! ## The planner's commands -/

/-- RESUME and STEP begin a move in HOLD alone, where the carrier is (R82, R83). -/
theorem resumeWith_keepsPlace (type : BitVec 6) (step : Bool) (seat : Seat) (s : State) :
    s.KeepsPlace (resumeWith type step seat s) := by
  have begins : ∀ (m : Move) (u : State), u.fcu.flight = .hold → u.KeepsPlace (beginWith (moveEnd step) m step u) := by
    intro m u hu
    obtain ⟨-, -, -, -, -, -, pos, -⟩ := beginWith_keptByPlanner (moveEnd_keptByPlanner step) m step u
    exact .of_flying (beginWith_env (moveEnd_env step) m step u) pos (by rw [hu]; rfl)
  unfold resumeWith
  split
  · exact refuse_keepsPlace _ _ _ s
  · next hh =>
    have hold : s.fcu.flight = .hold := not_not.mp hh
    split
    · exact refuse_keepsPlace _ _ _ s
    · next m t hn =>
      have offered : ∃ pln, t = { s with pln := pln } ∧ pln.pos = s.pln.pos := by
        unfold nextMove at hn
        split at hn
        · cases hn; exact ⟨_, rfl, rfl⟩
        · split at hn
          · cases hn
          · cases hn; exact ⟨_, rfl, rfl⟩
      obtain ⟨pln, rfl, pos⟩ := offered
      refine State.KeepsPlace.trans (t := { s with pln := pln }) (.of_blocks rfl rfl pos) ?_
      split
      · refine ((ack_keepsPlace _ _ _ _).trans (cancelPrimed_keepsPlace _)).trans (begins m _ ?_)
        rw [cancelPrimed_eq]
        exact hold
      · exact (ack_keepsPlace _ _ _ _).trans (begins m _ hold)

theorem flushMoves_keepsPlace (seat : Seat) (s : State) : s.KeepsPlace (flushMoves seat s) := by
  unfold flushMoves
  split
  · exact .of_blocks rfl rfl rfl
  · unfold discardSuspended
    split <;> exact .of_blocks rfl rfl rfl

theorem appendMove_keepsPlace (seat : Seat) (p : List Byte) (s : State) : s.KeepsPlace (appendMove seat p s) := by
  unfold appendMove
  dsimp only
  split <;> exact .of_blocks rfl rfl rfl

/-! ## Servo events -/

theorem onFru_keepsPlace (f : Fru → Fru) (s : State) : s.KeepsPlace (s.onFru f) := .of_blocks rfl rfl rfl

/-- A sample is committed where the hard clamp puts it, from the position before it (R40). -/
theorem planSample_pos {frameStart : Bool} {s : State} {p : Prepared} (h : prepareSample frameStart s = some p) :
    (planSample frameStart s).pln.pos = s.env.hardClamp s.pln.pos p.cand := by
  have kept := prepareSample_keptByPlanner frameStart s
  rw [h] at kept
  obtain ⟨-, -, -, -, -, -, -, pos, -⟩ := kept
  obtain ⟨-, -, -, -, -, -, concluded, -⟩ := conclude_keptByPlanner p.kind p.struck p.commit
  obtain ⟨flt, mrk, handed, hc⟩ := commit_keeps p
  have env : p.state.env = _ := prepareSample_env p h
  calc (planSample frameStart s).pln.pos
      = (conclude p.kind p.struck p.commit).pln.pos := by rw [planSample, h]
    _ = p.committed := by rw [concluded, hc]
    _ = s.env.hardClamp s.pln.pos p.cand := by
        rw [Prepared.committed, pos, env]
        rfl

/-- The sample of a servo event keeps the first law: from a free position the hard clamp gives a free one (R40). -/
theorem planSample_keepsPlace (frameStart : Bool) (s : State) : s.KeepsPlace (planSample frameStart s) := by
  cases hf : producesSamples s.fcu.flight with
  | false => rw [planSample_of_rest hf]; exact .refl s
  | true =>
    have env : (planSample frameStart s).env = _ := planSample_env frameStart s
    have kept := prepareSample_keptByPlanner frameStart s
    refine ⟨by rw [env], fun law _ => ?_⟩
    cases hp : prepareSample frameStart s with
    | none => rw [hp, hf] at kept; cases kept
    | some p =>
      rw [planSample_pos hp, free_congr (e := s.env) (by rw [env]) (by rw [env]) (by rw [env])]
      exact hardClamp_free (law hf) p.cand

theorem reportThirdMiss_keepsPlace (w : Winch) (c : Channel) (s : State) : s.KeepsPlace (reportThirdMiss w c s) := by
  unfold reportThirdMiss
  split
  · exact .refl s
  · split
    · exact report_keepsPlace _ _ _ s
    · exact .of_blocks rfl rfl rfl

theorem runChannels_keepsPlace (s : State) : s.KeepsPlace (runChannels s) := by
  refine State.KeepsPlace.trans (t := onAllChans (fun c => c.close.send) s) (.of_blocks rfl rfl rfl) ?_
  exact (((reportThirdMiss_keepsPlace .w1 _ _).trans (reportThirdMiss_keepsPlace .w2 _ _)).trans
    (reportThirdMiss_keepsPlace .w3 _ _)).trans (reportThirdMiss_keepsPlace .w4 _ _)

theorem completePull_keepsPlace (s : State) : s.KeepsPlace (completePull s) := by
  unfold completePull
  split
  · exact .of_blocks rfl rfl rfl
  · exact .refl s

theorem loseReference_keepsPlace (s : State) : s.KeepsPlace (loseReference s) :=
  (onFru_keepsPlace _ s).trans (report_keepsPlace _ _ _ _)

theorem closeMiss_keepsPlace (s : State) : s.KeepsPlace (closeMiss s) := by
  unfold closeMiss
  split
  · exact loseReference_keepsPlace s
  · exact .refl s

theorem settleExhaustion_keepsPlace (s : State) : s.KeepsPlace (settleExhaustion s) := by
  unfold settleExhaustion
  split
  · exact onFru_keepsPlace _ s
  · exact .refl s

theorem handFramePose_keepsPlace (s : State) : s.KeepsPlace (handFramePose s) := by
  unfold handFramePose
  dsimp only
  split <;> exact .of_blocks rfl rfl rfl

section
variable {fruStep : State → State} (hstep : ∀ u : State, u.KeepsPlace (fruStep u))
include hstep

theorem finishServo_keepsPlace (index : Nat) (stale : Quad Bool) (s : State) :
    s.KeepsPlace (finishServo index stale fruStep s) := by
  have settled := ((runChannels_keepsPlace s).trans (hstep _)).trans (settleExhaustion_keepsPlace _)
  exact settled.trans (.of_blocks rfl rfl rfl)

theorem raiseServo_keepsPlace (index : Nat) (s : State) : s.KeepsPlace (raiseServo index fruStep s) := by
  have event := ((countFrame_sameRig (decide (index = 0)) s).keepsPlace.trans (planSample_keepsPlace (decide (index = 0)) _)).trans
    (finishServo_keepsPlace hstep index (staleFlags s) _)
  unfold raiseServo
  dsimp only
  split
  · exact event.trans (handFramePose_keepsPlace _)
  · exact event

omit hstep in
/-- A stream that starts at a servo event made the frame start: its sample takes the place of the hold sample (R115). -/
theorem promoteSample_keepsPlace (s : State) : s.KeepsPlace (promoteSample s) := by
  unfold promoteSample
  split
  · exact (planSample_keepsPlace true s).trans (.of_blocks rfl rfl rfl)
  · exact .refl s

theorem edgeFrameStart_keepsPlace (s : State) : s.KeepsPlace (edgeFrameStart fruStep s) := by
  have promoted : s.KeepsPlace (fruStep (promoteSample (countFrame true s))) :=
    ((countFrame_sameRig true s).keepsPlace.trans (promoteSample_keepsPlace _)).trans (hstep _)
  unfold edgeFrameStart promoteServo
  split
  · split
    · exact hstep s
    · refine State.KeepsPlace.trans ?_ (handFramePose_keepsPlace _)
      exact (promoted.trans (settleExhaustion_keepsPlace _)).trans (.of_blocks rfl rfl rfl)
  · exact raiseServo_keepsPlace hstep 0 s

end

theorem decidePull_keepsPlace (s : State) : s.KeepsPlace (decidePull s) := by
  unfold decidePull
  dsimp only
  split
  · exact .of_blocks rfl rfl rfl
  · split <;> exact onFru_keepsPlace _ s

theorem reachLock_keepsPlace (s : State) : s.KeepsPlace (reachLock s) := by
  unfold reachLock
  split
  · exact edgeFrameStart_keepsPlace (fruStep := jumpLocked) (fun u => .of_blocks rfl rfl rfl) s
  · exact decidePull_keepsPlace s

/-- An edge, by the reference state (R140 to R147). -/
theorem referenceEdge_keepsPlace (s : State) : s.KeepsPlace (referenceEdge s) := by
  unfold referenceEdge
  split
  · exact .refl s
  · dsimp only
    split
    · exact onFru_keepsPlace _ s
    · unfold edgeInAcquiring
      dsimp only
      split
      · split
        · exact (onFru_keepsPlace _ s).trans (reachLock_keepsPlace _)
        · exact onFru_keepsPlace _ s
      · exact onFru_keepsPlace _ s
    · unfold edgeInPulling
      split
      · exact (onFru_keepsPlace _ s).trans (decidePull_keepsPlace _)
      · exact onFru_keepsPlace _ s
    · unfold edgeInLocked
      split
      · exact (onFru_keepsPlace _ s).trans (edgeFrameStart_keepsPlace (fun u => .refl u) _)
      · exact .refl s

end Sys2Proof.Machine
end

section
/-! The first law and the zone table over every command: the edits of a slot, the part reset, and all that keeps the place
(R24 to R28, R40, R210). -/

namespace Sys2Proof.Machine

open Sys2Proof

/-! ## Edits of a slot -/

/-- A state reached with no other slot of the zone table changed, and the first law kept. -/
structure State.EditsSlot (slot : Nat) (s t : State) : Prop where
  others : ∀ i (h : i < 24), slot ≠ i → t.env.zones[i] = s.env.zones[i]
  law : positionLaw s → positionLaw t

theorem State.KeepsPlace.editsSlot {s t : State} (h : s.KeepsPlace t) (slot : Nat) : s.EditsSlot slot t :=
  ⟨fun i _ _ => congrArg (fun zones : Vector (Option Zone) 24 => zones[i]) h.zones, h.law⟩

theorem State.EditsSlot.keepsPlace {slot : Nat} {s t u : State} (h : s.EditsSlot slot t) (k : t.KeepsPlace u) :
    s.EditsSlot slot u :=
  ⟨fun i hi hne => ((k.editsSlot slot).others i hi hne).trans (h.others i hi hne), fun hs => k.law (h.law hs)⟩

theorem State.KeepsPlace.thenEdits {slot : Nat} {s t u : State} (h : s.KeepsPlace t) (k : t.EditsSlot slot u) :
    s.EditsSlot slot u :=
  ⟨fun i hi hne => (k.others i hi hne).trans ((h.editsSlot slot).others i hi hne), fun hs => k.law (h.law hs)⟩

/-- A free position stays free when a slot takes a content whose box does not hold it (R25, R26, R28). -/
theorem free_putZone {e : Env} {p : Vec3} (h : e.free p = true) {o : Option Zone}
    (ho : ∀ b, keepOutBox e.limits.margin o = some b → inBox b p = false) (slot : Nat) :
    (e.putZone slot o).free p = true := by
  obtain ⟨inside, clear⟩ := (free_iff e p).mp h
  refine (free_iff _ p).mpr ⟨inside, List.forall_mem_map.mpr ?_⟩
  rintro ⟨i, b⟩ hb
  obtain ⟨hi, z, hz, hk, ha, rfl⟩ := (mem_keepOuts _ i b).mp hb
  rw [putZone_get hi] at hz
  split at hz
  · exact ho _ ((keepOutBox_iff _ _ _).mpr ⟨z, hz, hk, ha, rfl⟩)
  · exact clear _ (List.mem_map_of_mem (f := Prod.snd) ((mem_keepOuts e i _).mpr ⟨hi, z, hz, hk, ha, rfl⟩))

theorem putZone_editsSlot {s : State} {o : Option Zone} (slot : Nat)
    (ho : producesSamples s.fcu.flight = true → ∀ b, keepOutBox s.env.limits.margin o = some b → inBox b s.pln.pos = false) :
    s.EditsSlot slot (s.onEnv fun e => e.putZone slot o) :=
  ⟨fun _ hi hne => (putZone_get hi s.env slot o).trans (if_neg hne),
    fun law (flies : producesSamples s.fcu.flight = true) => free_putZone (law flies) (ho flies) slot⟩

/-- The ZONE_STOP an activation starts stops a flown move where it is (R29, R30). -/
theorem zoneStopDecision_keepsPlace (z : Zone) (s : State) : s.KeepsPlace (zoneStopDecision z s) := by
  by_cases hc : ∃ m, s.cutBy z m
  · obtain ⟨m, cut⟩ := hc
    rw [zoneStopDecision_cut cut]
    split
    · exact report_keepsPlace _ _ _ s
    · obtain ⟨-, pln, env, -⟩ := report_sameButFlags (f := .zoneStop) rfl 0 none { s with
        pln := { s.pln with inHand := some { m with phase := .abandoned, stepFlag := false }, queue := [] }
        mrk := { s.mrk with holdPending := false } }
      rw [startZoneStop_eq]
      exact .of_flying env (by rw [pln]) cut.1.producesSamples
  · rw [zoneStopDecision_uncut (not_exists.mp hc)]
    exact .refl s

/-- A zone taken where it does not hold the commanded position (R25, R26, R28). -/
theorem takeZone_editsSlot {s : State} {z : Zone} (slot : Nat) (h : ¬ s.occupies z) : s.EditsSlot slot (takeZone slot z s) := by
  refine (putZone_editsSlot slot fun flies b hb => ?_).keepsPlace (zoneStopDecision_keepsPlace z _)
  obtain ⟨z', hz, hk, ha, rfl⟩ := (keepOutBox_iff _ _ _).mp hb
  cases hz
  have notParked : ¬ (s.fcu.flight = .parked ∧ s.fcu.pose.valid = false) := fun ⟨hp, _⟩ => by rw [hp] at flies; cases flies
  by_contra hin
  refine h ⟨hk, ha, notParked, ?_⟩
  rw [commandedPosition_flying flies]
  exact eq_true_of_ne_false hin

section
variable {slot : Nat} {seat : Seat} {type : BitVec 6} {p : List Byte} {s : State}

/-- An owner's answer edits the slot that the record edits when its checks pass. -/
theorem answer_editsSlot {checks : List (Bool × ErrorCode × Nat)} {take : State → State}
    (h : firstError checks = none → (ack seat type 0 s).EditsSlot slot (take (ack seat type 0 s))) :
    s.EditsSlot slot (answer seat type checks take s) := by
  unfold answer
  split
  · exact (refuse_keepsPlace _ _ _ s).editsSlot slot
  · next hc => exact (ack_keepsPlace _ _ _ s).thenEdits (h hc)

/-- The answer of the two edits that write a zone (R25, R26). -/
theorem answer_takeZone_editsSlot (refuses : Bool) (z : Zone) :
    s.EditsSlot slot
      (answer seat type [(refuses, .locked, 0), (zoneOccupied s z, .zoneOccupied, 0)] (takeZone slot z) s) := by
  refine answer_editsSlot fun hc => takeZone_editsSlot slot ?_
  have clear : zoneOccupied s z = false := (firstError_none_iff _).mp hc (zoneOccupied s z, .zoneOccupied, 0) (by simp)
  exact fun ho => absurd ((zoneOccupied_iff s z).mpr ho) (by rw [clear]; exact Bool.false_ne_true)

theorem zonePut_editsSlot (seat : Seat) (p : List Byte) (s : State) : s.EditsSlot (unsignedAt p 0 1) (zonePut seat p s) := by
  unfold zonePut
  dsimp only
  split
  · exact (refuse_keepsPlace _ _ _ s).editsSlot _
  · split
    · exact (refuse_keepsPlace _ _ _ s).editsSlot _
    · exact answer_takeZone_editsSlot _ _

theorem zoneSet_editsSlot (seat : Seat) (p : List Byte) (s : State) : s.EditsSlot (unsignedAt p 0 1) (zoneSet seat p s) := by
  unfold zoneSet
  dsimp only
  split
  · exact (refuse_keepsPlace _ _ _ s).editsSlot _
  · split
    · exact (refuse_keepsPlace _ _ _ s).editsSlot _
    · exact answer_takeZone_editsSlot _ _

theorem zoneRemove_editsSlot (seat : Seat) (p : List Byte) (s : State) :
    s.EditsSlot (unsignedAt p 0 1) (zoneRemove seat p s) := by
  unfold zoneRemove
  dsimp only
  split
  · exact (refuse_keepsPlace _ _ _ s).editsSlot _
  · split
    · exact (ack_keepsPlace _ _ _ s).editsSlot _
    · exact answer_editsSlot fun _ => putZone_editsSlot _ fun _ b hb => nomatch hb

/-- A record's command waits or is refused, or is what its owner makes of it. -/
theorem decodeCommand_place_cases (type : BitVec 6) (seat : Seat) (body : List Byte) (owner : State → State) (s : State) :
    ∃ t, done (decodeCommand type seat body owner s) = .next t ∧
      (s.KeepsPlace t ∨ t = deliver (owner s.afterDecode)) := by
  refine ⟨_, rfl, ?_⟩
  unfold decodeCommand
  rcases decodeRecord_cases ⟨seat, type, body⟩ _ s with hr | hr | ⟨-, -, hr⟩ <;> rw [hr]
  · exact Or.inl (onLink_keepsPlace _ s)
  · exact Or.inl ((awaitDecode_keepsPlace _ s).trans (onLink_keepsPlace _ _))
  · split
    · exact Or.inl (((onLink_keepsPlace _ s).trans (refuse_keepsPlace _ _ _ _)).trans (onLink_keepsPlace _ _))
    · exact Or.inr rfl

theorem decodeCommand_editsSlot {owner : State → State} (h : s.afterDecode.EditsSlot slot (owner s.afterDecode)) :
    ∃ t, done (decodeCommand type seat p owner s) = .next t ∧ s.EditsSlot slot t := by
  obtain ⟨t, ht, kept | rfl⟩ := decodeCommand_place_cases type seat p owner s
  · exact ⟨t, ht, kept.editsSlot slot⟩
  · exact ⟨_, ht, ((onLink_keepsPlace _ s).thenEdits h).keepsPlace (onLink_keepsPlace _ _)⟩

end

/-! ## Every command -/

/-- The commands spoken of apart: the part reset and the three edits change zones, and STREAM_END keeps the place where a
stream plays in STREAM alone. -/
def movesPlace : Instr → Bool
  | .partReset .. => true
  | .zonePut .. => true
  | .zoneSet .. => true
  | .zoneRemove .. => true
  | .streamEnd .. => true
  | _ => false

/-- Every other command keeps the place. -/
theorem exec_keepsPlace {c : Instr} (hc : movesPlace c = false) (s : State) :
    ∃ t, exec c s = .next t ∧ s.KeepsPlace t := by
  cases c with
  | partReset | zonePut | zoneSet | zoneRemove | streamEnd => cases hc
  | estopAssertion =>
    refine done_keepsPlace ?_
    split
    · exact .refl s
    · refine State.KeepsPlace.trans (t := s.onFlt fun t => { t with line := true }) ?_ (report_keepsPlace _ _ _ _)
      exact .of_blocks rfl rfl rfl
  | estopDeassertion => exact done_keepsPlace (.of_blocks rfl rfl rfl)
  | receiveByte =>
    refine done_keepsPlace ?_
    split
    · exact .refl s
    · exact onLink_keepsPlace _ s
  | gapTimeout => exact done_keepsPlace (atExpiry_keepsPlace (onLink_keepsPlace _) _ s)
  | transmitComplete =>
    refine done_keepsPlace ?_
    split
    · exact .refl s
    · exact onLink_keepsPlace _ s
  | ignoredRecord =>
    refine done_keepsPlace ?_
    split
    · exact decodeRecord_keepsPlace (onLink_keepsPlace _ _)
    · exact .refl s
  | queryState | readPose | readSettings => exact decodeCommand_keepsPlace (reply_keepsPlace _ _ _)
  | arm =>
    refine decodeCommand_keepsPlace (answer_keepsPlace fun h => startArming_keepsPlace ?_)
    exact free_of_armChecks (s := s.afterDecode) h
  | park => exact decodeCommand_keepsPlace (answer_keepsPlace fun _ => startParking_keepsPlace _)
  | hold seat => exact decodeCommand_keepsPlace (answer_keepsPlace fun _ => holdEffect_keepsPlace seat _)
  | resume seat => exact decodeCommand_keepsPlace (resumeWith_keepsPlace _ _ seat _)
  | step seat => exact decodeCommand_keepsPlace (resumeWith_keepsPlace _ _ seat _)
  | takeStick => exact decodeCommand_keepsPlace (answer_keepsPlace fun _ => takeStick_keepsPlace _)
  | dropStick =>
    refine decodeCommand_keepsPlace (answer_keepsPlace fun h => .of_flying rfl rfl ?_)
    rw [ack_fcu, stick_of_dropChecks h]
    rfl
  | trip => exact decodeCommand_keepsPlace (answer_keepsPlace fun _ => report_keepsPlace _ _ _ _)
  | clearFaults seat => exact decodeCommand_keepsPlace (clearFaultsRecord_keepsPlace seat _)
  | consent =>
    refine decodeCommand_keepsPlace ?_
    unfold consent
    split <;> exact .of_blocks rfl rfl rfl
  | servicePermit =>
    refine decodeCommand_keepsPlace ?_
    unfold servicePermit
    split <;> exact .of_blocks rfl rfl rfl
  | flushMoves seat => exact decodeCommand_keepsPlace (answer_keepsPlace fun _ => flushMoves_keepsPlace seat _)
  | subscribe =>
    refine decodeCommand_keepsPlace ?_
    unfold subscribe
    split <;> exact .of_blocks rfl rfl rfl
  | zoneRead =>
    refine decodeCommand_keepsPlace ?_
    unfold zoneRead
    split <;> exact .of_blocks rfl rfl rfl
  | markerRead =>
    refine decodeCommand_keepsPlace ?_
    unfold markerRead
    split <;> exact .of_blocks rfl rfl rfl
  | markerClear =>
    refine decodeCommand_keepsPlace ?_
    unfold markerClear
    split
    · exact .of_blocks rfl rfl rfl
    · split <;> exact .of_blocks rfl rfl rfl
  | reference => exact decodeCommand_keepsPlace (answer_keepsPlace fun _ => .of_blocks rfl rfl rfl)
  | restartDrive =>
    refine decodeCommand_keepsPlace (answer_keepsPlace fun _ => ?_)
    unfold restartDrive
    split <;> exact .of_blocks rfl rfl rfl
  | saveSettings =>
    exact decodeCommand_keepsPlace (answer_keepsPlace fun _ => (beginPoseWrite_keepsPlace _).trans (.of_blocks rfl rfl rfl))
  | resetPart => exact decodeCommand_keepsPlace (answer_keepsPlace fun _ => onLink_keepsPlace _ _)
  | stick =>
    refine done_keepsPlace (decodeRecord_keepsPlace ?_)
    unfold stickRecord
    split <;> exact onPln_keepsPlace rfl
  | appendMove seat p => exact decodeCommand_keepsPlace (appendMove_keepsPlace seat p _)
  | streamStart => exact decodeCommand_keepsPlace (answer_keepsPlace fun _ => onPln_keepsPlace rfl)
  | streamData seat p => exact done_keepsPlace (decodeRecord_keepsPlace (streamRecord_keepsPlace seat p _))
  | markerSet =>
    refine decodeCommand_keepsPlace ?_
    unfold markerSet
    split
    · exact .of_blocks rfl rfl rfl
    · split <;> exact .of_blocks rfl rfl rfl
  | setAnchor seat p => exact decodeCommand_keepsPlace (setAnchor_keepsPlace seat p _)
  | setWorkspace seat p => exact decodeCommand_keepsPlace (setWorkspace_keepsPlace seat p _)
  | setLimits => exact decodeCommand_keepsPlace (answer_keepsPlace fun h => settings_keepsPlace h rfl rfl)
  | setChannelLimits seat p => exact decodeCommand_keepsPlace (setChannelLimits_keepsPlace seat p _)
  | setTiming => exact decodeCommand_keepsPlace (answer_keepsPlace fun _ => .of_blocks rfl rfl rfl)
  | declarePose =>
    refine decodeCommand_keepsPlace (answer_keepsPlace fun _ => State.KeepsPlace.trans ?_ (settleSetting_keepsPlace _))
    exact .of_blocks rfl rfl rfl
  | setHome => exact decodeCommand_keepsPlace (answer_keepsPlace fun _ => .of_blocks rfl rfl rfl)
  | servoEvent =>
    refine done_keepsPlace ?_
    split
    · exact .refl s
    · exact (advanceTo_sameRig _ s).keepsPlace.trans (raiseServo_keepsPlace completePull_keepsPlace _ _)
  | referenceEdge t => exact done_keepsPlace ((advanceTo_sameRig t s).keepsPlace.trans (referenceEdge_keepsPlace _))
  | acquireSilenceTimeout =>
    refine done_keepsPlace ?_
    split
    · exact atInstant_keepsPlace (onFru_keepsPlace _) _ s
    · exact .refl s
  | pullSilenceTimeout =>
    refine done_keepsPlace ?_
    split
    · exact atInstant_keepsPlace loseReference_keepsPlace _ s
    · exact .refl s
  | windowClose =>
    refine done_keepsPlace ?_
    split
    · exact atInstant_keepsPlace (fun u => (onFru_keepsPlace _ u).trans (raiseServo_keepsPlace closeMiss_keepsPlace 0 _)) _ s
    · exact .refl s
  | driveAnswer w bytes => exact done_keepsPlace (driveAnswer_keepsPlace w bytes s)
  | releaseTimeout w => exact done_keepsPlace (stateExpiry_keepsPlace (releaseTimeout_keepsPlace w) w _ s)
  | brakeTimeout w => exact done_keepsPlace (stateExpiry_keepsPlace (loseChannel_keepsPlace w _) w _ s)
  | setTimeout w => exact done_keepsPlace (stateExpiry_keepsPlace (settingTimeout_keepsPlace w) w _ s)
  | stickTimerExpiry =>
    refine done_keepsPlace ?_
    split
    · exact atExpiry_keepsPlace (fun u => (onPln_keepsPlace (s := u) rfl).reported _ _ _) _ s
    · exact .refl s
  | saveWriteStart =>
    refine done_keepsPlace ?_
    split
    · split <;> exact .of_blocks rfl rfl rfl
    · exact .refl s
  | saveWriteEnd =>
    refine done_keepsPlace ?_
    split
    · refine State.KeepsPlace.trans ?_ (beginPoseWrite_keepsPlace _)
      split <;> exact .of_blocks rfl rfl rfl
    · exact .refl s
  | poseWriteStart => exact done_keepsPlace (beginPoseWrite_keepsPlace s)
  | poseWriteEnd =>
    refine done_keepsPlace ?_
    split
    · exact .of_blocks rfl rfl rfl
    · exact .refl s

/-- After a part reset the part is PARKED or TRIPPED (R190, R210). -/
theorem partReset_rests (strap : Strap) (answers : Bool) (s : State) :
    producesSamples (partReset strap answers s).fcu.flight = false := by
  have examined : ∀ u : State, u.fcu.flight = .parked → producesSamples (examineLine u).fcu.flight = false := by
    intro u hu
    unfold examineLine
    split
    · rcases report_flight .estop 0 none u with h | h <;> rw [h]
      · rw [hu]; rfl
      · rfl
    · rw [hu]; rfl
  exact examined _ rfl

/-- Every command keeps the first law, where a stream plays in STREAM alone. -/
theorem exec_keepsPositionLaw (c : Instr) {s t : State} (hs : streamFlight s) (h : exec c s = .next t) (law : positionLaw s) :
    positionLaw t := by
  have given : (∃ u, exec c s = .next u ∧ positionLaw u) → positionLaw t := by
    rintro ⟨u, hu, kept⟩
    rw [h] at hu
    cases hu
    exact kept
  refine given ?_
  cases hc : movesPlace c with
  | false =>
    obtain ⟨u, hu, kept⟩ := exec_keepsPlace hc s
    exact ⟨u, hu, kept.law law⟩
  | true =>
    cases c with
    | partReset strap answers =>
      exact ⟨_, rfl, fun flies => absurd (show producesSamples (partReset strap answers s).fcu.flight = true from flies)
        (by rw [partReset_rests]; exact Bool.false_ne_true)⟩
    | zonePut seat p =>
      obtain ⟨u, hu, edited⟩ := decodeCommand_editsSlot (zonePut_editsSlot seat p s.afterDecode)
      exact ⟨u, hu, edited.law law⟩
    | zoneSet seat p =>
      obtain ⟨u, hu, edited⟩ := decodeCommand_editsSlot (zoneSet_editsSlot seat p s.afterDecode)
      exact ⟨u, hu, edited.law law⟩
    | zoneRemove seat p =>
      obtain ⟨u, hu, edited⟩ := decodeCommand_editsSlot (zoneRemove_editsSlot seat p s.afterDecode)
      exact ⟨u, hu, edited.law law⟩
    | streamEnd =>
      obtain ⟨u, hu, kept⟩ := decodeCommand_keepsPlace (answer_keepsPlace fun _ => streamEnd_keepsPlace hs)
      exact ⟨u, hu, kept.law law⟩
    | _ => cases hc

/-- Settles O57: the hard clamp commits a free position from a free one, ARM and the zone edits test the position they take, and
everything else leaves ENV and the position as they stand. -/
theorem positionLawKept : Obligations.PositionLawKept := by
  intro s t hs law hstep
  unfold step at hstep
  split at hstep
  · cases hstep
    exact law
  · next c rest hpending => exact exec_keepsPositionLaw c (s := { s with pending := rest }) hs hstep law

/-! ## Locks -/

section
variable {seat : Seat} {p : List Byte} {s : State} {z : Zone}

/-- A lock code not presented fails the lock test for every seat but SAFETY (R24). -/
theorem lockRefuses_of_ne (hs : seat ≠ .safety) (hl : z.lock ≠ 0) (hp : unsignedAt p 1 2 ≠ z.lock) :
    lockRefuses seat (unsignedAt p 1 2) (some z) = true := by
  simp [lockRefuses, hs, hl, hp]

variable (h : unsignedAt p 0 1 < 24) (hz : s.env.zones[unsignedAt p 0 1] = some z)
  (hl : lockRefuses seat (unsignedAt p 1 2) (some z) = true)
include hz hl

/-- The three edits of a locked slot, their other fields in order (R24 to R27). -/
theorem zonePut_locked (hf : zoneOf p s.env.limits.vmax seat ≠ none) : zonePut seat p s = refuse seat .locked 0 s := by
  obtain ⟨z', hz'⟩ := Option.ne_none_iff_exists'.mp hf
  rw [zonePut_checked h hz', hz]
  exact answer_refused (by simp [hl]) _ _ _ _

theorem zoneSet_locked (hf : unsignedAt p 3 1 ≤ 1) : zoneSet seat p s = refuse seat .locked 0 s := by
  rw [zoneSet_checked h hz hf]
  exact answer_refused (by simp [hl]) _ _ _ _

theorem zoneRemove_locked : zoneRemove seat p s = refuse seat .locked 0 s := by
  rw [zoneRemove_checked h hz]
  exact answer_refused (by simp [hl]) _ _ _ _

/-- Whatever its other fields are, an edit of a locked slot is refused (R24 to R27). -/
theorem zonePut_locked_keepsPlace : s.KeepsPlace (zonePut seat p s) := by
  by_cases hf : zoneOf p s.env.limits.vmax seat = none
  · rw [zonePut_badValue h hf]
    exact refuse_keepsPlace _ _ _ s
  · rw [zonePut_locked h hz hl hf]
    exact refuse_keepsPlace _ _ _ s

theorem zoneSet_locked_keepsPlace : s.KeepsPlace (zoneSet seat p s) := by
  by_cases hf : unsignedAt p 3 1 ≤ 1
  · rw [zoneSet_locked h hz hl hf]
    exact refuse_keepsPlace _ _ _ s
  · rw [zoneSet_badValue h hz (by omega)]
    exact refuse_keepsPlace _ _ _ s

theorem zoneRemove_locked_keepsPlace : s.KeepsPlace (zoneRemove seat p s) := by
  rw [zoneRemove_locked h hz hl]
  exact refuse_keepsPlace _ _ _ s

end

/-- A command that changes a slot of the zone table is a part reset or an edit of that slot (R24 to R27, R210). -/
theorem edit_of_changed_slot {c : Instr} {s t : State} (h : exec c s = .next t)
    (hc : ∀ strap answers, c ≠ .partReset strap answers) {slot : Nat} (hs : slot < 24)
    (hne : t.env.zones[slot] ≠ s.env.zones[slot]) :
    ∃ seat p, (c = .zonePut seat p ∨ c = .zoneSet seat p ∨ c = .zoneRemove seat p) ∧ slot = unsignedAt p 0 1 := by
  have own : ∀ n, (∃ u, exec c s = .next u ∧ s.EditsSlot n u) → slot = n := by
    rintro n ⟨u, hu, edited⟩
    rw [h] at hu
    cases hu
    by_contra hn
    exact hne (edited.others slot hs fun e => hn e.symm)
  have changed : ¬ ∃ u, exec c s = .next u ∧ u.env.zones = s.env.zones := by
    rintro ⟨u, hu, zones⟩
    rw [h] at hu
    cases hu
    exact hne (by rw [zones])
  cases hm : movesPlace c with
  | false =>
    obtain ⟨u, hu, kept⟩ := exec_keepsPlace hm s
    exact absurd ⟨u, hu, kept.zones⟩ changed
  | true =>
    cases c with
    | partReset strap answers => exact absurd rfl (hc strap answers)
    | zonePut seat p => exact ⟨seat, p, Or.inl rfl, own _ (decodeCommand_editsSlot (zonePut_editsSlot seat p _))⟩
    | zoneSet seat p => exact ⟨seat, p, Or.inr (Or.inl rfl), own _ (decodeCommand_editsSlot (zoneSet_editsSlot seat p _))⟩
    | zoneRemove seat p =>
      exact ⟨seat, p, Or.inr (Or.inr rfl), own _ (decodeCommand_editsSlot (zoneRemove_editsSlot seat p _))⟩
    | streamEnd seat d0 d1 =>
      refine absurd ?_ changed
      obtain ⟨u, hu, kept | rfl⟩ := decodeCommand_place_cases 0x15 seat [d0, d1]
        (fun s => answer seat 0x15 [(!s.pln.stream.state.accepts, .wrongState, 0)] streamEnd s) s
      · exact ⟨u, hu, kept.zones⟩
      · refine ⟨_, hu, ?_⟩
        unfold answer
        rw [deliver_env]
        split
        · rfl
        · rw [streamEnd_env]
          rfl
    | _ => cases hm

/-- Settles O30: the lock test stands before every write of a slot, and no other command writes one. -/
theorem zoneLocksHold : Obligations.ZoneLocksHold := by
  refine ⟨fun s seat p z slot h hslot hz hs hl hp => ?_, fun c s t h hc slot hs hne => edit_of_changed_slot h hc hs hne⟩
  subst hslot
  have refuses := lockRefuses_of_ne hs hl hp
  refine ⟨fun c hc => ?_, fun ht hf => done_decode_refused ht (zonePut_locked (s := s.afterDecode) h hz refuses hf),
    fun ht hf => done_decode_refused ht (zoneSet_locked (s := s.afterDecode) h hz refuses hf),
    fun ht => done_decode_refused ht (zoneRemove_locked (s := s.afterDecode) h hz refuses)⟩
  have kept : ∃ t, exec c s = .next t ∧ s.KeepsPlace t := by
    simp only [List.mem_cons, List.not_mem_nil, or_false] at hc
    rcases hc with rfl | rfl | rfl
    · exact decodeCommand_keepsPlace (zonePut_locked_keepsPlace (s := s.afterDecode) h hz refuses)
    · exact decodeCommand_keepsPlace (zoneSet_locked_keepsPlace (s := s.afterDecode) h hz refuses)
    · exact decodeCommand_keepsPlace (zoneRemove_locked_keepsPlace (s := s.afterDecode) h hz refuses)
  obtain ⟨t, ht, place⟩ := kept
  exact ⟨t, ht, place.zones⟩

end Sys2Proof.Machine
end

section
/-! The speed ceiling (R36) and the soft walls (R38, R39). -/

namespace Sys2Proof.Machine

open Sys2Proof

/-! ## Least values -/

/-- Taking minima over a list gives the least of the starting value and the members. -/
theorem isLeast_foldl_min {α : Type} [LinearOrder α] (l : List α) (a : α) :
    IsLeast {x | x = a ∨ x ∈ l} (l.foldl min a) := by
  induction l generalizing a with
  | nil => exact ⟨Or.inl rfl, by rintro x (rfl | hx); exacts [le_refl _, nomatch hx]⟩
  | cons b rest ih =>
    obtain ⟨mem, least⟩ := ih (min a b)
    have below : (b :: rest).foldl min a ≤ min a b := least (Or.inl rfl)
    refine ⟨?_, ?_⟩
    · rcases mem with hm | hm
      · rcases min_choice a b with h | h
        · exact Or.inl (hm.trans h)
        · exact Or.inr (List.mem_cons.mpr (Or.inl (hm.trans h)))
      · exact Or.inr (List.mem_cons_of_mem b hm)
    · rintro x (rfl | hx)
      · exact below.trans (min_le_left _ _)
      · rcases List.mem_cons.mp hx with rfl | hx
        · exact below.trans (min_le_right _ _)
        · exact least (Or.inr hx)

/-! ## The ceiling -/

/-- A live tension warning on a STREAMING channel (R36). -/
theorem tensionWarning_iff (s : State) :
    tensionWarning s = true ↔ ∃ w, (s.chan w).state = .streaming ∧ (s.chan w).warning = true := by
  simp only [tensionWarning, Quad.any_iff, Bool.and_eq_true, decide_eq_true_eq]
  constructor
  · rintro ⟨i, hi⟩
    obtain ⟨w, rfl⟩ := exists_winch i
    exact ⟨w, hi⟩
  · rintro ⟨w, hw⟩
    exact ⟨winchIndex w, hw⟩

/-- An active SLOW zone with this cap whose box holds the point (R36). -/
def Env.slowZoneHolds (e : Env) (p : Vec3) (cap : Nat) : Prop :=
  ∃ slot, ∃ h : slot < 24, ∃ z, e.zones[slot] = some z ∧ z.kind = .slow cap ∧ z.active = true ∧
    inBox (boxMicrons z.box) p = true

/-- A slot's content caps the speed at a point when it is an active SLOW zone whose box holds the point (R36). -/
theorem slowCapAt_iff (p : Vec3) (o : Option Zone) (c : Nat) :
    slowCapAt p o = some c ↔
      ∃ z cap, o = some z ∧ z.kind = .slow cap ∧ z.active = true ∧ inBox (boxMicrons z.box) p = true ∧ c = 1000 * cap := by
  cases o with
  | none => simp [slowCapAt]
  | some z =>
    cases hk : z.kind with
    | keepOut => simp [slowCapAt, hk]
    | slow cap =>
      rw [slowCapAt, hk]
      dsimp only
      rw [Option.ite_none_right_eq_some, Bool.and_eq_true]
      simp [hk, and_assoc, @eq_comm _ c]

theorem mem_slowCaps (e : Env) (p : Vec3) (c : Nat) :
    c ∈ e.zones.toList.filterMap (slowCapAt p) ↔ ∃ cap, e.slowZoneHolds p cap ∧ c = 1000 * cap := by
  simp only [List.mem_filterMap, slowCapAt_iff, Vector.mem_toList_iff]
  constructor
  · rintro ⟨o, ho, z, cap, rfl, kind, active, inside, rfl⟩
    obtain ⟨slot, h, hz⟩ := Vector.getElem_of_mem ho
    exact ⟨cap, ⟨slot, h, z, hz, kind, active, inside⟩, rfl⟩
  · rintro ⟨cap, ⟨slot, h, z, hz, kind, active, inside⟩, rfl⟩
    exact ⟨_, Vector.getElem_mem h, z, cap, hz, kind, active, inside, rfl⟩

/-- The ceiling is the least of the maximum speed, the caps that hold and, under a warning, the caution speed (R36). -/
theorem isLeast_ceilingAt (e : Env) (p : Vec3) (warning : Bool) :
    IsLeast {c | c = 1000 * e.limits.vmax ∨ (∃ cap, e.slowZoneHolds p cap ∧ c = 1000 * cap) ∨
      (warning = true ∧ c = 1000 * e.limits.caution)} (e.ceilingAt p warning) := by
  have base := isLeast_foldl_min (e.zones.toList.filterMap (slowCapAt p)) (1000 * e.limits.vmax)
  simp only [mem_slowCaps] at base
  cases warning with
  | false => simpa [Env.ceilingAt] using base
  | true =>
    refine (congrArg₂ IsLeast (Set.ext fun c => ?_) rfl).mpr (base.union (isLeast_singleton (a := 1000 * e.limits.caution)))
    simp only [true_and, ← or_assoc]
    rfl

/-! ## The reduction of a soft wall -/

/-- A speed the stopping distance allows stands (R39). -/
theorem softenSpeed_allowed {ae ts : Nat} {d v : Int} (h : v.natAbs ≤ isqrt (2 * (1000 * ae) * d.toNat)) :
    softenSpeed ae ts d v = v := if_neg (not_lt.mpr h)

/-- A speed above it falls by one period's step, no further than the speed a stop at a_e allows (R39). -/
theorem softenSpeed_reduced {ae ts : Nat} {d v : Int} (h : isqrt (2 * (1000 * ae) * d.toNat) < v.natAbs) :
    softenSpeed ae ts d v =
      withMagnitude v (max (v.natAbs - speedStep ae ts) (isqrt (2 * (1000 * ae) * d.toNat))) := if_pos h

theorem natAbs_withMagnitude (v : Int) (m : Nat) : (withMagnitude v m).natAbs = m := by
  unfold withMagnitude
  split <;> omega

theorem withMagnitude_nonneg {v : Int} (h : 0 < v) (m : Nat) : 0 ≤ withMagnitude v m := by
  rw [withMagnitude, if_neg (by omega)]
  omega

theorem withMagnitude_nonpos {v : Int} (h : v < 0) (m : Nat) : withMagnitude v m ≤ 0 := by
  rw [withMagnitude, if_pos h]
  omega

/-! ## The face ahead -/

theorem ne_iff_otherAxes (other a : Axis) : other ≠ a ↔ other = (otherAxes a).1 ∨ other = (otherAxes a).2 := by
  cases a <;> cases other <;> decide

/-- A coordinate lies in the ranges of the other two axes exactly when it does on each axis but this one (R38). -/
theorem inRange_otherAxes (b : Box) (p : Vec3) (a : Axis) :
    (inRange b p (otherAxes a).1 && inRange b p (otherAxes a).2) = true ↔
      ∀ other, other ≠ a → b.lo.get other ≤ p.get other ∧ p.get other ≤ b.hi.get other := by
  simp only [inRange, Bool.and_eq_true, decide_eq_true_eq, ne_iff_otherAxes, forall_eq_or_imp, forall_eq]

/-- The box's other two ranges hold the carrier, and its face lies ahead at this distance, less one (R38). -/
def facesAt (p : Vec3) (a : Axis) (up : Bool) (b : Box) (d : Int) : Prop :=
  (∀ other, other ≠ a → b.lo.get other ≤ p.get other ∧ p.get other ≤ b.hi.get other) ∧
    ((up = true ∧ p.get a < b.lo.get a ∧ d = b.lo.get a - 1 - p.get a) ∨
      (up = false ∧ b.hi.get a < p.get a ∧ d = p.get a - b.hi.get a - 1))

theorem zoneFaceDistance_iff (p : Vec3) (a : Axis) (up : Bool) (b : Box) (d : Int) :
    zoneFaceDistance p a up b = some d ↔ facesAt p a up b d := by
  unfold zoneFaceDistance facesAt
  dsimp only
  rw [Option.ite_none_right_eq_some, inRange_otherAxes]
  cases up <;> simp [Option.ite_none_right_eq_some, @eq_comm _ d]

/-- A face ahead is not behind the carrier (R38). -/
theorem facesAt.nonneg {p : Vec3} {a : Axis} {up : Bool} {b : Box} {d : Int} (h : facesAt p a up b d) : 0 ≤ d := by
  obtain ⟨-, ⟨-, ahead, rfl⟩ | ⟨-, ahead, rfl⟩⟩ := h <;> omega

/-- The distance to the shrunk workspace's face ahead (R38). -/
def Env.wallDistance (e : Env) (p : Vec3) (a : Axis) (up : Bool) : Int :=
  if up then e.shrunk.hi.get a - p.get a else p.get a - e.shrunk.lo.get a

/-- Inside the shrunk workspace its face is not behind the carrier (R38). -/
theorem wallDistance_nonneg {e : Env} {p : Vec3} (h : inBox e.shrunk p = true) (a : Axis) (up : Bool) :
    0 ≤ e.wallDistance p a up := by
  obtain ⟨low, high⟩ := (inBox_iff _ _).mp h a
  unfold Env.wallDistance
  split <;> omega

/-- The soft wall's distance is the least of those to the faces ahead (R38). -/
theorem isLeast_faceDistance (e : Env) (p : Vec3) (a : Axis) (up : Bool) :
    IsLeast {d | d = e.wallDistance p a up ∨
      ∃ slot, ∃ h : slot < 24, ∃ z, e.zones[slot] = some z ∧ z.kind = .keepOut ∧ z.active = true ∧
        facesAt p a up (inflatedBox e.limits.margin z.box) d} (e.faceDistance p a up) := by
  refine (congrArg₂ IsLeast (Set.ext fun d => or_congr_right ?_) rfl).mpr (isLeast_foldl_min _ (e.wallDistance p a up))
  simp only [List.mem_filterMap, zoneFaceDistance_iff]
  constructor
  · rintro ⟨slot, h, z, hz, kind, active, faces⟩
    exact ⟨(slot, _), (mem_keepOuts _ _ _).mpr ⟨h, z, hz, kind, active, rfl⟩, faces⟩
  · rintro ⟨⟨slot, b⟩, hb, faces⟩
    obtain ⟨h, z, hz, kind, active, rfl⟩ := (mem_keepOuts _ _ _).mp hb
    exact ⟨slot, h, z, hz, kind, active, faces⟩

/-- From a free position no face ahead lies behind the carrier (R38, R40). -/
theorem faceDistance_nonneg {e : Env} {p : Vec3} (h : e.free p = true) (a : Axis) (up : Bool) : 0 ≤ e.faceDistance p a up := by
  rcases (isLeast_faceDistance e p a up).1 with wall | ⟨_, _, _, _, _, _, faces⟩
  · rw [wall]
    exact wallDistance_nonneg ((free_iff e p).mp h).1 a up
  · exact faces.nonneg

/-- Settles O41: the ceiling and the face distance are least values of the sets the manual names, and a soft wall replaces a
speed's magnitude alone. -/
theorem ceilingAndSoftWall : Obligations.CeilingAndSoftWall := by
  refine ⟨tensionWarning_iff, fun e p warning => ?_, fun ae ts d v _ => ?_, fun e ts p vel axis => ?_, fun e p axis up => ?_⟩
  · obtain ⟨mem, least⟩ := isLeast_ceilingAt e p warning
    exact ⟨least (Or.inl rfl), fun cap h => least (Or.inr (Or.inl ⟨cap, h, rfl⟩)), fun h => least (Or.inr (Or.inr ⟨h, rfl⟩)),
      mem⟩
  · refine ⟨softenSpeed_allowed, fun h => ?_⟩
    rw [softenSpeed_reduced h]
    exact ⟨natAbs_withMagnitude _ _, fun hv => withMagnitude_nonneg hv _, fun hv => withMagnitude_nonpos hv _⟩
  · cases axis <;> rfl
  · obtain ⟨mem, least⟩ := isLeast_faceDistance e p axis up
    exact ⟨mem, least, fun h => faceDistance_nonneg h axis up⟩

end Sys2Proof.Machine
end

section
/-! The planner's sample by flight state, and its commitment in the state's own terms (R10, R40, R41, R43, R131). -/

namespace Sys2Proof.Machine

open Sys2Proof

/-! ## The sample of each flight state -/

section
variable {start : Bool} {s : State}

theorem prepareSample_arming (h : s.fcu.flight = .arming) : prepareSample start s = some (prepareRest s) := by
  simp only [prepareSample, h]

/-- A frame start at which a PRIMED stream plays (R115). -/
theorem startsPlay_iff (start : Bool) (s : State) :
    startsPlay start s = true ↔
      start = true ∧ s.pln.stream.state = .primed ∧ s.fru.frames = s.pln.stream.startFrame := by
  simp [startsPlay, and_assoc]

theorem prepareSample_hold (h : s.fcu.flight = .hold) (hp : ¬ startsPlay start s = true) :
    prepareSample start s = some (prepareRest s) := by
  simp only [prepareSample, h, if_neg hp]

theorem prepareSample_play (h : s.fcu.flight = .hold) (hp : startsPlay start s = true) :
    prepareSample start s = some (prepareStartOfPlay s) := by
  simp only [prepareSample, h, if_pos hp]

/-- Play is refused where the buffer is empty (R115). -/
theorem prepareStartOfPlay_empty (h : s.pln.stream.samples = []) :
    prepareStartOfPlay s = prepareRest (cancelStream (report .streamUnderrun 0 none s)) := by
  simp only [prepareStartOfPlay, h]

/-- Play is refused where the join is over the tolerance (R115). -/
theorem prepareStartOfPlay_far {head : Sample} {rest : List Sample} (h : s.pln.stream.samples = head :: rest)
    (far : 1000 * s.env.limits.joinTol < chebyshev head.pos s.pln.holdPos) :
    prepareStartOfPlay s =
      prepareRest (cancelStream
        (notice .joinRefused (joinAxis (1000 * s.env.limits.joinTol) head.pos s.pln.holdPos) s)) := by
  simp only [prepareStartOfPlay, h, if_pos far]

/-- Play begun: PLAYING in STREAM, from rest (R116). -/
def State.playBegun (s : State) : State :=
  { s with
    fcu := { s.fcu with flight := .stream }
    pln := { s.pln with vel := Vec3.zero, stream := { s.pln.stream with state := .playing } } }

/-- Play begins with the head sample (R116). -/
theorem prepareStartOfPlay_near {head : Sample} {rest : List Sample} (h : s.pln.stream.samples = head :: rest)
    (near : chebyshev head.pos s.pln.holdPos ≤ 1000 * s.env.limits.joinTol) :
    prepareStartOfPlay s =
      prepareFollow true head rest s.playBegun := by
  simp only [prepareStartOfPlay, h, if_neg (not_lt.mpr near)]
  rfl

theorem prepareSample_moving {m : MoveInHand} (h : s.fcu.flight = .track) (hm : s.pln.inHand = some m)
    (hp : m.phase = .moving) : prepareSample start s = some (prepareMoving m s) := by
  simp only [prepareSample, h, prepareTrack, hm, hp]

theorem prepareSample_dwelling {m : MoveInHand} (h : s.fcu.flight = .track) (hm : s.pln.inHand = some m)
    (hp : m.phase = .dwelling) : prepareSample start s = some (prepareDwelling m s) := by
  simp only [prepareSample, h, prepareTrack, hm, hp]

theorem prepareSample_stick (h : s.fcu.flight = .stick) : prepareSample start s = some (prepareStick s) := by
  simp only [prepareSample, h]

theorem prepareSample_follow {head : Sample} {rest : List Sample} (h : s.fcu.flight = .stream)
    (hs : s.pln.stream.samples = head :: rest) : prepareSample start s = some (prepareFollow false head rest s) := by
  simp only [prepareSample, h, prepareStream, hs]

theorem prepareSample_underrun (h : s.fcu.flight = .stream) (hs : s.pln.stream.samples = [])
    (hp : s.pln.stream.state = .playing) :
    prepareSample start s = some (prepareAxisStop (stepStream s) (underrun s)) := by
  simp only [prepareSample, h, prepareStream, hs, if_pos hp]

theorem prepareSample_streamEnd (h : s.fcu.flight = .stream) (hs : s.pln.stream.samples = [])
    (hp : s.pln.stream.state ≠ .playing) :
    prepareSample start s = some (prepareAxisStop (stepStream s) (endStream s)) := by
  simp only [prepareSample, h, prepareStream, hs, if_neg hp]

theorem prepareSample_axisStop {rate : Nat} (h : s.fcu.flight = .stopping) (hs : s.pln.stop = some ⟨.axis, rate⟩) :
    prepareSample start s = some (prepareAxisStop rate s) := by
  simp only [prepareSample, h, prepareStopping, hs]

theorem prepareSample_pathStop {rate : Nat} {m : MoveInHand} (h : s.fcu.flight = .stopping)
    (hs : s.pln.stop = some ⟨.path, rate⟩) (hm : s.pln.inHand = some m) :
    prepareSample start s = some (preparePathStop rate m s) := by
  simp only [prepareSample, h, prepareStopping, hs, hm]

end

/-! ## The commitment -/

/-- A candidate with velocities committed from a state, the clamp, the position before it and the anchors taken from another:
WALL_STRIKE where the clamp changed it, the setpoints, the markers (R10, R40, R41, R131). -/
def commitSample (s : State) (flight : FlightState) (b : State) (vel cand : Vec3) : State :=
  let q := s.env.hardClamp s.pln.pos cand
  let e : State := { b with pln := { b.pln with pos := q, vel := restClamped cand q vel } }
  let e := if q = cand then e else report .wallStrike 0 none e
  examineMarkers flight q { e with
    ch := { e.ch with chans := e.ch.chans.zip s.sol.anchors fun k a => { k with newest := setpointAt a q } } }

/-- A sample is committed where the clamp puts its candidate from the position before it (R40). -/
theorem committed_of_prepared {start : Bool} {s : State} {p : Prepared} (h : prepareSample start s = some p) :
    p.committed = s.env.hardClamp s.pln.pos p.cand := by
  have kept := prepareSample_keptByPlanner start s
  rw [h] at kept
  obtain ⟨-, -, -, -, -, -, -, pos, -⟩ := kept
  have env : p.state.env = _ := prepareSample_env p h
  rw [Prepared.committed, pos, env]
  rfl

/-- A commitment changes the carrier's place and velocities, the setpoints, the flags, MRK and the notices handed over alone. -/
theorem commitSample_keeps (s : State) (flight : FlightState) (b : State) (vel cand : Vec3) :
    ∃ ch flt mrk handed, commitSample s flight b vel cand =
      { b with
        pln :=
          { b.pln with
            pos := s.env.hardClamp s.pln.pos cand
            vel := restClamped cand (s.env.hardClamp s.pln.pos cand) vel }
        ch := ch
        flt := flt
        mrk := mrk
        link := { b.link with handed := handed } } := by
  have struck : ∀ e : State, ∃ flt handed,
      (if s.env.hardClamp s.pln.pos cand = cand then e else report .wallStrike 0 none e) =
        { e with flt := flt, link := { e.link with handed := handed } } := by
    intro e
    split
    · exact ⟨_, _, rfl⟩
    · exact report_wallStrike_keeps e
  unfold commitSample
  dsimp only
  obtain ⟨flt, handed, he⟩ := struck _
  obtain ⟨mrk, handed', hm⟩ := examineMarkers_keeps flight (s.env.hardClamp s.pln.pos cand) _
  rw [hm, he]
  exact ⟨_, _, _, _, rfl⟩

/-- The planner's commitment is that of the sample it prepared (R10, R40, R41, R131). -/
theorem commit_of_prepared {start : Bool} {s : State} {p : Prepared} (h : prepareSample start s = some p) :
    p.commit = commitSample s p.state.fcu.flight p.state p.state.pln.vel p.cand := by
  have kept := prepareSample_keptByPlanner start s
  rw [h] at kept
  obtain ⟨-, sol, -⟩ := kept
  unfold Prepared.commit commitSample Prepared.struck
  rw [committed_of_prepared h, ← sol]
  dsimp only [State.onPln]
  split
  · next hq =>
    obtain ⟨flt, handed, hr⟩ := report_wallStrike_keeps
      { p.state with
        pln :=
          { p.state.pln with
            pos := s.env.hardClamp s.pln.pos p.cand
            vel := restClamped p.cand (s.env.hardClamp s.pln.pos p.cand) p.state.pln.vel } }
    rw [if_neg (of_decide_eq_true hq), hr]
    rfl
  · next hq =>
    rw [if_pos (by simpa using hq)]
    rfl

theorem struck_iff {start : Bool} {s : State} {p : Prepared} (h : prepareSample start s = some p) :
    p.struck = true ↔ s.env.hardClamp s.pln.pos p.cand ≠ p.cand := by
  rw [Prepared.struck, committed_of_prepared h, decide_eq_true_iff]

/-- The planner's part of a servo event is the commitment of the sample it prepared, and what that concludes (R43). -/
theorem planSample_prepared {start : Bool} {s : State} {p : Prepared} (h : prepareSample start s = some p) :
    planSample start s = conclude p.kind p.struck (commitSample s p.state.fcu.flight p.state p.state.pln.vel p.cand) := by
  rw [planSample, h, ← commit_of_prepared h]

/-! ## The samples that conclude by kind alone -/

/-- The candidate a velocity leads to in one servo period (R99, R100). -/
def State.stepped (s : State) (vel : Vec3) : Vec3 :=
  Vec3.ofAxes fun axis => s.pln.pos.get axis + displacement (vel.get axis) s.fru.timing.ts

/-- A velocity sample committed. -/
def flownSample (s : State) (flight : FlightState) (b : State) (vel : Vec3) : State :=
  commitSample s flight b vel (s.stepped vel)

/-- The state with the ceiling of another computed (R36). -/
def State.cappedAt (s b : State) : State :=
  { b with env := { b.env with ceiling := s.env.ceilingAt s.pln.pos (tensionWarning s) } }

/-- Velocities moved toward their targets, then the soft walls (R99, R117, R39). -/
def State.softened (s : State) (vel target : Vec3) (step : Nat) : Vec3 :=
  s.env.softWalls s.fru.timing.ts s.pln.pos (approachAxes step vel target)

/-- A target limited to the ceiling computed at the position (R99, R117). -/
def State.limited (s : State) (target : Vec3) : Vec3 :=
  limitTo (s.env.ceilingAt s.pln.pos (tensionWarning s)) target

/-- A follower's velocity toward the stream position it plays (R117). -/
def State.followVel (s : State) (vel played : Vec3) : Vec3 :=
  s.softened vel (s.limited (followTarget s.fru.timing.ts s.pln.pos played)) (stepStream s)

/-- A stick sample's velocity (R99). -/
def State.stickVel (s : State) : Vec3 :=
  s.softened s.pln.vel (s.limited (stickTarget s.env.limits.vstick s.pln.stick.q)) (stepStick s)

/-- A hold sample, from whatever state it is prepared in (R44). -/
theorem planSample_rest {start : Bool} {s b : State} (h : prepareSample start s = some (prepareRest b))
    (hold : b.pln.holdPos = s.pln.holdPos) :
    planSample start s = commitSample s b.fcu.flight b Vec3.zero s.pln.holdPos := by
  rw [planSample_prepared h, ← hold]
  rfl

/-- A stick sample (R99, R100). -/
theorem planSample_stick {start : Bool} {s : State} (h : s.fcu.flight = .stick) :
    planSample start s = flownSample s .stick (s.cappedAt s) s.stickVel := by
  rw [planSample_prepared (prepareSample_stick h), ← h]
  rfl

/-- A sample of an axis stop, from whatever state of the same ground it is prepared in (R103, R123). -/
theorem planSample_axisStop {start : Bool} {s b : State} {rate : Nat}
    (h : prepareSample start s = some (prepareAxisStop rate b)) (env : b.env = s.env) (fru : b.fru = s.fru)
    (pos : b.pln.pos = s.pln.pos) :
    planSample start s =
      let e := flownSample s b.fcu.flight b (s.softened b.pln.vel Vec3.zero rate)
      if e.pln.vel = Vec3.zero then endAxisStop e else e := by
  have vel : (prepareAxisStop rate b).state.pln.vel = s.softened b.pln.vel Vec3.zero rate := by
    unfold State.softened
    rw [← env, ← fru, ← pos]
    rfl
  have cand : (prepareAxisStop rate b).cand = s.stepped (s.softened b.pln.vel Vec3.zero rate) := by
    unfold State.stepped
    rw [← vel, ← fru, ← pos]
    rfl
  rw [planSample_prepared h, vel, cand]
  rfl

/-- The buffer with what is left after its head sample, and its bands evaluated (R114, R117). -/
def State.popped (rest : List Sample) (b : State) : State :=
  evaluateBands { b with pln := { b.pln with stream := { b.pln.stream with samples := rest } } }

/-- The band evaluation keeps the buffer and the stream state (R114). -/
theorem State.popped_keeps (rest : List Sample) (b : State) :
    ∃ low critical high handed, b.popped rest =
      { b with
        pln := { b.pln with stream :=
          { b.pln.stream with samples := rest, inLow := low, inCritical := critical, inHigh := high } }
        link := { b.link with handed := handed } } :=
  evaluateBands_keeps { b with pln := { b.pln with stream := { b.pln.stream with samples := rest } } }

/-- The ground a follower sample is prepared on (R117). -/
theorem prepareFollow_eq (first : Bool) (head : Sample) (rest : List Sample) {s b : State} (env : b.env = s.env)
    (ch : b.ch = s.ch) (fru : b.fru = s.fru) (pos : b.pln.pos = s.pln.pos) :
    prepareFollow first head rest b =
      ⟨.follow head.pos first, s.stepped (s.followVel b.pln.vel head.pos),
        (s.cappedAt (b.popped rest)).onPln fun p => { p with vel := s.followVel b.pln.vel head.pos }⟩ := by
  obtain ⟨low, critical, high, handed, hb⟩ := State.popped_keeps rest b
  unfold prepareFollow
  rw [show evaluateBands (b.onPln fun p => { p with stream := { p.stream with samples := rest } }) = b.popped rest from rfl,
    hb]
  unfold State.stepped State.followVel State.softened State.limited State.cappedAt tensionWarning stepStream
  rw [← env, ← ch, ← fru, ← pos]
  rfl

/-- A follower sample (R117). -/
theorem planSample_follow {start first : Bool} {s b : State} {head : Sample} {rest : List Sample}
    (h : prepareSample start s = some (prepareFollow first head rest b)) (env : b.env = s.env) (ch : b.ch = s.ch)
    (fru : b.fru = s.fru) (pos : b.pln.pos = s.pln.pos) :
    planSample start s =
      concludeFollow head.pos first
        (flownSample s b.fcu.flight
          (s.cappedAt (b.popped rest)) (s.followVel b.pln.vel head.pos)) := by
  rw [prepareFollow_eq first head rest env ch fru pos] at h
  have flight : (b.popped rest).fcu.flight = b.fcu.flight := by
    obtain ⟨low, critical, high, handed, hb⟩ := State.popped_keeps rest b
    rw [hb]
  rw [planSample_prepared h, ← flight]
  rfl

end Sys2Proof.Machine
end

section
/-! What the velocity samples conclude (R61, R115 to R123), state for state. -/

namespace Sys2Proof.Machine

open Sys2Proof

/-! ## Commitments -/

/-- A flag that is no TRIP flag changes the flags and the notices handed over alone (R183, R184). -/
theorem report_eq_of_not_trip {f : Flag} (h : f.isTrip = false) (channel : Nat) (seat : Option Seat) (s : State) :
    ∃ flt handed, report f channel seat s = { s with flt := flt, link := { s.link with handed := handed } } := by
  obtain ⟨fcu, pln, env, sol, mrk, fru, ch, sto, free, pending, -, -, link⟩ := report_sameButFlags h channel seat s
  generalize report f channel seat s = t at *
  obtain ⟨⟩ := t
  dsimp only at *
  subst fcu pln env sol mrk fru ch sto free pending
  exact ⟨_, _, by rw [link]⟩

theorem commitSample_env (s : State) (flight : FlightState) (b : State) (vel cand : Vec3) :
    (commitSample s flight b vel cand).env = b.env := by
  obtain ⟨ch, flt, mrk, handed, h⟩ := commitSample_keeps s flight b vel cand
  rw [h]

theorem commitSample_fcu (s : State) (flight : FlightState) (b : State) (vel cand : Vec3) :
    (commitSample s flight b vel cand).fcu = b.fcu := by
  obtain ⟨ch, flt, mrk, handed, h⟩ := commitSample_keeps s flight b vel cand
  rw [h]

theorem commitSample_fru (s : State) (flight : FlightState) (b : State) (vel cand : Vec3) :
    (commitSample s flight b vel cand).fru = b.fru := by
  obtain ⟨ch, flt, mrk, handed, h⟩ := commitSample_keeps s flight b vel cand
  rw [h]

theorem commitSample_pln (s : State) (flight : FlightState) (b : State) (vel cand : Vec3) :
    (commitSample s flight b vel cand).pln =
      { b.pln with
        pos := s.env.hardClamp s.pln.pos cand
        vel := restClamped cand (s.env.hardClamp s.pln.pos cand) vel } := by
  obtain ⟨ch, flt, mrk, handed, h⟩ := commitSample_keeps s flight b vel cand
  rw [h]

/-! ## The follower's conclusion -/

/-- A follower sample's conclusion, its limits and its rate taken from a state of the same ground (R116, R118, R119, R122). -/
theorem concludeFollow_eq (played : Vec3) (first : Bool) {s e : State} (limits : e.env.limits = s.env.limits)
    (fru : e.fru = s.fru) :
    concludeFollow played first e =
      let n := if first then notice .streamPlaying 0 e else e
      if 1000 * s.env.limits.lagLimit < chebyshev played n.pln.pos then
        startStop .axis (stepStream s) .streamLag (cancelStream (report .streamLag 0 none n))
      else if e.pln.stream.state = .ending ∧ e.pln.stream.samples = [] then
        startStop .axis (stepStream s) .streamEnded
          (n.onPln fun p => { p with stream := { p.stream with state := .idle } })
      else n := by
  unfold concludeFollow lagEnd endStream stepStream
  rw [← limits, ← fru]
  cases first <;> rfl

/-- A follower sample whole: the head sample leaves the buffer, the bands, the ceiling, the commitment, the conclusion (R116 to
R119, R122). -/
def State.followed (s : State) (first : Bool) (b : State) (vel : Vec3) (head : Sample) (rest : List Sample) : State :=
  let e := flownSample s .stream (s.cappedAt (b.popped rest)) (s.followVel vel head.pos)
  let n := if first then notice .streamPlaying 0 e else e
  if 1000 * s.env.limits.lagLimit < chebyshev head.pos n.pln.pos then
    startStop .axis (stepStream s) .streamLag (cancelStream (report .streamLag 0 none n))
  else if s.pln.stream.state = .ending ∧ rest = [] then
    startStop .axis (stepStream s) .streamEnded (n.onPln fun p => { p with stream := { p.stream with state := .idle } })
  else n

theorem planSample_followed {start first : Bool} {s b : State} {head : Sample} {rest : List Sample}
    (h : prepareSample start s = some (prepareFollow first head rest b)) (env : b.env = s.env) (ch : b.ch = s.ch)
    (fru : b.fru = s.fru) (pos : b.pln.pos = s.pln.pos) (flight : b.fcu.flight = .stream)
    (ending : b.pln.stream.state = .ending ↔ s.pln.stream.state = .ending) :
    planSample start s = s.followed first b b.pln.vel head rest := by
  rw [planSample_follow h env ch fru pos, flight, State.followed]
  generalize he : flownSample s .stream (s.cappedAt (b.popped rest)) (s.followVel b.pln.vel head.pos) = e
  obtain ⟨low, critical, high, handed, hb⟩ := State.popped_keeps rest b
  rw [flownSample, hb] at he
  have limits : e.env.limits = s.env.limits := by rw [← he, commitSample_env, ← env]; rfl
  have same : e.fru = s.fru := by rw [← he, commitSample_fru, ← fru]; rfl
  have stream : e.pln.stream.state = b.pln.stream.state ∧ e.pln.stream.samples = rest := by
    rw [← he, commitSample_pln]
    exact ⟨rfl, rfl⟩
  simp only [concludeFollow_eq head.pos first limits same, stream, ending]

/-! ## The join -/

/-- A join fails when some axis is over the tolerance (R115). -/
theorem lt_chebyshev_iff (n : Nat) (p q : Vec3) :
    n < chebyshev p q ↔ ∃ axis, n < (p.get axis - q.get axis).natAbs := by
  constructor
  · intro h
    obtain ⟨axis, ha⟩ := chebyshev_attained p q
    exact ⟨axis, ha ▸ h⟩
  · rintro ⟨axis, ha⟩
    exact ha.trans_le (axis_le_chebyshev p q axis)

/-- The first axis over the tolerance, when one is (R115). -/
theorem joinAxis_of_x {n : Nat} {p q : Vec3} (h : n < (p.get .x - q.get .x).natAbs) : joinAxis n p q = 0 := if_pos h

theorem joinAxis_of_y {n : Nat} {p q : Vec3} (hx : ¬ n < (p.get .x - q.get .x).natAbs)
    (h : n < (p.get .y - q.get .y).natAbs) : joinAxis n p q = 1 := (if_neg hx).trans (if_pos h)

theorem joinAxis_of_z {n : Nat} {p q : Vec3} (hx : ¬ n < (p.get .x - q.get .x).natAbs)
    (hy : ¬ n < (p.get .y - q.get .y).natAbs) : joinAxis n p q = 2 := (if_neg hx).trans (if_neg hy)

section
variable {start : Bool} {s : State} (h : s.fcu.flight = .hold) (plays : startsPlay start s = true)
include h plays

/-- Play refused on an empty buffer (R115). -/
theorem planSample_play_empty (hs : s.pln.stream.samples = []) :
    planSample start s =
      commitSample s .hold (cancelStream (report .streamUnderrun 0 none s)) Vec3.zero s.pln.holdPos := by
  obtain ⟨flt, handed, hr⟩ := report_eq_of_not_trip (f := .streamUnderrun) rfl 0 none s
  have prepared := prepareSample_play h plays
  rw [prepareStartOfPlay_empty hs] at prepared
  rw [planSample_rest prepared (by rw [hr]; rfl), hr, ← h]
  rfl

variable {head : Sample} {rest : List Sample} (hs : s.pln.stream.samples = head :: rest)
include hs

/-- Play refused by the join (R115). -/
theorem planSample_play_far (far : 1000 * s.env.limits.joinTol < chebyshev head.pos s.pln.holdPos) :
    planSample start s =
      commitSample s .hold
        (cancelStream (notice .joinRefused (joinAxis (1000 * s.env.limits.joinTol) head.pos s.pln.holdPos) s))
        Vec3.zero s.pln.holdPos := by
  have prepared := prepareSample_play h plays
  rw [prepareStartOfPlay_far hs far] at prepared
  rw [planSample_rest prepared rfl, ← h]
  rfl

/-- A first sample played (R116). -/
theorem prepareSample_play_near (near : chebyshev head.pos s.pln.holdPos ≤ 1000 * s.env.limits.joinTol) :
    prepareSample start s = some (prepareFollow true head rest s.playBegun) := by
  rw [prepareSample_play h plays, prepareStartOfPlay_near hs near]

end

/-- The end of an axis stop, from the state it is made in (R61, R122). -/
theorem endAxisStop_eq (e : State) :
    endAxisStop e =
      let n := if e.fcu.cause = .streamEnded then notice .streamEnded 0 e else e
      notice .holding e.fcu.cause.code.toNat { n with
        fcu := { e.fcu with flight := .hold }
        pln := { e.pln with holdPos := e.pln.pos, vel := Vec3.zero, stop := none }
        mrk := { e.mrk with holdPending := false } } := by
  unfold endAxisStop
  split <;> rfl

/-- A sample of an axis stop whole: the velocities fall, the commitment, and at rest HOLD (R61, R103, R122, R123). -/
def State.slowed (s : State) (rate : Nat) (b : State) : State :=
  let e := flownSample s .stopping b (s.softened s.pln.vel Vec3.zero rate)
  let n := if e.fcu.cause = .streamEnded then notice .streamEnded 0 e else e
  if e.pln.vel = Vec3.zero then
    notice .holding e.fcu.cause.code.toNat { n with
      fcu := { e.fcu with flight := .hold }
      pln := { e.pln with holdPos := e.pln.pos, vel := Vec3.zero, stop := none }
      mrk := { e.mrk with holdPending := false } }
  else e

theorem planSample_slowed {start : Bool} {s b : State} {rate : Nat}
    (h : prepareSample start s = some (prepareAxisStop rate b)) (env : b.env = s.env) (fru : b.fru = s.fru)
    (pos : b.pln.pos = s.pln.pos) (vel : b.pln.vel = s.pln.vel) (flight : b.fcu.flight = .stopping) :
    planSample start s = s.slowed rate b := by
  rw [planSample_axisStop h env fru pos, vel, flight]
  simp only [endAxisStop_eq, State.slowed]

/-- An underrun starts the stop and cancels the stream (R120). -/
theorem underrun_eq (s : State) :
    ∃ flt handed, underrun s =
      { s with
        fcu := { s.fcu with flight := .stopping, cause := .streamUnderrun }
        pln := { s.pln with stream := s.pln.stream.cancelled, stop := some ⟨.axis, stepStream s⟩ }
        flt := flt
        link := { s.link with handed := handed } } := by
  obtain ⟨flt, handed, hr⟩ := report_eq_of_not_trip (f := .streamUnderrun) rfl 0 none s
  exact ⟨flt, handed, by rw [underrun, hr]; rfl⟩

/-- An empty buffer while PLAYING: the stop's first sample (R120, R123). -/
theorem planSample_underrun {start : Bool} {s : State} (h : s.fcu.flight = .stream) (hs : s.pln.stream.samples = [])
    (hp : s.pln.stream.state = .playing) :
    planSample start s = s.slowed (stepStream s) (underrun s) := by
  obtain ⟨flt, handed, under⟩ := underrun_eq s
  exact planSample_slowed (prepareSample_underrun h hs hp) (by rw [under]) (by rw [under]) (by rw [under]) (by rw [under])
    (by rw [under])

end Sys2Proof.Machine
end

section
/-! A servo event around the planner's sample: the frame count before it, the channels and FRU after it (R139, R144, R150, R166). -/

namespace Sys2Proof.Machine

open Sys2Proof

/-! ## Before the sample -/

/-- The frame count raised at a frame start, up to its largest value (R147). -/
theorem countFrame_eq (start : Bool) (s : State) :
    countFrame start s =
      if start = true ∧ s.fru.frames < 4294967295 then { s with fru := { s.fru with frames := s.fru.frames + 1 } } else s := by
  have open_iff : exhausted s = false ↔ s.fru.frames < 4294967295 := by
    rw [Bool.eq_false_iff, ne_eq, exhausted_iff, not_le]
  simp only [countFrame, open_iff]
  rfl

theorem countFrame_frames (start : Bool) (s : State) :
    (countFrame start s).fru.frames =
      if start = true ∧ s.fru.frames < 4294967295 then s.fru.frames + 1 else s.fru.frames := by
  rw [countFrame_eq]
  split <;> rfl

/-- The states that agree in all a sample is planned from (R43). -/
structure State.SamePlan (s t : State) : Prop where
  fcu : t.fcu = s.fcu
  env : t.env = s.env
  timing : t.fru.timing = s.fru.timing
  warning : tensionWarning t = tensionWarning s
  inHand : t.pln.inHand = s.pln.inHand
  stream : t.pln.stream = s.pln.stream
  deflection : t.pln.stick.q = s.pln.stick.q
  pos : t.pln.pos = s.pln.pos
  vel : t.pln.vel = s.pln.vel
  holdPos : t.pln.holdPos = s.pln.holdPos
  stop : t.pln.stop = s.pln.stop

theorem advanceTo_samePlan (due : Nat) (s : State) : s.SamePlan (advanceTo due s) :=
  ⟨rfl, rfl, rfl, rfl, rfl, rfl, rfl, rfl, rfl, rfl, rfl⟩

theorem countFrame_samePlan {s t : State} (h : s.SamePlan t) (start : Bool) : s.SamePlan (countFrame start t) := by
  rw [countFrame_eq]
  split
  · exact ⟨h.fcu, h.env, h.timing, h.warning, h.inHand, h.stream, h.deflection, h.pos, h.vel, h.holdPos, h.stop⟩
  · exact h

namespace State.SamePlan

variable {s t : State} (h : s.SamePlan t)
include h

theorem softened (vel target : Vec3) (step : Nat) : t.softened vel target step = s.softened vel target step := by
  unfold State.softened
  rw [h.env, h.timing, h.pos]

theorem limited (target : Vec3) : t.limited target = s.limited target := by
  unfold State.limited
  rw [h.env, h.warning, h.pos]

theorem stepped (vel : Vec3) : t.stepped vel = s.stepped vel := by
  unfold State.stepped
  rw [h.timing, h.pos]

theorem stepStream : stepStream t = stepStream s := by
  unfold Machine.stepStream
  rw [h.env, h.timing]

theorem stickVel : t.stickVel = s.stickVel := by
  unfold State.stickVel stepStick
  rw [h.softened, h.limited, h.env, h.timing, h.vel, h.deflection]

theorem followVel (vel played : Vec3) : t.followVel vel played = s.followVel vel played := by
  unfold State.followVel
  rw [h.softened, h.limited, h.timing, h.pos, h.stepStream]

end State.SamePlan

/-! ## After the sample -/

/-- The states that agree in the blocks that LINK, FRU and the channels are not. -/
structure State.SameBlocks (s t : State) : Prop where
  fcu : t.fcu = s.fcu
  pln : t.pln = s.pln
  env : t.env = s.env
  sol : t.sol = s.sol
  mrk : t.mrk = s.mrk
  flt : t.flt = s.flt
  sto : t.sto = s.sto

theorem State.SameBlocks.trans {s t u : State} (h : s.SameBlocks t) (k : t.SameBlocks u) : s.SameBlocks u :=
  ⟨k.fcu.trans h.fcu, k.pln.trans h.pln, k.env.trans h.env, k.sol.trans h.sol, k.mrk.trans h.mrk, k.flt.trans h.flt,
    k.sto.trans h.sto⟩

theorem handFramePose_sameBlocks (s : State) : s.SameBlocks (handFramePose s) := by
  unfold handFramePose
  dsimp only
  split <;> exact ⟨rfl, rfl, rfl, rfl, rfl, rfl, rfl⟩

theorem deliver_sameBlocks (s : State) : s.SameBlocks (deliver s) := ⟨rfl, rfl, rfl, rfl, rfl, rfl, rfl⟩

theorem finishServo_sameBlocks (index : Nat) (stale : Quad Bool) (s : State) :
    (runChannels s).SameBlocks (finishServo index stale completePull s) := by
  have whole := finishServo_completePull index stale s
  dsimp only at whole
  rw [whole]
  split <;> exact ⟨rfl, rfl, rfl, rfl, rfl, rfl, rfl⟩

theorem raiseServo_sameBlocks (index : Nat) (s : State) :
    (runChannels (planSample (decide (index = 0)) (countFrame (decide (index = 0)) s))).SameBlocks
      (raiseServo index completePull s) := by
  unfold raiseServo
  dsimp only
  split
  · exact (finishServo_sameBlocks index _ _).trans (handFramePose_sameBlocks _)
  · exact finishServo_sameBlocks index _ _

/-- The servo event at its time (R139). -/
theorem exec_servoEvent {s : State} {due : Nat} (h : s.fru.nextEvent = some due) :
    exec .servoEvent s = .next (deliver (raiseServo s.fru.frameIndex completePull (advanceTo due s))) := by
  show execServoEvent s = _
  simp only [execServoEvent, h]
  rfl

/-! ## Third misses -/

/-- No period closes as a third miss outside ABSENT (R157, R166). -/
def State.calm (s : State) : Prop :=
  ∀ w, (s.chan w).sent = none ∨ (s.chan w).answered = true ∨ (s.chan w).miss ≠ 2 ∨ (s.chan w).state = .absent

theorem State.calm_iff (s : State) : s.calm ↔ ∀ w, (s.chan w).thirdMiss = false ∨ (s.chan w).state = .absent := by
  refine forall_congr' fun w => ?_
  unfold Channel.thirdMiss Channel.misses
  cases (s.chan w).sent <;> cases (s.chan w).answered <;> simp

/-- The planner's sample changes the setpoints of the channels alone (R10). -/
theorem planSample_calm {start : Bool} {s : State} (h : s.calm) : (planSample start s).calm := by
  obtain ⟨-, -, -, -, -, -, -, ch⟩ := planSample_keeps start s
  intro w
  have quiet := h w
  unfold State.chan at quiet ⊢
  rw [ch]
  split
  · cases w <;> exact quiet
  · exact quiet

theorem advanceTo_calm {s : State} (h : s.calm) (due : Nat) : (advanceTo due s).calm := by
  intro w
  have quiet := h w
  cases w <;> exact quiet

theorem countFrame_calm {s : State} (h : s.calm) (start : Bool) : (countFrame start s).calm := by
  rw [countFrame_eq]
  split
  · exact h
  · exact h

/-- Without a third miss the channels' turn touches the channels alone (R155, R157). -/
theorem runChannels_calm {s : State} (h : s.calm) : runChannels s = onAllChans (fun c => c.close.send) s :=
  runChannels_quiet (s.calm_iff.mp h)

/-! ## What a third miss keeps of the sample -/

/-- Every flag set is still set. -/
def State.KeepsFlags (s t : State) : Prop := ∀ f, (s.flag f).set = true → (t.flag f).set = true

theorem State.KeepsFlags.of_flags {s t : State} (h : t.flt.flags = s.flt.flags) : s.KeepsFlags t := by
  intro f hf
  unfold State.flag at *
  rwa [h]

theorem State.KeepsFlags.trans {s t u : State} (h : s.KeepsFlags t) (k : t.KeepsFlags u) : s.KeepsFlags u :=
  fun f hf => k f (h f hf)

theorem setFlag_keepsFlags (s : State) (f : Flag) {e : FlagEntry} (h : e.set = true) : s.KeepsFlags (s.setFlag f e) := by
  intro g hg
  rw [State.flag_setFlag]
  split
  · exact h
  · exact hg

theorem FlagEntry.occur_set (e : FlagEntry) (channel : Nat) : (e.occur channel).set = true := by
  unfold FlagEntry.occur
  split <;> rfl

/-- An occurrence of any flag leaves every set flag set (R183). -/
theorem report_keepsFlags (f : Flag) (channel : Nat) (seat : Option Seat) (s : State) :
    s.KeepsFlags (report f channel seat s) := by
  have occurred := setFlag_keepsFlags s f (FlagEntry.occur_set (s.flag f) channel)
  by_cases hf : f.isTrip = true
  · by_cases hs : s.fcu.flight = .tripped
    · rw [report_tripped hf channel seat hs]
      split
      · exact occurred
      · exact occurred.trans (.of_flags rfl)
    · rw [report_trip hf channel seat hs]
      refine (setFlag_keepsFlags s f (e := if (s.flag f).set then
        ⟨true, if (s.flag f).count < 255 then (s.flag f).count + 1 else 255, channel⟩ else ⟨true, 1, channel⟩) ?_).trans
        (.of_flags rfl)
      split <;> rfl
  · obtain ⟨code, hn⟩ := Option.ne_none_iff_exists'.mp fun hn => hf ((Flag.isTrip_iff f).mpr hn)
    simp only [report, hn]
    split
    · exact occurred
    · exact occurred.trans (.of_flags rfl)

/-- A commitment leaves every set flag set (R40, R41). -/
theorem commitSample_keepsFlags (s : State) (flight : FlightState) (b : State) (vel cand : Vec3) :
    b.KeepsFlags (commitSample s flight b vel cand) := by
  have marked : ∀ (q : Vec3) (e : State), e.KeepsFlags (examineMarkers flight q e) := by
    intro q e
    obtain ⟨mrk, handed, hm⟩ := examineMarkers_keeps flight q e
    rw [hm]
    exact .of_flags rfl
  have struck : ∀ (q : Vec3) (e : State), e.KeepsFlags (if q = cand then e else report .wallStrike 0 none e) := by
    intro q e
    split
    · exact .of_flags rfl
    · exact report_keepsFlags _ _ _ e
  exact fun f hf => marked _ _ f (struck (s.env.hardClamp s.pln.pos cand) { b with pln := _ } f hf)

/-- The carrier's place, an idle stream, an empty buffer and the flags set stand. -/
structure State.KeepsOutcome (s t : State) : Prop where
  pos : t.pln.pos = s.pln.pos
  idle : s.pln.stream.state = .idle → t.pln.stream.state = .idle
  empty : s.pln.stream.samples = [] → t.pln.stream.samples = []
  flags : s.KeepsFlags t

namespace State.KeepsOutcome

variable {s t u : State}

theorem trans (h : s.KeepsOutcome t) (k : t.KeepsOutcome u) : s.KeepsOutcome u :=
  ⟨k.pos.trans h.pos, fun hs => k.idle (h.idle hs), fun hs => k.empty (h.empty hs), h.flags.trans k.flags⟩

theorem of_blocks (pln : t.pln = s.pln) (flt : t.flt = s.flt) : s.KeepsOutcome t :=
  ⟨by rw [pln], fun h => by rw [pln]; exact h, fun h => by rw [pln]; exact h, .of_flags (by rw [flt])⟩

end State.KeepsOutcome

theorem report_keepsOutcome (f : Flag) (channel : Nat) (seat : Option Seat) (s : State) :
    s.KeepsOutcome (report f channel seat s) := by
  have flags := report_keepsFlags f channel seat s
  have same : s.SameButFlags (report f channel seat s) → s.KeepsOutcome (report f channel seat s) := by
    rintro ⟨-, pln, -⟩
    exact ⟨by rw [pln], fun h => by rw [pln]; exact h, fun h => by rw [pln]; exact h, flags⟩
  by_cases hf : f.isTrip = true
  · by_cases hs : s.fcu.flight = .tripped
    · exact same (report_tripped_sameButFlags hf channel seat hs)
    · refine ⟨?_, fun _ => ?_, fun _ => ?_, flags⟩ <;> rw [report_trip hf channel seat hs] <;> rfl
  · exact same (report_sameButFlags (by simpa using hf) channel seat s)

theorem reportThirdMiss_keepsOutcome (w : Winch) (c : Channel) (s : State) : s.KeepsOutcome (reportThirdMiss w c s) := by
  unfold reportThirdMiss
  split
  · exact .of_blocks rfl rfl
  · split
    · exact report_keepsOutcome _ _ _ s
    · exact .of_blocks rfl rfl

theorem runChannels_keepsOutcome (s : State) : s.KeepsOutcome (runChannels s) := by
  refine State.KeepsOutcome.trans (t := onAllChans (fun c => c.close.send) s) (.of_blocks rfl rfl) ?_
  exact (((reportThirdMiss_keepsOutcome .w1 _ _).trans (reportThirdMiss_keepsOutcome .w2 _ _)).trans
    (reportThirdMiss_keepsOutcome .w3 _ _)).trans (reportThirdMiss_keepsOutcome .w4 _ _)

/-! ## The whole event -/

/-- A servo event from `s` to `t`, its sample planned at `c`: the state as it stood, but for the time and the frame count. A third
miss keeps the sample's outcome; without one every block but LINK, FRU and the channels stands as the sample leaves it (R43,
R139, R147, R166). -/
structure State.Plans (s c t : State) : Prop where
  same : s.SamePlan c
  frames : c.fru.frames =
    (if s.fru.frameIndex = 0 ∧ s.fru.frames < 4294967295 then s.fru.frames + 1 else s.fru.frames)
  kept : (planSample (decide (s.fru.frameIndex = 0)) c).KeepsOutcome t
  quiet : s.calm → (planSample (decide (s.fru.frameIndex = 0)) c).SameBlocks t

theorem servoEvent_plans {s t : State} (hn : s.fru.nextEvent ≠ none) (ht : exec .servoEvent s = .next t) :
    ∃ c, s.Plans c t := by
  obtain ⟨due, hdue⟩ := Option.ne_none_iff_exists'.mp hn
  rw [exec_servoEvent hdue] at ht
  cases ht
  have blocks := (raiseServo_sameBlocks s.fru.frameIndex (advanceTo due s)).trans (deliver_sameBlocks _)
  refine ⟨countFrame (decide (s.fru.frameIndex = 0)) (advanceTo due s), countFrame_samePlan (advanceTo_samePlan due s) _, ?_,
    (runChannels_keepsOutcome _).trans (.of_blocks blocks.pln blocks.flt), fun h => ?_⟩
  · simp only [countFrame_frames, decide_eq_true_iff]
    rfl
  · rw [runChannels_calm (planSample_calm (countFrame_calm (advanceTo_calm h due) _))] at blocks
    exact ⟨blocks.fcu, blocks.pln, blocks.env, blocks.sol, blocks.mrk, blocks.flt, blocks.sto⟩

end Sys2Proof.Machine
end

section
/-! What the samples leave of the flight state, the stream and the flags (R41, R61, R84, R115 to R123). -/

namespace Sys2Proof.Machine

open Sys2Proof

/-! ## The stick -/

/-- A stick sample leaves STICK and the velocities the clamp did not put to rest (R41, R100). -/
theorem planSample_stick_outcome {start : Bool} {s : State} (h : s.fcu.flight = .stick) :
    (planSample start s).fcu = s.fcu ∧
      (planSample start s).pln.vel = restClamped (s.stepped s.stickVel) (planSample start s).pln.pos s.stickVel := by
  rw [planSample_stick h, flownSample, commitSample_fcu, commitSample_pln]
  exact ⟨rfl, rfl⟩

/-! ## The follower -/

section
variable (s : State) (first : Bool) (b : State) (vel : Vec3) (head : Sample) (rest : List Sample)

theorem told_pln (e : State) : (if first then notice .streamPlaying 0 e else e).pln = e.pln := by cases first <;> rfl

theorem told_fcu (e : State) : (if first then notice .streamPlaying 0 e else e).fcu = e.fcu := by cases first <;> rfl

/-- A follower sample's place, whatever it concludes (R40). -/
theorem followed_pos :
    (s.followed first b vel head rest).pln.pos =
      s.env.hardClamp s.pln.pos (s.stepped (s.followVel vel head.pos)) := by
  have flown : (if first then notice .streamPlaying 0
      (flownSample s .stream (s.cappedAt (b.popped rest)) (s.followVel vel head.pos))
      else flownSample s .stream (s.cappedAt (b.popped rest)) (s.followVel vel head.pos)).pln.pos =
        s.env.hardClamp s.pln.pos (s.stepped (s.followVel vel head.pos)) := by
    rw [told_pln, flownSample, commitSample_pln]
  unfold State.followed
  dsimp only
  generalize (if first = true then notice .streamPlaying 0 _ else _) = n at flown ⊢
  split
  · obtain ⟨flt, handed, hr⟩ := report_eq_of_not_trip (f := .streamLag) rfl 0 none _
    rw [hr]
    exact flown
  · split
    · exact flown
    · exact flown

/-- A lag over the limit cancels the stream and sets STREAM_LAG (R119). -/
theorem followed_lag
    (lag : 1000 * s.env.limits.lagLimit < chebyshev head.pos (s.followed first b vel head rest).pln.pos) :
    (s.followed first b vel head rest).pln.stream.state = .idle ∧
      (s.followed first b vel head rest).pln.stream.samples = [] ∧
      ((s.followed first b vel head rest).flag .streamLag).set = true := by
  rw [followed_pos] at lag
  unfold State.followed
  dsimp only
  rw [told_pln, flownSample, commitSample_pln, if_pos lag]
  exact ⟨rfl, rfl, report_flag_set (f := .streamLag) rfl 0 none _⟩

/-- A sample within the limit, of a stream that does not end, leaves what is left of the buffer (R117, R118). -/
theorem followed_plays
    (near : chebyshev head.pos (s.followed first b vel head rest).pln.pos ≤ 1000 * s.env.limits.lagLimit)
    (goesOn : ¬ (s.pln.stream.state = .ending ∧ rest = [])) :
    (s.followed first b vel head rest).fcu = b.fcu ∧
      (s.followed first b vel head rest).pln.stream.state = b.pln.stream.state ∧
      (s.followed first b vel head rest).pln.stream.samples = rest := by
  rw [followed_pos] at near
  obtain ⟨low, critical, high, handed, hb⟩ := State.popped_keeps rest b
  unfold State.followed
  dsimp only
  rw [told_pln, flownSample, commitSample_pln, if_neg (not_lt.mpr near), if_neg goesOn, told_pln, told_fcu,
    commitSample_fcu, commitSample_pln, hb]
  exact ⟨rfl, rfl, rfl⟩

end

/-! ## The axis stop -/

section
variable (s : State) (rate : Nat) (b : State)

/-- An axis stop leaves the stream as it was when the sample was prepared, and every set flag set (R103, R120, R122). -/
theorem slowed_keeps : (s.slowed rate b).pln.stream = b.pln.stream ∧ b.KeepsFlags (s.slowed rate b) := by
  have flown : (flownSample s .stopping b (s.softened s.pln.vel Vec3.zero rate)).pln.stream = b.pln.stream := by
    rw [flownSample, commitSample_pln]
  have flags := commitSample_keepsFlags s .stopping b (s.softened s.pln.vel Vec3.zero rate)
    (s.stepped (s.softened s.pln.vel Vec3.zero rate))
  unfold State.slowed
  dsimp only
  split
  · refine ⟨flown, flags.trans ?_⟩
    split <;> exact .of_flags rfl
  · exact ⟨flown, flags⟩

/-- At rest an axis stop ends in HOLD where the carrier is, with its cause; before it goes on (R61). -/
theorem slowed_outcome :
    ((s.slowed rate b).pln.vel = Vec3.zero →
      (s.slowed rate b).fcu = { b.fcu with flight := .hold } ∧ (s.slowed rate b).pln.holdPos = (s.slowed rate b).pln.pos) ∧
    ((s.slowed rate b).pln.vel ≠ Vec3.zero → (s.slowed rate b).fcu = b.fcu) := by
  have fcu : (flownSample s .stopping b (s.softened s.pln.vel Vec3.zero rate)).fcu = b.fcu := by
    rw [flownSample, commitSample_fcu]
  unfold State.slowed
  dsimp only
  rw [fcu]
  split
  · exact ⟨fun _ => ⟨rfl, rfl⟩, fun moving => absurd rfl moving⟩
  · next moving => exact ⟨fun still => absurd still moving, fun _ => fcu⟩

end

/-- An empty buffer in STREAM ends the stream, while PLAYING with STREAM_UNDERRUN (R120, R122). -/
theorem planSample_emptied {start : Bool} {s : State} (h : s.fcu.flight = .stream) (hs : s.pln.stream.samples = []) :
    (planSample start s).pln.stream.state = .idle ∧
      (s.pln.stream.state = .playing → ((planSample start s).flag .streamUnderrun).set = true) := by
  by_cases hp : s.pln.stream.state = .playing
  · obtain ⟨stream, flags⟩ := slowed_keeps s (stepStream s) (underrun s)
    rw [planSample_underrun h hs hp, stream]
    exact ⟨rfl, fun _ => flags _ (report_flag_set (f := .streamUnderrun) rfl 0 none s)⟩
  · obtain ⟨stream, -⟩ := slowed_keeps s (stepStream s) (endStream s)
    rw [planSample_slowed (prepareSample_streamEnd h hs hp) rfl rfl rfl rfl rfl, stream]
    exact ⟨rfl, fun playing => absurd playing hp⟩

/-! ## Refused play -/

section
variable {start : Bool} {s : State} (h : s.fcu.flight = .hold) (plays : startsPlay start s = true)
include h plays

/-- Play refused on an empty buffer cancels the stream and sets STREAM_UNDERRUN (R115). -/
theorem planSample_play_empty_outcome (hs : s.pln.stream.samples = []) :
    (planSample start s).pln.stream.state = .idle ∧ ((planSample start s).flag .streamUnderrun).set = true := by
  rw [planSample_play_empty h plays hs]
  refine ⟨?_, commitSample_keepsFlags _ _ _ _ _ _ (report_flag_set (f := .streamUnderrun) rfl 0 none s)⟩
  rw [commitSample_pln]
  rfl

variable {head : Sample} {rest : List Sample} (hs : s.pln.stream.samples = head :: rest)
include hs

/-- Play refused by the join cancels the stream (R115). -/
theorem planSample_play_far_outcome (far : 1000 * s.env.limits.joinTol < chebyshev head.pos s.pln.holdPos) :
    (planSample start s).pln.stream.state = .idle ∧ (planSample start s).pln.stream.samples = [] := by
  rw [planSample_play_far h plays hs far, commitSample_pln]
  exact ⟨rfl, rfl⟩

end

/-! ## The path stop -/

theorem stopStep_still {m : MoveInHand} {rate : Nat} (hv : m.speed - rate = 0) (ts : Nat) :
    stopStep ts rate m = { m with speed := 0 } := if_pos hv

theorem stopStep_moves {m : MoveInHand} {rate : Nat} (hv : m.speed - rate ≠ 0) (ts : Nat) :
    stopStep ts rate m = advanceHand m (m.speed - rate) (pathStep (m.speed - rate) (m.dist - m.prog) ts) := if_neg hv

/-- A path stop at rest ends in HOLD (R84). -/
theorem planSample_pathRest {start : Bool} {s : State} {rate : Nat} {m : MoveInHand} (h : s.fcu.flight = .stopping)
    (hs : s.pln.stop = some ⟨.path, rate⟩) (hm : s.pln.inHand = some m) (hv : m.speed - rate = 0) :
    (planSample start s).fcu.flight = .hold := by
  have stopped : (preparePathStop rate m s).state.pln.inHand = some { m with speed := 0 } := by
    rw [← stopStep_still hv s.fru.timing.ts]
    rfl
  rw [planSample_prepared (prepareSample_pathStop h hs hm)]
  generalize he : commitSample s _ _ _ _ = e
  have hand : e.pln.inHand = some { m with speed := 0 } := by rw [← he, commitSample_pln, ← stopped]
  show (if (preparePathStop rate m s).struck then strikeEnd e
    else e.pln.inHand.elim e fun m => concludePath .pathStop m e).fcu.flight = .hold
  split
  · rfl
  · rw [hand]
    rfl

end Sys2Proof.Machine
end

section
/-! The samples committed at servo events (R41, R43, R44, R61, R77 to R80, R84, R99, R100, R103, R115 to R123). -/

namespace Sys2Proof.Machine

open Sys2Proof

/-! ## Candidates, from a state that plans the same sample -/

namespace State.SamePlan

variable {s c b : State} (h : s.SamePlan c)
include h

/-- A path sample's candidate (R77, R78). -/
theorem movingPoint (m : MoveInHand) :
    (prepareMoving m c).cand =
      pathPoint m.start (toMicrons m.move.target)
        (profileStep s.fru.timing.ts (s.env.ceilingAt s.pln.pos (tensionWarning s)) m).prog m.dist := by
  rw [← h.timing, ← h.env, ← h.pos, ← h.warning]
  rfl

/-- A follower sample's candidate (R117). -/
theorem followCand (first : Bool) (head : Sample) (rest : List Sample) (env : b.env = c.env) (ch : b.ch = c.ch)
    (fru : b.fru = c.fru) (pos : b.pln.pos = c.pln.pos) {v : Vec3} (vel : b.pln.vel = v) :
    (prepareFollow first head rest b).cand = s.stepped (s.followVel v head.pos) := by
  rw [← vel, prepareFollow_eq first head rest env ch fru pos, h.followVel, h.stepped]

/-- An axis stop's candidate (R103, R123). -/
theorem fallCand (rate : Nat) (env : b.env = c.env) (fru : b.fru = c.fru) (pos : b.pln.pos = c.pln.pos)
    (vel : b.pln.vel = s.pln.vel) :
    (prepareAxisStop rate b).cand = s.stepped (s.softened s.pln.vel Vec3.zero rate) := by
  rw [← vel, ← h.softened, ← h.stepped]
  unfold State.stepped State.softened
  rw [← env, ← fru, ← pos]
  rfl

/-- A path stop's candidate at rest (R84). -/
theorem restCand {m : MoveInHand} {rate : Nat} (hv : m.speed - rate = 0) : (preparePathStop rate m c).cand = s.pln.pos := by
  simp only [preparePathStop, stopStep_still hv, if_true, h.pos]

/-- A path stop's candidate while it moves (R84). -/
theorem stopPoint {m : MoveInHand} {rate : Nat} (hv : m.speed - rate ≠ 0) :
    (preparePathStop rate m c).cand =
      pathPoint m.start (toMicrons m.move.target)
        (m.prog + min (m.dist - m.prog) (max 1 (roundNat ((m.speed - rate) * s.fru.timing.ts) 1000000))) m.dist := by
  simp only [preparePathStop, stopStep_moves hv]
  rw [← h.timing]
  exact if_neg hv

end State.SamePlan

/-! ## A servo event, by flight state -/

/-- A candidate committed from the position before it (R40). -/
def State.places (s t : State) (cand : Vec3) : Prop := t.pln.pos = s.env.hardClamp s.pln.pos cand

/-- The servo event at which a PRIMED stream starts (R115). -/
def State.startsNow (s : State) : Prop :=
  s.fru.frameIndex = 0 ∧ s.fru.frames < 4294967295 ∧ s.fru.frames + 1 = s.pln.stream.startFrame

namespace State.Plans

variable {s c t : State} (e : s.Plans c t)
include e

theorem flight : c.fcu.flight = s.fcu.flight := by rw [e.same.fcu]

/-- The event commits the candidate of the sample planned (R40). -/
theorem places {q : Prepared} {cand : Vec3} (h : prepareSample (decide (s.fru.frameIndex = 0)) c = some q)
    (hq : q.cand = cand) : s.places t cand := by
  subst hq
  rw [State.places, e.kept.pos, planSample_pos h, e.same.env, e.same.pos]

theorem rest (h : producesSamples s.fcu.flight = false) : t.pln.pos = s.pln.pos := by
  rw [e.kept.pos, planSample_of_rest (by rwa [e.flight]), e.same.pos]

/-- A stick sample (R99, R100). -/
theorem stick (h : s.fcu.flight = .stick) :
    s.places t (s.stepped s.stickVel) ∧
      (s.calm → t.fcu.flight = .stick ∧ t.pln.vel = restClamped (s.stepped s.stickVel) t.pln.pos s.stickVel) := by
  refine ⟨?_, fun hc => ?_⟩
  · rw [← e.same.stickVel, ← e.same.stepped]
    exact e.places (prepareSample_stick (e.flight.trans h)) rfl
  · obtain ⟨fcu, vel⟩ := planSample_stick_outcome (start := decide (s.fru.frameIndex = 0)) (e.flight.trans h)
    rw [(e.quiet hc).fcu, (e.quiet hc).pln, vel, fcu, e.same.stickVel, e.same.stepped]
    exact ⟨e.flight.trans h, rfl⟩

/-- A follower sample (R117, R119). -/
theorem follow {head : Sample} {rest : List Sample} (h : s.fcu.flight = .stream) (hs : s.pln.stream.samples = head :: rest) :
    s.places t (s.stepped (s.followVel s.pln.vel head.pos)) ∧
      (1000 * s.env.limits.lagLimit < chebyshev head.pos t.pln.pos →
        t.pln.stream.state = .idle ∧ t.pln.stream.samples = [] ∧ (t.flag .streamLag).set = true) := by
  have prepared := prepareSample_follow (start := decide (s.fru.frameIndex = 0)) (e.flight.trans h)
    ((congrArg Stream.samples e.same.stream).trans hs)
  refine ⟨e.places prepared (e.same.followCand _ _ _ rfl rfl rfl rfl e.same.vel), fun lag => ?_⟩
  have planned := planSample_followed prepared rfl rfl rfl rfl (e.flight.trans h) Iff.rfl
  have kept := e.kept
  rw [planned] at kept
  rw [kept.pos, ← e.same.env] at lag
  obtain ⟨idle, empty, flag⟩ := followed_lag _ _ _ _ _ _ lag
  exact ⟨kept.idle idle, kept.empty empty, kept.flags _ flag⟩

/-- An empty buffer in STREAM (R120, R122). -/
theorem emptied (h : s.fcu.flight = .stream) (hs : s.pln.stream.samples = []) :
    s.places t (s.stepped (s.softened s.pln.vel Vec3.zero (stepStream s))) ∧ t.pln.stream.state = .idle ∧
      (s.pln.stream.state = .playing → (t.flag .streamUnderrun).set = true) := by
  have empty : c.pln.stream.samples = [] := by rw [e.same.stream, hs]
  obtain ⟨idle, under⟩ := planSample_emptied (start := decide (s.fru.frameIndex = 0)) (e.flight.trans h) empty
  refine ⟨?_, e.kept.idle idle, fun hp => e.kept.flags _ (under (by rw [e.same.stream, hp]))⟩
  rw [← e.same.stepStream]
  by_cases hp : c.pln.stream.state = .playing
  · obtain ⟨flt, handed, started⟩ := underrun_eq c
    exact e.places (prepareSample_underrun (e.flight.trans h) empty hp)
      (e.same.fallCand _ (by rw [started]) (by rw [started]) (by rw [started]) (by rw [started]; exact e.same.vel))
  · exact e.places (prepareSample_streamEnd (e.flight.trans h) empty hp) (e.same.fallCand _ rfl rfl rfl e.same.vel)

/-- A sample of an axis stop (R61, R103, R123). -/
theorem axisStop {rate : Nat} (h : s.fcu.flight = .stopping) (hs : s.pln.stop = some ⟨.axis, rate⟩) :
    s.places t (s.stepped (s.softened s.pln.vel Vec3.zero rate)) ∧
      (s.calm →
        (t.pln.vel = Vec3.zero → t.fcu.flight = .hold ∧ t.fcu.cause = s.fcu.cause ∧ t.pln.holdPos = t.pln.pos) ∧
        (t.pln.vel ≠ Vec3.zero → t.fcu.flight = .stopping)) := by
  have prepared := prepareSample_axisStop (start := decide (s.fru.frameIndex = 0)) (e.flight.trans h) (e.same.stop.trans hs)
  refine ⟨e.places prepared (e.same.fallCand rate rfl rfl rfl e.same.vel), fun hc => ?_⟩
  have planned := planSample_slowed prepared rfl rfl rfl rfl (e.flight.trans h)
  obtain ⟨still, moving⟩ := slowed_outcome c rate c
  rw [(e.quiet hc).fcu, (e.quiet hc).pln, planned]
  refine ⟨fun hv => ?_, fun hv => ?_⟩
  · obtain ⟨fcu, hold⟩ := still hv
    exact ⟨by rw [fcu], by rw [fcu, e.same.fcu], hold⟩
  · rw [moving hv, e.flight, h]

/-! ### A PRIMED stream -/

section
variable (h : s.fcu.flight = .hold) (hs : s.pln.stream.state = .primed)
include h hs

omit h in
/-- Play starts at the event exactly where it does at the state the sample is planned from, the count not exhausted (R115). -/
theorem plays_iff (lt : s.fru.frames < 4294967295) :
    startsPlay (decide (s.fru.frameIndex = 0)) c = true ↔ s.startsNow := by
  rw [startsPlay_iff, e.same.stream, decide_eq_true_iff, e.frames]
  constructor
  · rintro ⟨first, -, due⟩
    rw [if_pos ⟨first, lt⟩] at due
    exact ⟨first, lt, due⟩
  · rintro ⟨first, -, due⟩
    exact ⟨first, hs, (if_pos ⟨first, lt⟩).trans due⟩

/-- Before its frame start the stream waits (R44, R115). -/
theorem primed_waits (no : ¬ s.startsNow) (lt : s.fru.frames < 4294967295) :
    s.places t s.pln.holdPos ∧ (s.calm → t.pln.stream = s.pln.stream) := by
  have prepared := prepareSample_hold (e.flight.trans h) fun yes => no ((e.plays_iff hs lt).mp yes)
  refine ⟨e.places prepared e.same.holdPos, fun hc => ?_⟩
  rw [(e.quiet hc).pln, planSample_rest prepared rfl, commitSample_pln, e.same.stream]

variable (now : s.startsNow)
include now

omit h in
theorem plays : startsPlay (decide (s.fru.frameIndex = 0)) c = true := (e.plays_iff hs now.2.1).mpr now

/-- Play refused on an empty buffer (R115). -/
theorem play_empty (he : s.pln.stream.samples = []) :
    s.places t s.pln.holdPos ∧ t.pln.stream.state = .idle ∧ (t.flag .streamUnderrun).set = true := by
  have empty : c.pln.stream.samples = [] := by rw [e.same.stream, he]
  obtain ⟨idle, flag⟩ := planSample_play_empty_outcome (e.flight.trans h) (e.plays hs now) empty
  have prepared := prepareSample_play (e.flight.trans h) (e.plays hs now)
  rw [prepareStartOfPlay_empty empty] at prepared
  refine ⟨e.places prepared ?_, e.kept.idle idle, e.kept.flags _ flag⟩
  obtain ⟨flt, handed, hr⟩ := report_eq_of_not_trip (f := .streamUnderrun) rfl 0 none c
  rw [hr]
  exact e.same.holdPos

variable {head : Sample} {rest : List Sample} (hd : s.pln.stream.samples = head :: rest)
include hd

/-- Play refused by the join (R115). -/
theorem play_far (far : 1000 * s.env.limits.joinTol < chebyshev head.pos s.pln.holdPos) :
    s.places t s.pln.holdPos ∧ t.pln.stream.state = .idle ∧ t.pln.stream.samples = [] := by
  have samples : c.pln.stream.samples = head :: rest := by rw [e.same.stream, hd]
  rw [← e.same.env, ← e.same.holdPos] at far
  obtain ⟨idle, empty⟩ := planSample_play_far_outcome (e.flight.trans h) (e.plays hs now) samples far
  have prepared := prepareSample_play (e.flight.trans h) (e.plays hs now)
  rw [prepareStartOfPlay_far samples far] at prepared
  exact ⟨e.places prepared e.same.holdPos, e.kept.idle idle, e.kept.empty empty⟩

/-- Play begins (R116). -/
theorem play_near (near : chebyshev head.pos s.pln.holdPos ≤ 1000 * s.env.limits.joinTol) :
    s.places t (s.stepped (s.followVel Vec3.zero head.pos)) ∧
      (s.calm → chebyshev head.pos t.pln.pos ≤ 1000 * s.env.limits.lagLimit →
        t.fcu.flight = .stream ∧ t.pln.stream.state = .playing ∧ t.pln.stream.samples = rest) := by
  rw [← e.same.env, ← e.same.holdPos] at near
  have prepared := prepareSample_play_near (e.flight.trans h) (e.plays hs now)
    ((congrArg Stream.samples e.same.stream).trans hd) near
  refine ⟨e.places prepared (e.same.followCand (b := c.playBegun) _ _ _ rfl rfl rfl rfl rfl), fun hc close => ?_⟩
  have primed : c.pln.stream.state ≠ .ending := by rw [e.same.stream, hs]; decide
  have planned := planSample_followed (b := c.playBegun) prepared rfl rfl rfl rfl rfl ⟨nofun, fun ending => absurd ending primed⟩
  rw [(e.quiet hc).pln, planned, ← e.same.env] at close
  obtain ⟨fcu, playing, left⟩ := followed_plays _ _ _ _ _ _ close fun ending => primed ending.1
  rw [(e.quiet hc).fcu, (e.quiet hc).pln, planned, fcu]
  exact ⟨rfl, playing, left⟩

end

end State.Plans

/-- Settles O44: each flight state's sample is the commitment of its candidate, and its conclusion is the model's; a servo event
plans it from the state as it stood, and a third miss keeps its outcome. -/
theorem samplesCommitted : Obligations.SamplesCommitted := by
  refine ⟨?_, ?_⟩
  · intro s t hn ht p ts l ceiling commits toward limited moved per calm stick falls follows
    obtain ⟨c, e⟩ := servoEvent_plans hn ht
    have stick_eq : stick = s.stickVel := rfl
    have falls_eq : falls = s.softened s.pln.vel Vec3.zero := rfl
    have follows_eq : follows = s.followVel := rfl
    have moved_eq : moved = s.stepped := rfl
    rw [moved_eq, stick_eq, falls_eq, follows_eq]
    refine ⟨e.rest, fun h => e.places (prepareSample_arming (e.flight.trans h)) e.same.holdPos, fun h hs => ?_,
      fun m h hm => ⟨fun hp => ?_, fun hp => ?_⟩, e.stick, fun head rest => e.follow, e.emptied, fun h hs => ?_,
      fun rate => e.axisStop, fun rate m h hs hm => ?_⟩
    · refine e.places (prepareSample_hold (e.flight.trans h) ?_) e.same.holdPos
      rw [startsPlay_iff, e.same.stream]
      exact fun ⟨_, primed, _⟩ => hs primed
    · exact e.places (prepareSample_moving (e.flight.trans h) (e.same.inHand.trans hm) hp) (e.same.movingPoint m)
    · exact e.places (prepareSample_dwelling (e.flight.trans h) (e.same.inHand.trans hm) hp) rfl
    · exact ⟨e.primed_waits h hs, e.play_empty h hs, fun head rest now hd => ⟨e.play_far h hs now hd, e.play_near h hs now hd⟩⟩
    · have prepared := prepareSample_pathStop (start := decide (s.fru.frameIndex = 0)) (e.flight.trans h) (e.same.stop.trans hs)
        (e.same.inHand.trans hm)
      refine ⟨fun hv => ⟨e.places prepared (e.same.restCand hv), fun hc => ?_⟩,
        fun hv => e.places prepared (e.same.stopPoint hv.ne')⟩
      rw [(e.quiet hc).fcu]
      exact planSample_pathRest (e.flight.trans h) (e.same.stop.trans hs) (e.same.inHand.trans hm) hv
  · intro s start p ts l c toward limited per axes commit flown capped cancelled stops rests follows slows gives plays
    have follows_eq : follows = s.followed := rfl
    have slows_eq : slows = s.slowed := rfl
    refine ⟨planSample_of_rest, fun h => ?_, planSample_stick, fun h => ⟨fun head rest hs => ?_, fun hs hp => ?_⟩,
      fun h => ⟨fun hp => ?_, fun hp hs => ?_,
        fun head rest hp hs => ⟨fun hx => ?_, fun hx hy => ?_, fun hx hy hz => ?_, fun near => ?_⟩⟩,
      fun rate h hs => ?_⟩
    · exact planSample_rest (prepareSample_arming h) rfl
    · rw [follows_eq]
      exact planSample_followed (prepareSample_follow h hs) rfl rfl rfl rfl h Iff.rfl
    · rw [slows_eq]
      exact planSample_underrun h hs hp
    · exact planSample_rest (prepareSample_hold h (by rwa [startsPlay_iff])) rfl
    · refine (planSample_play_empty h ((startsPlay_iff start s).mpr hp) hs).trans ?_
      rw [← h]
      rfl
    · refine (planSample_play_far h ((startsPlay_iff start s).mpr hp) hs ((lt_chebyshev_iff _ _ _).mpr ⟨.x, hx⟩)).trans ?_
      rw [joinAxis_of_x hx, ← h]
      rfl
    · refine (planSample_play_far h ((startsPlay_iff start s).mpr hp) hs ((lt_chebyshev_iff _ _ _).mpr ⟨.y, hy⟩)).trans ?_
      rw [joinAxis_of_y hx hy, ← h]
      rfl
    · refine (planSample_play_far h ((startsPlay_iff start s).mpr hp) hs ((lt_chebyshev_iff _ _ _).mpr ⟨.z, hz⟩)).trans ?_
      rw [joinAxis_of_z hx hy, ← h]
      rfl
    · have close := prepareSample_play_near h ((startsPlay_iff start s).mpr hp) hs
        (not_lt.mp fun far => absurd ((lt_chebyshev_iff _ _ _).mp far) (by simpa using near))
      rw [follows_eq]
      exact planSample_followed close rfl rfl rfl rfl rfl (by rw [hp.2.1]; exact ⟨nofun, nofun⟩)
    · rw [slows_eq]
      exact planSample_slowed (prepareSample_axisStop h hs) rfl rfl rfl rfl h

end Sys2Proof.Machine
end

section
/-! A servo event without a third miss, block by block, and what the path samples conclude (R41, R61, R77 to R81, R84, R139, R144,
R150). -/

namespace Sys2Proof.Machine

open Sys2Proof

/-! ## The event -/

theorem handFramePose_ch (s : State) (ch : Ch) : handFramePose { s with ch := ch } = { handFramePose s with ch := ch } := by
  unfold handFramePose
  dsimp only
  split <;> rfl

theorem handFramePose_fru (s : State) : (handFramePose s).fru = s.fru := by
  unfold handFramePose
  dsimp only
  split <;> rfl

/-- The notices of FRU itself at a servo event: REFERENCE_LOCKED where a pull completes (R144). -/
def pullNotice (s u : State) : State :=
  if s.fru.ref = .pulling ∧ s.fru.pullLeft = 0 then notice .referenceLocked 1 u else u

/-- What follows the sample, without a third miss, is FRU's, the channels' and the notices' alone (R139, R144, R149). -/
theorem finishServo_calm {index : Nat} {stale : Quad Bool} {u : State} (h : u.calm) :
    ∃ fru ch, finishServo index stale completePull u = { pullNotice u u with fru := fru, ch := ch } := by
  have whole := finishServo_completePull index stale u
  rw [runChannels_calm h] at whole
  refine ⟨(finishServo index stale completePull u).fru, (onAllChans (fun c => c.close.send) u).ch, whole.trans ?_⟩
  unfold pullNotice
  split <;> rfl

/-- The sample keeps the reference and its pull (R144). -/
theorem planSample_pullNotice (start : Bool) (due : Nat) (s v : State) :
    pullNotice (planSample start (countFrame start (advanceTo due s))) v = pullNotice s v := by
  obtain ⟨-, fru, -⟩ := planSample_keeps start (countFrame start (advanceTo due s))
  unfold pullNotice
  rw [fru, countFrame_eq]
  split <;> rfl

/-- A servo event without a third miss (R139, R144, R150). -/
theorem raiseServo_calm {s : State} (h : s.calm) (index due : Nat) :
    let start := decide (index = 0)
    let u := planSample start (countFrame start (advanceTo due s))
    ∃ fru ch, raiseServo index completePull (advanceTo due s) =
      { (if start = true then handFramePose { pullNotice s u with fru := fru } else { pullNotice s u with fru := fru }) with
        ch := ch } := by
  intro start u
  obtain ⟨fru, ch, finished⟩ := finishServo_calm (index := index) (stale := staleFlags (advanceTo due s))
    (planSample_calm (start := start) (countFrame_calm (advanceTo_calm h due) start))
  rw [planSample_pullNotice] at finished
  refine ⟨fru, ch, ?_⟩
  unfold raiseServo
  dsimp only
  rw [finished]
  split
  · exact handFramePose_ch { pullNotice s u with fru := fru } ch
  · rfl

/-- The notices delivered at the end of the event do not depend on the channels (R150, R206). -/
theorem deliver_link_eq (start : Bool) (v : State) (fru : Fru) (ch : Ch) :
    let t := deliver { (if start = true then handFramePose { v with fru := fru } else { v with fru := fru }) with ch := ch }
    t.link = (deliver (if start = true then handFramePose { v with fru := t.fru } else v)).link := by
  cases start with
  | false => rfl
  | true =>
    intro t
    have kept : t.fru = fru := handFramePose_fru { v with fru := fru }
    rw [kept]
    rfl

/-! ## Path samples -/

/-- A path sample's ground: the move in hand as the step leaves it, and the ceiling computed (R36, R77). -/
def State.withHand (s : State) (env : Env) (hand : MoveInHand) : State :=
  { s with env := env, pln := { s.pln with inHand := some hand } }

/-- A path sample committed. -/
def pathSample (s : State) (flight : FlightState) (env : Env) (hand : MoveInHand) (cand : Vec3) : State :=
  commitSample s flight (s.withHand env hand) s.pln.vel cand

theorem pathSample_fcu (s : State) (flight : FlightState) (env : Env) (hand : MoveInHand) (cand : Vec3) :
    (pathSample s flight env hand cand).fcu = s.fcu := commitSample_fcu _ _ _ _ _

theorem pathSample_pos (s : State) (flight : FlightState) (env : Env) (hand : MoveInHand) (cand : Vec3) :
    (pathSample s flight env hand cand).pln.pos = s.env.hardClamp s.pln.pos cand := by rw [pathSample, commitSample_pln]

theorem pathSample_inHand (s : State) (flight : FlightState) (env : Env) (hand : MoveInHand) (cand : Vec3) :
    (pathSample s flight env hand cand).pln.inHand = some hand := by
  rw [pathSample, commitSample_pln]
  rfl

/-- The kinds of a path sample. -/
def SampleKind.onPath : SampleKind → Bool
  | .moving => true
  | .dwelling => true
  | .pathStop => true
  | _ => false

/-- A path sample concludes for the move in hand, unless the clamp struck (R41, R79, R80, R84). -/
theorem conclude_onPath {kind : SampleKind} (hk : kind.onPath = true) {e : State} {hand : MoveInHand}
    (hh : e.pln.inHand = some hand) (struck : Bool) :
    conclude kind struck e = if struck then strikeEnd e else concludePath kind hand e := by
  cases kind with
  | moving | dwelling | pathStop => simp only [conclude, hh, Option.elim_some]
  | rest | stick | follow | axisStop => cases hk

section
variable {start : Bool} {s : State} {kind : SampleKind} {cand : Vec3} {env : Env} {hand : MoveInHand}
  (h : prepareSample start s = some ⟨kind, cand, s.withHand env hand⟩) (hk : kind.onPath = true)
include h hk

theorem planSample_onPath :
    planSample start s =
      if s.env.hardClamp s.pln.pos cand ≠ cand then strikeEnd (pathSample s s.fcu.flight env hand cand)
      else concludePath kind hand (pathSample s s.fcu.flight env hand cand) := by
  rw [planSample_prepared h]
  refine (conclude_onPath hk (pathSample_inHand s s.fcu.flight env hand cand) _).trans ?_
  simp only [struck_iff h]

/-- A path sample the clamp changed (R41). -/
theorem planSample_struck {flight : FlightState} (hf : s.fcu.flight = flight)
    (hit : (pathSample s flight env hand cand).pln.pos ≠ cand) :
    planSample start s = strikeEnd (pathSample s flight env hand cand) := by
  rw [pathSample_pos] at hit
  rw [planSample_onPath h hk, if_pos hit, hf]

/-- A path sample the clamp left (R79, R80, R84). -/
theorem planSample_unstruck {flight : FlightState} (hf : s.fcu.flight = flight)
    (free : (pathSample s flight env hand cand).pln.pos = cand) :
    planSample start s = concludePath kind hand (pathSample s flight env hand cand) := by
  rw [pathSample_pos] at free
  rw [planSample_onPath h hk, if_neg (not_not.mpr free), hf]

end

/-! ## What they conclude -/

/-- A path stop's sample, by whether it is at rest (R30, R84). -/
theorem preparePathStop_eq (rate : Nat) (m : MoveInHand) (s : State) :
    preparePathStop rate m s =
      ⟨.pathStop,
        if m.speed - rate = 0 then s.pln.pos
        else pathPoint m.start (toMicrons m.move.target)
          (m.prog + min (m.dist - m.prog) (max 1 (roundNat ((m.speed - rate) * s.fru.timing.ts) 1000000))) m.dist,
        s.withHand s.env (stopStep s.fru.timing.ts rate m)⟩ := by
  unfold preparePathStop
  by_cases hv : m.speed - rate = 0
  · rw [if_pos hv, stopStep_still hv]
    rfl
  · rw [if_neg hv, stopStep_moves hv]
    exact congrArg (fun cand => (⟨.pathStop, cand, _⟩ : Prepared)) (if_neg hv)

theorem concludePath_still {m : MoveInHand} {rate ts : Nat} (hv : m.speed - rate = 0) (e : State) :
    concludePath .pathStop (stopStep ts rate m) e = stopRested { m with speed := 0 } e := by
  rw [stopStep_still hv]
  rfl

theorem concludePath_moves {m : MoveInHand} {rate ts : Nat} (hv : m.speed - rate ≠ 0) (e : State) :
    concludePath .pathStop (stopStep ts rate m) e =
      if m.prog + pathStep (m.speed - rate) (m.dist - m.prog) ts = m.dist then
        stopArrived (advanceHand m (m.speed - rate) (pathStep (m.speed - rate) (m.dist - m.prog) ts)) e
      else e := by
  rw [stopStep_moves hv]
  exact if_neg hv

/-- HOLD entered with a move left in hand, from a state whose FCU is another's (R44, R61). -/
def holdsWith (s : State) (cause : StopCause) (hand : Option MoveInHand) (e : State) : State :=
  notice .holding cause.code.toNat { e with
    fcu := { s.fcu with flight := .hold, cause := cause }
    pln := { e.pln with inHand := hand, holdPos := e.pln.pos, vel := Vec3.zero, stop := none }
    mrk := { e.mrk with holdPending := false } }

section
variable {s e : State} (h : e.fcu = s.fcu)
include h

/-- The clamp on a path (R41). -/
theorem strikeEnd_eq : strikeEnd e = holdsWith s .wallStrike none { e with pln := { e.pln with queue := [] } } := by
  unfold holdsWith
  rw [← h]
  rfl

/-- A path stop at rest suspends its move (R84). -/
theorem stopRested_suspends {m : MoveInHand} (hm : m.phase ≠ .abandoned) :
    stopRested m e = holdsWith s s.fcu.cause (some m.suspend) e := by
  unfold holdsWith stopRested
  rw [if_neg hm, ← h]
  rfl

/-- A path stop at rest drops an abandoned move (R30). -/
theorem stopRested_drops {m : MoveInHand} (hm : m.phase = .abandoned) : stopRested m e = holdsWith s s.fcu.cause none e := by
  unfold holdsWith stopRested
  rw [if_pos hm, ← h]
  rfl

/-- A path stop that arrives ends its move (R84). -/
theorem stopArrived_eq (m : MoveInHand) :
    stopArrived m e =
      holdsWith s s.fcu.cause none
        (if m.phase ≠ .abandoned ∧ m.move.notifyDone = true then moveNotice .moveDone m.move e else e) := by
  unfold holdsWith stopArrived
  rw [← h]
  dsimp only
  split <;> rfl

end

/-- Settles O45: the event leaves the sample's blocks, and each path sample is its commitment and its conclusion, both in the
model's own order. -/
theorem pathSamplesConclude : Obligations.PathSamplesConclude := by
  refine ⟨fun s due _ hdue hc => ?_, ?_⟩
  · intro a start u v
    have planned : u = planSample start (countFrame start a) := congrArg (planSample start) (countFrame_eq start a).symm
    obtain ⟨fru, ch, raised⟩ := raiseServo_calm hc s.fru.frameIndex due
    have blocks := (raiseServo_sameBlocks s.fru.frameIndex a).trans (deliver_sameBlocks _)
    rw [← planned, runChannels_calm (planned ▸ planSample_calm (countFrame_calm (advanceTo_calm hc due) start))] at blocks
    have sol : u.sol = s.sol := by
      obtain ⟨keeps, -⟩ := planSample_keeps start (countFrame start a)
      rw [planned, keeps, countFrame_eq]
      split <;> rfl
    refine ⟨_, exec_servoEvent hdue, blocks.fcu, blocks.pln, blocks.env, blocks.sol.trans sol, blocks.mrk, blocks.flt,
      blocks.sto, ?_⟩
    rw [raised, ← planned]
    exact deliver_link_eq start v fru ch
  · intro s start m hm p ts ceiling target committed holds strikes gives
    refine ⟨fun hf hp => ?_, fun hf hp => ?_, fun rate hf hs => ?_⟩
    · intro m' cand e
      have prepared : prepareSample start s = some ⟨.moving, cand, s.withHand { s.env with ceiling := ceiling } m'⟩ :=
        prepareSample_moving hf hm hp
      have fcu : e.fcu = s.fcu := pathSample_fcu _ _ _ _ _
      refine ⟨fun hit => ?_, fun free going => ?_, fun free arrived => ?_⟩
      · exact (planSample_struck prepared rfl hf hit).trans (strikeEnd_eq fcu)
      · exact (planSample_unstruck prepared rfl hf free).trans (if_neg going)
      · exact (planSample_unstruck prepared rfl hf free).trans (if_pos arrived)
    · intro left e
      have prepared : prepareSample start s =
          some ⟨.dwelling, target, s.withHand { s.env with ceiling := ceiling } { m with dwellLeft := left }⟩ :=
        prepareSample_dwelling hf hm hp
      have fcu : e.fcu = s.fcu := pathSample_fcu _ _ _ _ _
      refine ⟨fun hit => ?_, fun free going => ?_, fun free done => ?_⟩
      · exact (planSample_struck prepared rfl hf hit).trans (strikeEnd_eq fcu)
      · exact (planSample_unstruck prepared rfl hf free).trans (if_neg going)
      · exact (planSample_unstruck prepared rfl hf free).trans (if_pos done)
    · intro v prog m' cand e
      have prepared : prepareSample start s = some ⟨.pathStop, cand, s.withHand s.env m'⟩ :=
        (prepareSample_pathStop hf hs hm).trans (congrArg some (preparePathStop_eq rate m s))
      have fcu : e.fcu = s.fcu := pathSample_fcu _ _ _ _ _
      refine ⟨fun hit => ?_, fun free => ⟨fun still hp => ?_, fun still hp => ?_, fun moves arrived => ?_, fun moves going => ?_⟩⟩
      · exact (planSample_struck prepared rfl hf hit).trans (strikeEnd_eq fcu)
      · refine (planSample_unstruck prepared rfl hf free).trans ((concludePath_still still e).trans ?_)
        exact stopRested_suspends fcu hp
      · refine (planSample_unstruck prepared rfl hf free).trans ((concludePath_still still e).trans ?_)
        exact stopRested_drops fcu hp
      · refine (planSample_unstruck prepared rfl hf free).trans ((concludePath_moves moves e).trans ?_)
        exact (if_pos arrived).trans (stopArrived_eq fcu _)
      · exact (planSample_unstruck prepared rfl hf free).trans ((concludePath_moves moves e).trans (if_neg going))

end Sys2Proof.Machine
end

section
/-! The channel laws (R54, R56, R63, R174): what every operation keeps of the channels' states and of the setting operation. -/

namespace Sys2Proof.Machine

open Sys2Proof

/-! ## The relation -/

/-- The states in which a channel's drive is released or asked to release (R154). -/
def ChanState.moves : ChanState → Bool
  | .releasing => true
  | .streaming => true
  | _ => false

theorem ChanState.moves_eq_false_iff (c : ChanState) : c.moves = false ↔ c ≠ .releasing ∧ c ≠ .streaming := by
  cases c <;> simp [ChanState.moves]

theorem brakeLaw_iff (s : State) :
    brakeLaw s ↔ (producesSamples s.fcu.flight = false → ∀ w, (s.chan w).state.moves = false) := by
  simp only [brakeLaw, ChanState.moves_eq_false_iff]

/-- A state reached with the two channel laws kept. -/
structure State.KeepsChannels (s t : State) : Prop where
  brake : brakeLaw s → brakeLaw t
  setting : settingLaw s → settingLaw t

/-- A channel that has gone neither to RELEASING or STREAMING nor to SETTING. -/
structure Channel.Settles (c d : Channel) : Prop where
  setting : d.state = .setting → c.state = .setting
  moves : d.state.moves = true → c.state.moves = true

theorem Channel.Settles.of_state {c d : Channel} (h : d.state = c.state) : c.Settles d := ⟨(h ▸ ·), (h ▸ ·)⟩

theorem Channel.Settles.of_idle {c d : Channel} (setting : d.state ≠ .setting) (moves : d.state.moves = false) :
    c.Settles d := ⟨(absurd · setting), fun h => absurd h (by rw [moves]; exact Bool.false_ne_true)⟩

namespace State.KeepsChannels

variable {s t u : State}

theorem refl (s : State) : s.KeepsChannels s := ⟨id, id⟩

theorem trans (h : s.KeepsChannels t) (k : t.KeepsChannels u) : s.KeepsChannels u :=
  ⟨k.brake ∘ h.brake, k.setting ∘ h.setting⟩

/-- The operation stands, no channel goes to SETTING, none moves at rest that did not before, and PARKED is not left. -/
theorem of_states (op : t.ch.op = s.ch.op) (parked : s.fcu.flight = .parked → t.fcu.flight = .parked)
    (setting : ∀ w, (t.chan w).state = .setting → (s.chan w).state = .setting)
    (moves : producesSamples t.fcu.flight = false → ∀ w, (t.chan w).state.moves = true →
      producesSamples s.fcu.flight = false ∧ (s.chan w).state.moves = true) :
    s.KeepsChannels t := by
  constructor
  · rw [brakeLaw_iff, brakeLaw_iff]
    intro law rests w
    by_contra hw
    obtain ⟨rested, moved⟩ := moves rests w (eq_true_of_ne_false hw)
    rw [law rested w] at moved
    cases moved
  · intro law
    rw [settingLaw, op]
    exact ⟨fun h => parked (law.1 h), fun w hw => law.2 w (setting w hw)⟩

/-- The flight state and the operation stand, and every channel settles. -/
theorem of_channels (flight : t.fcu.flight = s.fcu.flight) (op : t.ch.op = s.ch.op)
    (chans : ∀ w, (s.chan w).Settles (t.chan w)) : s.KeepsChannels t :=
  of_states op (flight ▸ id) (fun w => (chans w).setting) fun rests w hw => ⟨flight ▸ rests, (chans w).moves hw⟩

/-- The flight state and the channels stand. -/
theorem of_blocks (flight : t.fcu.flight = s.fcu.flight) (ch : t.ch = s.ch) : s.KeepsChannels t :=
  of_channels flight (by rw [ch]) fun w => .of_state (by rw [State.chan, ch]; rfl)

/-- The operation stands and every channel settles, while the part flies and flies on. -/
theorem of_flying (flies : producesSamples s.fcu.flight = true) (goesOn : producesSamples t.fcu.flight = true)
    (op : t.ch.op = s.ch.op) (chans : ∀ w, (s.chan w).Settles (t.chan w)) : s.KeepsChannels t := by
  refine of_states op (fun parked => ?_) (fun w => (chans w).setting) fun rests => ?_
  · rw [parked] at flies
    cases flies
  · rw [goesOn] at rests
    cases rests

/-- The channels stand, while the part flies and flies on. -/
theorem of_flight (flies : producesSamples s.fcu.flight = true) (goesOn : producesSamples t.fcu.flight = true)
    (ch : t.ch = s.ch) : s.KeepsChannels t :=
  of_flying flies goesOn (by rw [ch]) fun w => .of_state (by rw [State.chan, ch]; rfl)

/-- The flight state stands, the operation is over, and every channel settles, none in SETTING. -/
theorem of_ended (flight : t.fcu.flight = s.fcu.flight) (op : t.ch.op.kind = .noSetting)
    (chans : ∀ w, (s.chan w).Settles (t.chan w)) (ended : ∀ w, (t.chan w).state ≠ .setting) : s.KeepsChannels t := by
  refine ⟨?_, fun _ => ⟨(absurd op ·), fun w hw => absurd hw (ended w)⟩⟩
  rw [brakeLaw_iff, brakeLaw_iff, flight]
  intro law rests w
  by_contra hw
  have moved := (chans w).moves (eq_true_of_ne_false hw)
  rw [law rests w] at moved
  cases moved

/-- The operation is over, and no channel is SETTING or moves: the laws stand, whatever stood before. -/
theorem of_idle (op : t.ch.op.kind = .noSetting)
    (idle : ∀ w, (t.chan w).state ≠ .setting ∧ (t.chan w).state.moves = false) : s.KeepsChannels t :=
  ⟨fun _ => (brakeLaw_iff t).mpr fun _ w => (idle w).2, fun _ => ⟨(absurd op ·), fun w hw => absurd hw (idle w).1⟩⟩

end State.KeepsChannels

/-! ## Channels -/

theorem onChan_keepsChannels {f : Channel → Channel} {s : State} {w : Winch} (h : (s.chan w).Settles (f (s.chan w))) :
    s.KeepsChannels (s.onChan w f) := by
  refine .of_channels rfl rfl fun v => ?_
  rw [State.chan_onChan]
  split
  · next hv => rwa [hv]
  · exact .of_state rfl

theorem onAllChans_keepsChannels {f : Channel → Channel} (h : ∀ c : Channel, c.Settles (f c)) (s : State) :
    s.KeepsChannels (onAllChans f s) := by
  refine .of_channels rfl rfl fun w => ?_
  rw [State.chan_onAllChans]
  exact h _

theorem Channel.toAbsent_settles (c : Channel) : c.Settles c.toAbsent := .of_idle nofun rfl

theorem Channel.toReady_settles (c : Channel) : c.Settles c.toReady := .of_idle nofun rfl

theorem Channel.toBraking_settles (c : Channel) : c.Settles c.toBraking := .of_idle nofun rfl

/-- After a brake request no channel moves (R168). -/
theorem Channel.brake_moves (c : Channel) : c.brake.state.moves = false := by
  obtain ⟨-, h⟩ | ⟨releasing, streaming, h⟩ := c.brake_cases <;> rw [h]
  · rfl
  · exact (ChanState.moves_eq_false_iff _).mpr ⟨releasing, streaming⟩

theorem Channel.brake_setting {c : Channel} (h : c.brake.state = .setting) : c.state = .setting := by
  obtain ⟨-, hb⟩ | ⟨-, -, hb⟩ := c.brake_cases <;> rw [hb] at h
  · cases h
  · exact h

theorem Channel.endSetting_settles (c : Channel) : c.Settles c.endSetting := by
  unfold Channel.endSetting
  split
  · exact .of_idle nofun rfl
  · exact .of_state rfl

theorem Channel.endSetting_ne_setting (c : Channel) : c.endSetting.state ≠ .setting := by
  unfold Channel.endSetting
  split
  · exact nofun
  · assumption

/-- A trip leaves no channel moving or SETTING (R179, R188). -/
theorem Channel.afterTrip_idle (c : Channel) : c.afterTrip.state ≠ .setting ∧ c.afterTrip.state.moves = false := by
  unfold Channel.afterTrip
  cases h : c.state <;> simp [h, ChanState.moves]

/-- A period's close and its frame leave a channel's state, or take it to ABSENT (R155, R157, R166). -/
theorem Channel.closeAndSend_settles (c : Channel) : c.Settles c.close.send := by
  unfold Channel.close
  split
  · exact .of_idle nofun rfl
  · split <;> exact .of_state rfl

theorem Channel.release_setting {c : Channel} (h : c.release.state = .setting) : c.state = .setting := by
  obtain ⟨-, hr⟩ | ⟨-, hr⟩ := c.release_cases <;> rw [hr] at h
  · cases h
  · exact h

/-- A flying part comes to rest in PARKING with a brake request to every channel (R54, R56). -/
theorem brakeToPark_keepsChannels {s : State} (flies : producesSamples s.fcu.flight = true) :
    s.KeepsChannels (onAllChans Channel.brake
      ((s.onFcu fun f => { f with flight := .parking }).onPln fun p => { p with vel := Vec3.zero })) := by
  refine .of_states rfl (fun parked => ?_) (fun w hw => ?_) fun _ w hw => ?_
  · rw [parked] at flies
    cases flies
  · rw [State.chan_onAllChans] at hw
    exact Channel.brake_setting hw
  · rw [State.chan_onAllChans, Channel.brake_moves] at hw
    cases hw

/-! ## LINK -/

theorem reply_keepsChannels (seat : Seat) (m : Message) (s : State) : s.KeepsChannels (reply seat m s) := .of_blocks rfl rfl

theorem ack_keepsChannels (seat : Seat) (type : BitVec 6) (n : Nat) (s : State) : s.KeepsChannels (ack seat type n s) :=
  reply_keepsChannels _ _ s

theorem refuse_keepsChannels (seat : Seat) (code : ErrorCode) (n : Nat) (s : State) :
    s.KeepsChannels (refuse seat code n s) := reply_keepsChannels _ _ s

theorem notice_keepsChannels (code : NoticeCode) (n : Nat) (s : State) : s.KeepsChannels (notice code n s) :=
  .of_blocks rfl rfl

theorem onLink_keepsChannels (f : Link → Link) (s : State) : s.KeepsChannels (s.onLink f) := .of_blocks rfl rfl

theorem awaitDecode_keepsChannels (r : Record) (s : State) : s.KeepsChannels (awaitDecode r s) := by
  unfold awaitDecode
  split
  · exact .refl s
  · exact onLink_keepsChannels _ s

/-- The end of a command keeps what the command kept. -/
theorem done_keepsChannels {s u : State} (h : s.KeepsChannels u) : ∃ t, done u = .next t ∧ s.KeepsChannels t :=
  ⟨deliver u, rfl, h.trans (onLink_keepsChannels _ u)⟩

/-- A decode keeps what the act on the record keeps. -/
theorem decodeRecord_keepsChannels {r : Record} {act : State → State} {s : State}
    (h : s.afterDecode.KeepsChannels (act s.afterDecode)) : s.KeepsChannels (decodeRecord r act s) := by
  rcases decodeRecord_cases r act s with hr | hr | ⟨-, -, hr⟩ <;> rw [hr]
  · exact .refl s
  · exact awaitDecode_keepsChannels r s
  · exact (onLink_keepsChannels _ s).trans h

/-- A record's command keeps what its owner keeps. -/
theorem decodeCommand_keepsChannels {type : BitVec 6} {seat : Seat} {body : List Byte} {owner : State → State} {s : State}
    (h : s.afterDecode.KeepsChannels (owner s.afterDecode)) :
    ∃ t, done (decodeCommand type seat body owner s) = .next t ∧ s.KeepsChannels t := by
  refine done_keepsChannels (decodeRecord_keepsChannels ?_)
  split
  · exact refuse_keepsChannels _ _ _ _
  · exact h

/-- An owner's answer keeps what the record does when its checks pass. -/
theorem answer_keepsChannels {seat : Seat} {type : BitVec 6} {checks : List (Bool × ErrorCode × Nat)}
    {take : State → State} {s : State}
    (h : firstError checks = none → (ack seat type 0 s).KeepsChannels (take (ack seat type 0 s))) :
    s.KeepsChannels (answer seat type checks take s) := by
  unfold answer
  split
  · exact refuse_keepsChannels _ _ _ s
  · next hc => exact (ack_keepsChannels _ _ _ s).trans (h hc)

/-! ## Time -/

theorem advanceTo_keepsChannels (t : Nat) (s : State) : s.KeepsChannels (advanceTo t s) :=
  .of_channels rfl rfl fun w => .of_state ((advanceTo_sameRig t s).states w)

theorem onFru_keepsChannels (f : Fru → Fru) (s : State) : s.KeepsChannels (s.onFru f) := .of_blocks rfl rfl

theorem onPln_keepsChannels (f : Pln → Pln) (s : State) : s.KeepsChannels (s.onPln f) := .of_blocks rfl rfl

theorem onSto_keepsChannels (f : Sto → Sto) (s : State) : s.KeepsChannels (s.onSto f) := .of_blocks rfl rfl

theorem atInstant_keepsChannels {act : State → State} (h : ∀ u : State, u.KeepsChannels (act u)) (t : Nat) (s : State) :
    s.KeepsChannels (atInstant t act s) := by
  unfold atInstant
  split
  · exact (advanceTo_keepsChannels t s).trans (h _)
  · exact .refl s

theorem atExpiry_keepsChannels {act : State → State} (h : ∀ u : State, u.KeepsChannels (act u)) (left : Option Nat)
    (s : State) : s.KeepsChannels (atExpiry left act s) := by
  rcases atExpiry_cases left act s with hr | ⟨t, hr⟩ <;> rw [hr]
  · exact .refl s
  · exact (advanceTo_keepsChannels t s).trans (h _)

theorem stateExpiry_keepsChannels {act : State → State} (h : ∀ u : State, u.KeepsChannels (act u)) (w : Winch)
    (state : ChanState) (s : State) : s.KeepsChannels (stateExpiry w state act s) := by
  unfold stateExpiry
  split
  · exact atExpiry_keepsChannels h _ s
  · exact .refl s

/-! ## Reports and the store -/

theorem State.SameButFlags.keepsChannels {s t : State} (h : s.SameButFlags t) : s.KeepsChannels t := by
  obtain ⟨fcu, -, -, -, -, -, ch, -⟩ := h
  exact .of_blocks (by rw [fcu]) ch

/-- An occurrence of any flag: a trip brakes every channel and ends a setting operation, any other touches the flags alone
(R63, R179, R188). -/
theorem report_keepsChannels (f : Flag) (channel : Nat) (seat : Option Seat) (s : State) :
    s.KeepsChannels (report f channel seat s) := by
  by_cases hf : f.isTrip = true
  · by_cases hs : s.fcu.flight = .tripped
    · exact (report_tripped_sameButFlags hf channel seat hs).keepsChannels
    · rw [report_trip hf channel seat hs]
      refine .of_idle rfl fun w => ?_
      simp only [tripEffect, State.chan, Quad.get_map]
      exact Channel.afterTrip_idle _
  · exact (report_sameButFlags (by simpa using hf) channel seat s).keepsChannels

theorem reportIf_keepsChannels (cond : Bool) (f : Flag) (channel : Nat) (s : State) :
    s.KeepsChannels (reportIf cond f channel s) := by
  unfold reportIf
  split
  · exact report_keepsChannels _ _ _ s
  · exact .refl s

theorem beginPoseWrite_keepsChannels (s : State) : s.KeepsChannels (beginPoseWrite s) := by
  rw [beginPoseWrite_eq]
  split
  · exact .of_blocks rfl rfl
  · exact .refl s

theorem writePose_keepsChannels (pose : RetainedPose) (s : State) : s.KeepsChannels (writePose pose s) :=
  .of_blocks (by simp [writePose]) (by simp [writePose])

/-- CLEAR_FAULTS ends in the flight state it found, or leaves TRIPPED for PARKED (R64, R194). -/
theorem clearFaultsRecord_keepsChannels (seat : Seat) (s : State) : s.KeepsChannels (clearFaultsRecord seat s) := by
  unfold clearFaultsRecord
  split
  · exact refuse_keepsChannels _ _ _ s
  · have counted : s.KeepsChannels (onAllChans (fun c => { c with badFrames := 0 }) (clearFlags s)) :=
      (clearFlags_sameButFlags s).keepsChannels.trans (.of_channels rfl rfl fun w => .of_state (by rw [State.chan_onAllChans]))
    refine (counted.trans ?_).trans (ack_keepsChannels _ _ _ _)
    unfold clearFaults returnToParked
    split
    · next h =>
      refine .of_states rfl (fun _ => rfl) (fun _ => id) fun _ w hw => ⟨?_, hw⟩
      rw [h.1]
      rfl
    · exact .refl _

/-! ## Setting operations -/

theorem noSetting_of_not_busy {s : State} (h : busy s = false) : s.ch.op.kind = .noSetting := by
  by_contra hk
  rw [(busy_iff s).mpr (Or.inr hk)] at h
  cases h

/-- A setting operation starts in PARKED, with no other in progress (R174 to R176). -/
theorem startSetting_keepsChannels (kind : SettingKind) (p : Vec3) (involved : Quad Bool) {s : State}
    (asks : kind ≠ .noSetting) (parked : s.fcu.flight = .parked)
    (idle : s.ch.op.kind = .noSetting) : s.KeepsChannels (startSetting kind p involved s) := by
  have moves : ∀ w, ((startSetting kind p involved s).chan w).state = (s.chan w).state ∨
      involved.get (winchIndex w) = true ∧ ((startSetting kind p involved s).chan w).state = .setting := by
    intro w
    simp only [startSetting, State.chan, State.onCh_ch, Quad.get_zip]
    split
    · next asked =>
      obtain ⟨-, hr⟩ | ⟨-, hr⟩ := Channel.setRequest_cases ((setpointsAt s p).get (winchIndex w)) (s.chan w)
      · exact Or.inr ⟨asked, congrArg Channel.state hr⟩
      · exact Or.inl (congrArg Channel.state hr)
    · exact Or.inl rfl
  constructor
  · rw [brakeLaw_iff, brakeLaw_iff]
    intro law rests w
    obtain same | ⟨-, set⟩ := moves w
    · rw [same]
      exact law rests w
    · rw [set]
      rfl
  · intro law
    refine ⟨fun _ => parked, fun w hw => ⟨asks, ?_⟩⟩
    obtain same | ⟨asked, -⟩ := moves w
    · rw [same] at hw
      exact absurd idle (law.2 w hw).1
    · exact asked

/-- A setting operation completes once no channel is SETTING (R177). -/
theorem settleSetting_keepsChannels (s : State) : s.KeepsChannels (settleSetting s) := by
  unfold settleSetting
  split
  · next h =>
    have chans : (completeSetting s).ch.chans = s.ch.chans := by simp [completeSetting, writePose, recomputeInside]
    have same : ∀ w, (completeSetting s).chan w = s.chan w := fun w => by rw [State.chan, chans]; rfl
    refine .of_ended (by simp [completeSetting, writePose, recomputeInside]) rfl (fun w => .of_state ?_) fun w hw => ?_
    · rw [same]
    · rw [same] at hw
      have setting : (s.ch.chans.any fun c => c.state = .setting) = true :=
        (Quad.any_iff _ _).mpr ⟨winchIndex w, decide_eq_true hw⟩
      simp [setting] at h
  · exact .refl s

theorem settingTimeout_keepsChannels (w : Winch) (s : State) : s.KeepsChannels (settingTimeout w s) := by
  have ended : ∀ u : State, u.KeepsChannels (endSettingOp u) := fun u => by
    have chan : ∀ v, (endSettingOp u).chan v = (u.chan v).endSetting := fun v => by
      simp only [endSettingOp, State.chan, State.onCh_ch, Quad.get_map]
    refine .of_ended rfl rfl (fun v => ?_) fun v => ?_ <;> rw [chan]
    · exact Channel.endSetting_settles _
    · exact Channel.endSetting_ne_setting _
  exact ((report_keepsChannels _ _ _ s).trans (ended _)).trans
    ((writePose_keepsChannels _ _).trans (notice_keepsChannels _ _ _))

/-! ## Flight -/

/-- ARM enters ARMING with no setting operation in progress (R51, R52). -/
theorem startArming_keepsChannels {s : State} (h : firstError (armChecks s) = none) : s.KeepsChannels (startArming s) := by
  have idle : s.ch.op.kind = .noSetting :=
    noSetting_of_not_busy ((firstError_none_iff _).mp h (busy s, .busy, 0) (by simp [armChecks]))
  refine ⟨fun _ rests => Bool.noConfusion rests, fun law => ⟨fun asks => absurd idle asks, fun w hw => law.2 w ?_⟩⟩
  rw [startArming, State.chan_onAllChans] at hw
  exact Channel.release_setting hw

theorem cancelPrimed_keepsChannels (s : State) : s.KeepsChannels (cancelPrimed s) := by
  rw [cancelPrimed_eq]
  exact .of_blocks rfl rfl

/-- PARK brakes every channel of a part in HOLD (R56). -/
theorem startParking_keepsChannels {s : State} (h : s.fcu.flight = .hold) : s.KeepsChannels (startParking s) := by
  unfold startParking
  exact (brakeToPark_keepsChannels (by rw [h]; rfl)).trans (cancelPrimed_keepsChannels _)

/-- HOLD starts a stop, or enters HOLD, only where a sample is produced (R55, R58 to R60, R62). -/
theorem holdEffect_keepsChannels (seat : Seat) (s : State) : s.KeepsChannels (holdEffect seat s) := by
  unfold holdEffect
  cases hf : s.fcu.flight with
  | hold =>
    dsimp only
    split
    · exact cancelPrimed_keepsChannels s
    · exact .refl s
  | track =>
    dsimp only
    unfold holdInTrack
    split
    · exact .refl s
    · split
      · exact .of_flight (by rw [hf]; rfl) rfl rfl
      · exact .of_flight (by rw [hf]; rfl) rfl rfl
      · exact .refl s
      · exact .refl s
  | stopping =>
    dsimp only
    unfold holdInStopping
    split
    · exact .refl s
    · split
      · exact .of_flight (by rw [hf]; rfl) rfl rfl
      · exact .refl s
  | stick | stream => exact .of_flight (by rw [hf]; rfl) rfl rfl
  | parked | arming | parking | tripped => exact .refl s

/-- The stick takes the carrier only where a sample is produced (R96 to R98). -/
theorem takeStick_keepsChannels (s : State) : s.KeepsChannels (takeStick s) := by
  unfold takeStick
  cases hf : s.fcu.flight with
  | hold =>
    refine (cancelPrimed_keepsChannels s).trans (.of_flight ?_ rfl rfl)
    rw [cancelPrimed_eq, hf]
    rfl
  | track =>
    dsimp only
    unfold handOverMove
    split
    · exact .of_flight (by rw [hf]; rfl) rfl rfl
    · split <;> exact .of_flight (by rw [hf]; rfl) rfl rfl
  | stream => exact .of_flight (by rw [hf]; rfl) rfl rfl
  | parked | arming | stick | stopping | parking | tripped => exact .refl s

/-! ## Drive answers -/

theorem badFrame_keepsChannels (w : Winch) (s : State) : s.KeepsChannels (badFrame w s) := by
  have counted := onChan_keepsChannels (s := s) (w := w) (f := fun c => { c with badFrames := satSucc cap16 c.badFrames })
    (.of_state rfl)
  unfold badFrame
  dsimp only
  split
  · exact counted.trans (report_keepsChannels _ _ _ _)
  · exact counted

theorem loseChannel_keepsChannels {f : Channel → Channel} {w : Winch} {s : State}
    (h : (s.chan w).Settles (f (s.chan w))) : s.KeepsChannels (loseChannel w f s) :=
  (onChan_keepsChannels h).trans (report_keepsChannels _ _ _ _)

theorem streamingChecks_keepsChannels (w : Winch) (a : AnswerFields) (s : State) :
    s.KeepsChannels (streamingChecks w a s) := by
  unfold streamingChecks
  dsimp only
  refine State.KeepsChannels.trans ?_ (reportIf_keepsChannels _ _ _ _)
  refine State.KeepsChannels.trans ?_ (reportIf_keepsChannels _ _ _ _)
  refine State.KeepsChannels.trans ?_ (reportIf_keepsChannels _ _ _ _)
  refine State.KeepsChannels.trans ?_ (reportIf_keepsChannels _ _ _ _)
  exact onChan_keepsChannels (.of_state rfl)

theorem findDrive_keepsChannels (w : Winch) (d : DriveState) (s : State) : s.KeepsChannels (findDrive w d s) := by
  unfold findDrive
  split
  · split
    · exact .refl s
    · exact onChan_keepsChannels (Channel.toAbsent_settles _)
  · exact (onChan_keepsChannels (Channel.toReady_settles _)).trans (notice_keepsChannels _ _ _)
  · exact (onChan_keepsChannels (Channel.toBraking_settles _)).trans (notice_keepsChannels _ _ _)
  · exact .refl s

theorem answerInReady_keepsChannels (w : Winch) (d : DriveState) (s : State) : s.KeepsChannels (answerInReady w d s) := by
  unfold answerInReady
  split
  · exact (onChan_keepsChannels (Channel.toAbsent_settles _)).trans (notice_keepsChannels _ _ _)
  · exact .refl s
  · exact onChan_keepsChannels (Channel.toBraking_settles _)
  · exact .refl s

/-- A channel streams from RELEASING alone, so where channels may move (R161). -/
theorem answerInReleasing_keepsChannels {w : Winch} {s : State} (h : (s.chan w).state = .releasing) (d : DriveState) :
    s.KeepsChannels (answerInReleasing w d s) := by
  unfold answerInReleasing
  split
  · exact loseChannel_keepsChannels (Channel.toAbsent_settles _)
  · exact .refl s
  · exact onChan_keepsChannels ⟨nofun, fun _ => by rw [h]; rfl⟩
  · exact .refl s

theorem answerInStreaming_keepsChannels (w : Winch) (a : AnswerFields) (s : State) :
    s.KeepsChannels (answerInStreaming w a s) := by
  unfold answerInStreaming
  split
  · exact loseChannel_keepsChannels (Channel.toAbsent_settles _)
  · exact loseChannel_keepsChannels (Channel.toReady_settles _)
  · exact streamingChecks_keepsChannels w a s
  · exact .refl s

theorem answerInBraking_keepsChannels (w : Winch) (d : DriveState) (s : State) :
    s.KeepsChannels (answerInBraking w d s) := by
  unfold answerInBraking
  split
  · exact loseChannel_keepsChannels (Channel.toAbsent_settles _)
  · exact onChan_keepsChannels (Channel.toReady_settles _)
  · exact .refl s
  · exact .refl s

theorem answerInSetting_keepsChannels (w : Winch) (a : AnswerFields) (s : State) :
    s.KeepsChannels (answerInSetting w a s) := by
  unfold answerInSetting
  split
  · exact loseChannel_keepsChannels (Channel.toAbsent_settles _)
  · split
    · exact (onChan_keepsChannels (Channel.toReady_settles _)).trans (settleSetting_keepsChannels _)
    · exact .refl s

theorem actOnAnswer_keepsChannels (w : Winch) (a : AnswerFields) (s : State) : s.KeepsChannels (actOnAnswer w a s) := by
  unfold actOnAnswer
  dsimp only
  split
  · split
    · exact .refl s
    · refine State.KeepsChannels.trans (onChan_keepsChannels ?_) (report_keepsChannels _ _ _ _)
      exact .of_idle nofun rfl
  · split
    · exact findDrive_keepsChannels w _ s
    · exact findDrive_keepsChannels w _ s
    · exact answerInReady_keepsChannels w _ s
    · next releasing => exact answerInReleasing_keepsChannels releasing _
    · exact answerInStreaming_keepsChannels w a s
    · exact answerInBraking_keepsChannels w _ s
    · exact answerInSetting_keepsChannels w a s

/-- ARMING ends in HOLD, PARKING in PARKED (R53, R57). -/
theorem watchChannels_keepsChannels (s : State) : s.KeepsChannels (watchChannels s) := by
  unfold watchChannels
  split
  · next h => exact .of_flight (by rw [h.1]; rfl) rfl rfl
  · split
    · next h =>
      have rests : producesSamples s.fcu.flight = false := by rw [h.1]; rfl
      have parked : s.KeepsChannels (s.onFcu fun f => { f with flight := .parked }) :=
        .of_states rfl (fun _ => rfl) (fun _ => id) fun _ _ hw => ⟨rests, hw⟩
      exact (parked.trans (writePose_keepsChannels _ _)).trans (notice_keepsChannels _ _ _)
    · exact .refl s

theorem driveAnswer_keepsChannels (w : Winch) (bytes : List Byte) (s : State) : s.KeepsChannels (driveAnswer w bytes s) := by
  unfold driveAnswer
  split
  · exact badFrame_keepsChannels w s
  · next a _ =>
    have taken := onChan_keepsChannels (s := s) (w := w) (f := Channel.take a) (.of_state rfl)
    exact (taken.trans (actOnAnswer_keepsChannels w a _)).trans (watchChannels_keepsChannels _)

/-- A release that times out in ARMING ends it with a brake request to every channel (R54, R167). -/
theorem releaseTimeout_keepsChannels (w : Winch) (s : State) : s.KeepsChannels (releaseTimeout w s) := by
  have reported := (onChan_keepsChannels (s := s) (w := w) (f := fun c => { c with timer := none }) (.of_state rfl)).trans
    (report_keepsChannels .armTimeout (winchNumber w) none _)
  unfold releaseTimeout
  dsimp only
  split
  · next h =>
    unfold failArming
    exact (reported.trans (brakeToPark_keepsChannels (by rw [h]; rfl))).trans (notice_keepsChannels _ _ _)
  · exact reported

/-! ## The planner flies on -/

/-- The part flies: PLN produces a sample at each servo event (R43). -/
def State.Flies (s : State) : Prop := producesSamples s.fcu.flight = true

theorem State.SameButFlags.flies {s t : State} (h : s.SameButFlags t) (flies : s.Flies) : t.Flies := by
  rw [State.Flies, h.1]
  exact flies

theorem earlyEnd_flies {step : Bool} {s t : State} (h : earlyEnd step s = some t) : t.Flies := by
  unfold earlyEnd at h
  split at h
  · cases h; rfl
  · split at h
    · cases h; rfl
    · cases h

theorem startMove_flies (m : Move) (step : Bool) (s : State) : (startMove m step s).Flies := by
  unfold startMove
  dsimp only
  split <;> rfl

theorem arriveWith_flies {onEnd : State → State} (h : ∀ s : State, (onEnd s).Flies) (hand : MoveInHand) {s : State}
    (flies : s.Flies) : (arriveWith onEnd hand s).Flies := by
  unfold arriveWith
  dsimp only
  split
  · exact h _
  · split
    · exact h _
    · rw [State.Flies, State.onPln_fcu]
      split <;> exact flies

theorem beginWith_flies {onEnd : State → State} (h : ∀ s : State, (onEnd s).Flies) (m : Move) (step : Bool) (s : State) :
    (beginWith onEnd m step s).Flies := by
  unfold beginWith
  split
  · dsimp only
    split
    · exact arriveWith_flies h _ (startMove_flies m step s)
    · exact startMove_flies m step s
  · rfl

theorem moveEndFrom_flies (queue : List Move) : ∀ (step : Bool) (s : State), (moveEndFrom queue step s).Flies := by
  induction queue with
  | nil =>
    intro step s
    unfold moveEndFrom
    dsimp only
    split
    · next h => exact earlyEnd_flies h
    · rfl
  | cons head rest ih =>
    intro step s
    unfold moveEndFrom
    dsimp only
    split
    · next h => exact earlyEnd_flies h
    · split
      · rfl
      · exact beginWith_flies (ih false) head false _

theorem moveEnd_flies (step : Bool) (s : State) : (moveEnd step s).Flies := moveEndFrom_flies _ step s

section
variable {s : State} (flies : s.Flies)
include flies

theorem concludePath_flies (kind : SampleKind) (m : MoveInHand) : (concludePath kind m s).Flies := by
  unfold concludePath
  split
  · split
    · exact arriveWith_flies (moveEnd_flies _) m flies
    · exact flies
  · split
    · exact moveEnd_flies _ s
    · exact flies
  · split
    · rfl
    · split
      · rfl
      · exact flies
  · exact flies

theorem concludeFollow_flies (played : Vec3) (first : Bool) : (concludeFollow played first s).Flies := by
  have rest : ∀ u : State, u.Flies → (if 1000 * u.env.limits.lagLimit < chebyshev played u.pln.pos then lagEnd u
      else if u.pln.stream.state = .ending ∧ u.pln.stream.samples = [] then endStream u else u).Flies := by
    intro u hu
    split
    · rfl
    · split
      · rfl
      · exact hu
  unfold concludeFollow
  cases first
  · exact rest s flies
  · exact rest (notice .streamPlaying 0 s) flies

/-- What a sample concludes keeps the part flying (R41, R61, R79 to R81, R84, R116 to R122). -/
theorem conclude_flies (kind : SampleKind) (struck : Bool) : (conclude kind struck s).Flies := by
  have path : ∀ k, (if struck = true then strikeEnd s else s.pln.inHand.elim s fun m => concludePath k m s).Flies := by
    intro k
    split
    · rfl
    · cases s.pln.inHand with
      | none => exact flies
      | some m => exact concludePath_flies flies k m
  unfold conclude
  split
  · exact flies
  · exact flies
  · exact concludeFollow_flies flies _ _
  · split
    · rfl
    · exact flies
  · exact path _
  · exact path _
  · exact path _

theorem prepareFollow_flies (first : Bool) (head : Sample) (rest : List Sample) :
    (prepareFollow first head rest s).state.Flies := by
  obtain ⟨low, critical, high, handed, h⟩ :=
    evaluateBands_keeps (s.onPln fun p => { p with stream := { p.stream with samples := rest } })
  unfold prepareFollow
  rw [h]
  exact flies

theorem prepareStartOfPlay_flies : (prepareStartOfPlay s).state.Flies := by
  have refused : ∀ u : State, u.Flies → (prepareRest (cancelStream u)).state.Flies := fun _ h => h
  unfold prepareStartOfPlay
  dsimp only
  split
  · exact refused _ ((report_sameButFlags rfl 0 none s).flies flies)
  · split
    · exact refused _ flies
    · refine prepareFollow_flies ?_ _ _ _
      rfl

theorem prepareStream_flies : (prepareStream s).state.Flies := by
  unfold prepareStream
  split
  · exact prepareFollow_flies flies _ _ _
  · split <;> rfl

end

theorem prepareTrack_fcu (s : State) : (prepareTrack s).state.fcu = s.fcu := by
  unfold prepareTrack
  split
  · rfl
  · split <;> rfl

theorem prepareStopping_fcu (s : State) : (prepareStopping s).state.fcu = s.fcu := by
  unfold prepareStopping
  split <;> rfl

/-- A sample is prepared where the part flies, and leaves it flying (R43). -/
theorem prepareSample_flies {frameStart : Bool} {s : State} :
    ∀ p, prepareSample frameStart s = some p → p.state.Flies := by
  have given : ∀ q : Prepared, q.state.Flies → ∀ p, some q = some p → p.state.Flies :=
    fun q hq p h => Option.some.inj h ▸ hq
  have standing : ∀ q : Prepared, q.state.fcu = s.fcu → s.Flies → ∀ p, some q = some p → p.state.Flies :=
    fun q hq flies => given q (by rw [State.Flies, hq]; exact flies)
  unfold prepareSample
  cases hf : s.fcu.flight with
  | parked | parking | tripped => exact fun _ h => nomatch h
  | arming | stick => exact standing _ rfl (by rw [State.Flies, hf]; rfl)
  | hold =>
    have flies : s.Flies := by rw [State.Flies, hf]; rfl
    refine given _ ?_
    split
    · exact prepareStartOfPlay_flies flies
    · exact flies
  | track => exact standing _ (prepareTrack_fcu s) (by rw [State.Flies, hf]; rfl)
  | stream => exact given _ (prepareStream_flies (by rw [State.Flies, hf]; rfl))
  | stopping => exact standing _ (prepareStopping_fcu s) (by rw [State.Flies, hf]; rfl)

/-- The sample of a servo event leaves the operation, the channels' states and a part that flies flying (R10, R43). -/
theorem planSample_keepsChannels (frameStart : Bool) (s : State) : s.KeepsChannels (planSample frameStart s) := by
  cases hf : producesSamples s.fcu.flight with
  | false => rw [planSample_of_rest hf]; exact .refl s
  | true =>
    have goesOn : (planSample frameStart s).Flies := by
      unfold planSample
      cases hp : prepareSample frameStart s with
      | none => exact hf
      | some p =>
        obtain ⟨flt, mrk, handed, committed⟩ := commit_keeps p
        refine conclude_flies ?_ _ _
        rw [committed]
        exact prepareSample_flies p hp
    obtain ⟨-, -, -, -, -, -, -, ch⟩ := planSample_keeps frameStart s
    rw [if_pos hf] at ch
    refine .of_flying hf goesOn (by rw [ch]) fun w => .of_state ?_
    simp only [State.chan, ch, Quad.get_zip]

/-! ## The planner's commands -/

/-- RESUME and STEP begin a move in HOLD alone (R82, R83). -/
theorem resumeWith_keepsChannels (type : BitVec 6) (step : Bool) (seat : Seat) (s : State) :
    s.KeepsChannels (resumeWith type step seat s) := by
  have begins : ∀ (m : Move) (u : State), u.fcu.flight = .hold → u.KeepsChannels (beginWith (moveEnd step) m step u) := by
    intro m u hu
    obtain ⟨-, -, ch, -⟩ := beginWith_keptByPlanner (moveEnd_keptByPlanner step) m step u
    exact .of_flight (by rw [hu]; rfl) (beginWith_flies (moveEnd_flies step) m step u) ch
  unfold resumeWith
  split
  · exact refuse_keepsChannels _ _ _ s
  · next hh =>
    have hold : s.fcu.flight = .hold := not_not.mp hh
    split
    · exact refuse_keepsChannels _ _ _ s
    · next m t hn =>
      have offered : ∃ pln, t = { s with pln := pln } := by
        unfold nextMove at hn
        split at hn
        · cases hn; exact ⟨_, rfl⟩
        · split at hn
          · cases hn
          · cases hn; exact ⟨_, rfl⟩
      obtain ⟨pln, rfl⟩ := offered
      refine State.KeepsChannels.trans (t := { s with pln := pln }) (.of_blocks rfl rfl) ?_
      split
      · refine ((ack_keepsChannels _ _ _ _).trans (cancelPrimed_keepsChannels _)).trans (begins m _ ?_)
        rw [cancelPrimed_eq]
        exact hold
      · exact (ack_keepsChannels _ _ _ _).trans (begins m _ hold)

theorem flushMoves_keepsChannels (seat : Seat) (s : State) : s.KeepsChannels (flushMoves seat s) := by
  unfold flushMoves
  split
  · exact onPln_keepsChannels _ s
  · unfold discardSuspended
    split <;> exact .of_blocks rfl rfl

/-- The ZONE_STOP an activation starts stops a flown move where it is (R29, R30). -/
theorem zoneStopDecision_keepsChannels (z : Zone) (s : State) : s.KeepsChannels (zoneStopDecision z s) := by
  by_cases hc : ∃ m, s.cutBy z m
  · obtain ⟨m, cut⟩ := hc
    rw [zoneStopDecision_cut cut]
    split
    · exact report_keepsChannels _ _ _ s
    · obtain ⟨-, -, -, -, -, -, ch, -⟩ := report_sameButFlags (f := .zoneStop) rfl 0 none { s with
        pln := { s.pln with inHand := some { m with phase := .abandoned, stepFlag := false }, queue := [] }
        mrk := { s.mrk with holdPending := false } }
      rw [startZoneStop_eq]
      exact .of_flight cut.1.producesSamples rfl ch
  · rw [zoneStopDecision_uncut (not_exists.mp hc)]
    exact .refl s

theorem takeZone_keepsChannels (slot : Nat) (z : Zone) (s : State) : s.KeepsChannels (takeZone slot z s) :=
  State.KeepsChannels.trans (t := s.onEnv fun e => e.putZone slot (some z)) (.of_blocks rfl rfl)
    (zoneStopDecision_keepsChannels z _)

theorem zonePut_keepsChannels (seat : Seat) (p : List Byte) (s : State) : s.KeepsChannels (zonePut seat p s) := by
  unfold zonePut
  dsimp only
  split
  · exact refuse_keepsChannels _ _ _ s
  · split
    · exact refuse_keepsChannels _ _ _ s
    · exact answer_keepsChannels fun _ => takeZone_keepsChannels _ _ _

theorem zoneSet_keepsChannels (seat : Seat) (p : List Byte) (s : State) : s.KeepsChannels (zoneSet seat p s) := by
  unfold zoneSet
  dsimp only
  split
  · exact refuse_keepsChannels _ _ _ s
  · split
    · exact refuse_keepsChannels _ _ _ s
    · exact answer_keepsChannels fun _ => takeZone_keepsChannels _ _ _

theorem zoneRemove_keepsChannels (seat : Seat) (p : List Byte) (s : State) : s.KeepsChannels (zoneRemove seat p s) := by
  unfold zoneRemove
  dsimp only
  split
  · exact refuse_keepsChannels _ _ _ s
  · split
    · exact ack_keepsChannels _ _ _ s
    · exact answer_keepsChannels fun _ => .of_blocks rfl rfl

theorem evaluateBands_keepsChannels (s : State) : s.KeepsChannels (evaluateBands s) := by
  obtain ⟨low, critical, high, handed, h⟩ := evaluateBands_keeps s
  rw [h]
  exact .of_blocks rfl rfl

theorem appendInOrder_keepsChannels (positions : List Vec3) (s : State) : s.KeepsChannels (appendInOrder positions s) := by
  unfold appendInOrder
  dsimp only
  refine State.KeepsChannels.trans ?_ (evaluateBands_keepsChannels _)
  split
  · exact (onPln_keepsChannels _ s).trans (report_keepsChannels _ _ _ _)
  · exact onPln_keepsChannels _ s

theorem streamRecord_keepsChannels (seat : Seat) (p : List Byte) (s : State) : s.KeepsChannels (streamRecord seat p s) := by
  have ahead : s.KeepsChannels (streamAhead s) := by
    unfold streamAhead
    dsimp only
    split <;> exact .of_blocks rfl rfl
  unfold streamRecord takeSamples
  dsimp only
  split
  · exact onPln_keepsChannels _ s
  · split
    · split
      · exact appendInOrder_keepsChannels _ s
      · split
        · split
          · exact .refl s
          · exact appendInOrder_keepsChannels _ s
        · exact ahead
    · exact onPln_keepsChannels _ s

/-- The end of a playing stream starts a stop; a stream plays in STREAM alone (R121, R122). -/
theorem streamEnd_keepsChannels {s : State} (h : streamFlight s) : s.KeepsChannels (streamEnd s) := by
  unfold streamEnd
  split
  · exact onPln_keepsChannels _ s
  · next hp =>
    split
    · exact .of_flight (by rw [h (Or.inl hp)]; rfl) rfl rfl
    · exact onPln_keepsChannels _ s
  all_goals exact .refl s

/-! ## Servo events -/

theorem runChannels_keepsChannels (s : State) : s.KeepsChannels (runChannels s) := by
  have reported : ∀ (w : Winch) (c : Channel) (u : State), u.KeepsChannels (reportThirdMiss w c u) := by
    intro w c u
    unfold reportThirdMiss
    split
    · exact .refl u
    · split
      · exact report_keepsChannels _ _ _ u
      · exact notice_keepsChannels _ _ u
  refine (onAllChans_keepsChannels Channel.closeAndSend_settles s).trans ?_
  exact (((reported .w1 _ _).trans (reported .w2 _ _)).trans (reported .w3 _ _)).trans (reported .w4 _ _)

theorem completePull_keepsChannels (s : State) : s.KeepsChannels (completePull s) := by
  unfold completePull
  split
  · exact .of_blocks rfl rfl
  · exact .refl s

theorem loseReference_keepsChannels (s : State) : s.KeepsChannels (loseReference s) :=
  (onFru_keepsChannels _ s).trans (report_keepsChannels _ _ _ _)

theorem closeMiss_keepsChannels (s : State) : s.KeepsChannels (closeMiss s) := by
  unfold closeMiss
  split
  · exact loseReference_keepsChannels s
  · exact .refl s

theorem countFrame_keepsChannels (frameStart : Bool) (s : State) : s.KeepsChannels (countFrame frameStart s) := by
  unfold countFrame
  split
  · exact onFru_keepsChannels _ s
  · exact .refl s

theorem settleExhaustion_keepsChannels (s : State) : s.KeepsChannels (settleExhaustion s) := by
  unfold settleExhaustion
  split
  · exact onFru_keepsChannels _ s
  · exact .refl s

theorem handFramePose_keepsChannels (s : State) : s.KeepsChannels (handFramePose s) := by
  unfold handFramePose
  dsimp only
  split <;> exact .of_blocks rfl rfl

/-- A stream that starts at a servo event made the frame start: its sample takes the place of the hold sample (R115). -/
theorem promoteSample_keepsChannels (s : State) : s.KeepsChannels (promoteSample s) := by
  unfold promoteSample
  split
  · exact (planSample_keepsChannels true s).trans (onAllChans_keepsChannels (f := Channel.amendFrame) (fun _ => .of_state rfl) _)
  · exact .refl s

section
variable {fruStep : State → State} (hstep : ∀ u : State, u.KeepsChannels (fruStep u))
include hstep

theorem raiseServo_keepsChannels (index : Nat) (s : State) : s.KeepsChannels (raiseServo index fruStep s) := by
  have finished : ∀ u : State, u.KeepsChannels (finishServo index (staleFlags s) fruStep u) := fun u =>
    (((runChannels_keepsChannels u).trans (hstep _)).trans (settleExhaustion_keepsChannels _)).trans (.of_blocks rfl rfl)
  have event := ((countFrame_keepsChannels (decide (index = 0)) s).trans (planSample_keepsChannels (decide (index = 0)) _)).trans
    (finished _)
  unfold raiseServo
  dsimp only
  split
  · exact event.trans (handFramePose_keepsChannels _)
  · exact event

theorem edgeFrameStart_keepsChannels (s : State) : s.KeepsChannels (edgeFrameStart fruStep s) := by
  have promoted : s.KeepsChannels (fruStep (promoteSample (countFrame true s))) :=
    ((countFrame_keepsChannels true s).trans (promoteSample_keepsChannels _)).trans (hstep _)
  unfold edgeFrameStart promoteServo
  split
  · split
    · exact hstep s
    · refine State.KeepsChannels.trans ?_ (handFramePose_keepsChannels _)
      exact (promoted.trans (settleExhaustion_keepsChannels _)).trans (.of_blocks rfl rfl)
  · exact raiseServo_keepsChannels hstep 0 s

end

theorem decidePull_keepsChannels (s : State) : s.KeepsChannels (decidePull s) := by
  unfold decidePull
  dsimp only
  split
  · exact .of_blocks rfl rfl
  · split <;> exact onFru_keepsChannels _ s

theorem reachLock_keepsChannels (s : State) : s.KeepsChannels (reachLock s) := by
  unfold reachLock
  split
  · exact edgeFrameStart_keepsChannels (fruStep := jumpLocked) (fun u => .of_blocks rfl rfl) s
  · exact decidePull_keepsChannels s

/-- An edge, by the reference state (R140 to R147). -/
theorem referenceEdge_keepsChannels (s : State) : s.KeepsChannels (referenceEdge s) := by
  unfold referenceEdge
  split
  · exact .refl s
  · dsimp only
    split
    · exact onFru_keepsChannels _ s
    · unfold edgeInAcquiring
      dsimp only
      split
      · split
        · exact (onFru_keepsChannels _ s).trans (reachLock_keepsChannels _)
        · exact onFru_keepsChannels _ s
      · exact onFru_keepsChannels _ s
    · unfold edgeInPulling
      split
      · exact (onFru_keepsChannels _ s).trans (decidePull_keepsChannels _)
      · exact onFru_keepsChannels _ s
    · unfold edgeInLocked
      split
      · exact (onFru_keepsChannels _ s).trans (edgeFrameStart_keepsChannels (fun u => .refl u) _)
      · exact .refl s

end Sys2Proof.Machine
end

section
/-! The channel laws over every command (R63, R174): the part reset, the start of a setting operation, and all that keeps the
laws. -/

namespace Sys2Proof.Machine

open Sys2Proof

/-- A part reset leaves every channel ABSENT or as a trip leaves it, and no setting operation (R154, R190, R210). -/
theorem partReset_keepsChannels (strap : Strap) (answers : Bool) (s : State) :
    s.KeepsChannels (partReset strap answers s) := by
  have examined : ∀ u : State, u.ch.op.kind = .noSetting → (∀ w, (u.chan w).state = .absent) →
      s.KeepsChannels (examineLine u) := by
    intro u op absent
    have loaded : s.KeepsChannels u := .of_idle op fun w => by rw [absent w]; exact ⟨nofun, rfl⟩
    unfold examineLine
    split
    · exact loaded.trans (report_keepsChannels _ _ _ u)
    · exact loaded
  refine examined _ rfl fun w => ?_
  show (((readImage answers (settingsImageAtReset s)).getD Settings.default).chLimits.map Channel.reset |>.get
    (winchIndex w)).state = .absent
  rw [Quad.get_map]
  rfl

theorem hold_of_parkChecks {s : State} (h : firstError [(s.fcu.flight ≠ .hold, .wrongState, 0)] = none) :
    s.fcu.flight = .hold := by
  by_contra hf
  rw [firstError_cons, if_pos (decide_eq_true hf)] at h
  cases h

/-- A record taken past the settings gate finds the part PARKED with no operation in progress (R175, R176). -/
theorem startSetting_of_gate {s : State} {rest : List (Bool × ErrorCode × Nat)}
    (h : firstError (settingsGate s ++ rest) = none) {kind : SettingKind} (asks : kind ≠ .noSetting) (p : Vec3)
    (involved : Quad Bool) : s.KeepsChannels (startSetting kind p involved s) :=
  startSetting_keepsChannels kind p involved asks (parked_of_gate_passes h)
    (noSetting_of_not_busy ((firstError_none_iff _).mp h (busy s, .busy, 0) (by simp [settingsGate])))

/-- Every command keeps the channel laws, where a stream plays in STREAM alone. -/
theorem exec_keepsChannels (c : Instr) {s : State} (hs : streamFlight s) :
    ∃ t, exec c s = .next t ∧ s.KeepsChannels t := by
  cases c with
  | partReset strap answers => exact done_keepsChannels (partReset_keepsChannels strap answers s)
  | estopAssertion =>
    refine done_keepsChannels ?_
    split
    · exact .refl s
    · refine State.KeepsChannels.trans (t := s.onFlt fun t => { t with line := true }) ?_ (report_keepsChannels _ _ _ _)
      exact .of_blocks rfl rfl
  | estopDeassertion => exact done_keepsChannels (.of_blocks rfl rfl)
  | receiveByte =>
    refine done_keepsChannels ?_
    split
    · exact .refl s
    · exact onLink_keepsChannels _ s
  | gapTimeout => exact done_keepsChannels (atExpiry_keepsChannels (onLink_keepsChannels _) _ s)
  | transmitComplete =>
    refine done_keepsChannels ?_
    split
    · exact .refl s
    · exact onLink_keepsChannels _ s
  | ignoredRecord =>
    refine done_keepsChannels ?_
    split
    · exact decodeRecord_keepsChannels (onLink_keepsChannels _ _)
    · exact .refl s
  | queryState | readPose | readSettings => exact decodeCommand_keepsChannels (reply_keepsChannels _ _ _)
  | arm => exact decodeCommand_keepsChannels (answer_keepsChannels fun h => startArming_keepsChannels h)
  | park => exact decodeCommand_keepsChannels (answer_keepsChannels fun h => startParking_keepsChannels (hold_of_parkChecks h))
  | hold seat => exact decodeCommand_keepsChannels (answer_keepsChannels fun _ => holdEffect_keepsChannels seat _)
  | resume seat => exact decodeCommand_keepsChannels (resumeWith_keepsChannels _ _ seat _)
  | step seat => exact decodeCommand_keepsChannels (resumeWith_keepsChannels _ _ seat _)
  | takeStick => exact decodeCommand_keepsChannels (answer_keepsChannels fun _ => takeStick_keepsChannels _)
  | dropStick =>
    refine decodeCommand_keepsChannels (answer_keepsChannels fun h => .of_flight ?_ rfl rfl)
    rw [ack_fcu, stick_of_dropChecks h]
    rfl
  | trip => exact decodeCommand_keepsChannels (answer_keepsChannels fun _ => report_keepsChannels _ _ _ _)
  | clearFaults seat => exact decodeCommand_keepsChannels (clearFaultsRecord_keepsChannels seat _)
  | consent =>
    refine decodeCommand_keepsChannels ?_
    unfold consent
    split <;> exact .of_blocks rfl rfl
  | servicePermit =>
    refine decodeCommand_keepsChannels ?_
    unfold servicePermit
    split <;> exact .of_blocks rfl rfl
  | flushMoves seat => exact decodeCommand_keepsChannels (answer_keepsChannels fun _ => flushMoves_keepsChannels seat _)
  | streamEnd => exact decodeCommand_keepsChannels (answer_keepsChannels fun _ => streamEnd_keepsChannels hs)
  | subscribe =>
    refine decodeCommand_keepsChannels ?_
    unfold subscribe
    split <;> exact .of_blocks rfl rfl
  | zoneRead =>
    refine decodeCommand_keepsChannels ?_
    unfold zoneRead
    split <;> exact .of_blocks rfl rfl
  | markerRead =>
    refine decodeCommand_keepsChannels ?_
    unfold markerRead
    split <;> exact .of_blocks rfl rfl
  | markerClear =>
    refine decodeCommand_keepsChannels ?_
    unfold markerClear
    split
    · exact .of_blocks rfl rfl
    · split <;> exact .of_blocks rfl rfl
  | reference seat =>
    refine decodeCommand_keepsChannels (answer_keepsChannels fun h => ?_)
    exact startSetting_of_gate (s := ack seat 0x1B 0 s.afterDecode) h (by decide) _ _
  | restartDrive =>
    refine decodeCommand_keepsChannels (answer_keepsChannels fun _ => ?_)
    unfold restartDrive
    split
    · exact onChan_keepsChannels (.of_idle nofun rfl)
    · exact .refl _
  | saveSettings =>
    exact decodeCommand_keepsChannels
      (answer_keepsChannels fun _ => (beginPoseWrite_keepsChannels _).trans (onSto_keepsChannels _ _))
  | resetPart => exact decodeCommand_keepsChannels (answer_keepsChannels fun _ => onLink_keepsChannels _ _)
  | stick =>
    refine done_keepsChannels (decodeRecord_keepsChannels ?_)
    unfold stickRecord
    split <;> exact onPln_keepsChannels _ _
  | appendMove =>
    refine decodeCommand_keepsChannels ?_
    unfold appendMove
    dsimp only
    split <;> exact .of_blocks rfl rfl
  | streamStart => exact decodeCommand_keepsChannels (answer_keepsChannels fun _ => onPln_keepsChannels _ _)
  | streamData seat p => exact done_keepsChannels (decodeRecord_keepsChannels (streamRecord_keepsChannels seat p _))
  | zonePut seat p => exact decodeCommand_keepsChannels (zonePut_keepsChannels seat p _)
  | zoneSet seat p => exact decodeCommand_keepsChannels (zoneSet_keepsChannels seat p _)
  | zoneRemove seat p => exact decodeCommand_keepsChannels (zoneRemove_keepsChannels seat p _)
  | markerSet =>
    refine decodeCommand_keepsChannels ?_
    unfold markerSet
    split
    · exact .of_blocks rfl rfl
    · split <;> exact .of_blocks rfl rfl
  | setAnchor =>
    refine decodeCommand_keepsChannels ?_
    unfold setAnchor
    dsimp only
    split <;> exact .of_blocks rfl rfl
  | setWorkspace =>
    refine decodeCommand_keepsChannels ?_
    unfold setWorkspace
    dsimp only
    split <;> exact .of_blocks rfl rfl
  | setChannelLimits =>
    refine decodeCommand_keepsChannels ?_
    unfold setChannelLimits
    dsimp only
    split
    · exact refuse_keepsChannels _ _ _ _
    · exact refuse_keepsChannels _ _ _ _
    · exact (ack_keepsChannels _ _ _ _).trans (onChan_keepsChannels (.of_state rfl))
  | setLimits | setTiming | setHome => exact decodeCommand_keepsChannels (answer_keepsChannels fun _ => .of_blocks rfl rfl)
  | declarePose seat =>
    refine decodeCommand_keepsChannels (answer_keepsChannels fun h => ?_)
    exact (startSetting_of_gate (s := ack seat 0x2D 0 s.afterDecode) h (by decide) _ _).trans (settleSetting_keepsChannels _)
  | servoEvent =>
    refine done_keepsChannels ?_
    split
    · exact .refl s
    · exact (advanceTo_keepsChannels _ s).trans (raiseServo_keepsChannels completePull_keepsChannels _ _)
  | referenceEdge t => exact done_keepsChannels ((advanceTo_keepsChannels t s).trans (referenceEdge_keepsChannels _))
  | acquireSilenceTimeout =>
    refine done_keepsChannels ?_
    split
    · exact atInstant_keepsChannels (onFru_keepsChannels _) _ s
    · exact .refl s
  | pullSilenceTimeout =>
    refine done_keepsChannels ?_
    split
    · exact atInstant_keepsChannels loseReference_keepsChannels _ s
    · exact .refl s
  | windowClose =>
    refine done_keepsChannels ?_
    split
    · exact atInstant_keepsChannels
        (fun u => (onFru_keepsChannels _ u).trans (raiseServo_keepsChannels closeMiss_keepsChannels 0 _)) _ s
    · exact .refl s
  | driveAnswer w bytes => exact done_keepsChannels (driveAnswer_keepsChannels w bytes s)
  | releaseTimeout w => exact done_keepsChannels (stateExpiry_keepsChannels (releaseTimeout_keepsChannels w) w _ s)
  | brakeTimeout w =>
    exact done_keepsChannels (stateExpiry_keepsChannels (fun u => loseChannel_keepsChannels (.of_state rfl)) w _ s)
  | setTimeout w => exact done_keepsChannels (stateExpiry_keepsChannels (settingTimeout_keepsChannels w) w _ s)
  | stickTimerExpiry =>
    refine done_keepsChannels ?_
    split
    · exact atExpiry_keepsChannels (fun u => (onPln_keepsChannels _ u).trans (report_keepsChannels _ _ _ _)) _ s
    · exact .refl s
  | saveWriteStart =>
    refine done_keepsChannels ?_
    split
    · split
      · exact .refl s
      · exact onSto_keepsChannels _ s
    · exact .refl s
  | saveWriteEnd =>
    refine done_keepsChannels ?_
    split
    · refine State.KeepsChannels.trans ?_ (beginPoseWrite_keepsChannels _)
      split <;> exact .of_blocks rfl rfl
    · exact .refl s
  | poseWriteStart => exact done_keepsChannels (beginPoseWrite_keepsChannels s)
  | poseWriteEnd =>
    refine done_keepsChannels ?_
    split
    · exact onSto_keepsChannels _ s
    · exact .refl s

/-- Settles O56: a channel moves only where the part flies, since every way to rest brakes all four; and a setting operation
starts in PARKED with none in progress, and ends with its SETTING channels. -/
theorem channelLawsKept : Obligations.ChannelLawsKept := by
  intro s t hs brake setting hstep
  unfold step at hstep
  split at hstep
  · cases hstep
    exact ⟨brake, setting⟩
  · next c rest hpending =>
    obtain ⟨u, hu, kept⟩ := exec_keepsChannels c (s := { s with pending := rest }) hs
    rw [hu] at hstep
    cases hstep
    exact ⟨kept.brake brake, kept.setting setting⟩

end Sys2Proof.Machine
end

section
/-! The flight control unit's records (R49 to R52, R55 to R62; 11 R207): the bytes CONSENT, SERVICE_PERMIT and SUBSCRIBE take;
ARM's checks and what it starts; PARK; and HOLD by flight state and seat. -/

namespace Sys2Proof.Machine

open Sys2Proof

/-! ## Bytes -/

/-- A SUBSCRIBE byte below 32 is a mask, its bits the five notice categories in order (R207). -/
theorem maskOf_of_lt {b : Byte} (h : b.toNat < 32) :
    maskOf b = some ⟨b.getLsbD 0, b.getLsbD 1, b.getLsbD 2, b.getLsbD 3, b.getLsbD 4⟩ := by
  have bit : ∀ i, flagBit b.toNat i = b.getLsbD i := fun i => Nat.testBit_eq_decide_div_mod_eq.symm
  rw [maskOf, if_pos h]
  simp only [bit]

theorem maskOf_of_ge {b : Byte} (h : 32 ≤ b.toNat) : maskOf b = none := if_neg (Nat.not_lt.mpr h)

section
variable {s : State} {seat : Seat} {d0 : Byte}

theorem consent_of_le (h : d0.toNat ≤ 1) :
    consent seat d0 s = { ack seat 0x12 0 s with fcu := { s.fcu with consent := decide (d0.toNat = 1) } } := by
  unfold consent
  rw [flagByte_of_le h]
  rfl

theorem consent_of_gt (h : 1 < d0.toNat) : consent seat d0 s = refuse seat .badValue 0 s := by
  unfold consent
  rw [flagByte_of_gt h]

theorem servicePermit_of_le (h : d0.toNat ≤ 1) :
    servicePermit seat d0 s = { ack seat 0x13 0 s with fcu := { s.fcu with permit := decide (d0.toNat = 1) } } := by
  unfold servicePermit
  rw [flagByte_of_le h]
  rfl

theorem servicePermit_of_gt (h : 1 < d0.toNat) : servicePermit seat d0 s = refuse seat .badValue 0 s := by
  unfold servicePermit
  rw [flagByte_of_gt h]

theorem subscribe_of_lt (h : d0.toNat < 32) :
    subscribe seat d0 s =
      (ack seat 0x17 d0.toNat s).onLink fun l =>
        { l with
          masks := l.masks.set (seatIndex seat)
            ⟨d0.getLsbD 0, d0.getLsbD 1, d0.getLsbD 2, d0.getLsbD 3, d0.getLsbD 4⟩ } := by
  unfold subscribe
  rw [maskOf_of_lt h]

theorem subscribe_of_ge (h : 32 ≤ d0.toNat) : subscribe seat d0 s = refuse seat .badValue 0 s := by
  unfold subscribe
  rw [maskOf_of_ge h]

end

/-- Settles O16: each record by its data byte. -/
theorem consentPermitAndMask : Obligations.ConsentPermitAndMask := by
  refine ⟨?_, ?_, ?_⟩ <;> intro s seat d0 d1 ht
  · exact ⟨fun h => done_decode_taken ht (consent_of_le h) rfl, fun h => done_decode_refused ht (consent_of_gt h)⟩
  · exact ⟨fun h => done_decode_taken ht (servicePermit_of_le h) rfl,
      fun h => done_decode_refused ht (servicePermit_of_gt h)⟩
  · exact ⟨fun h => done_decode_taken ht (subscribe_of_lt h) rfl, fun h => done_decode_refused ht (subscribe_of_ge h)⟩

/-! ## ARM -/

/-- Every flag is one of the nineteen (R182). -/
theorem mem_allFlags (f : Flag) : f ∈ allFlags := by cases f <;> decide

theorem anySet_tripFlags_iff (s : State) : anySet s tripFlags = true ↔ ∃ f : Flag, f.isTrip = true ∧ (s.flag f).set = true := by
  simp [anySet, tripFlags, mem_allFlags]

/-- Four bits are clear when each winch's is. -/
theorem winchBits_eq_zero {q : Quad Bool} (h : ∀ w, q.get (winchIndex w) = false) : winchBits q = 0 := by
  have clear : q = Quad.fill false := Quad.ext_get fun i => by
    obtain ⟨w, rfl⟩ := exists_winch i
    rw [h, Quad.get_fill]
  rw [clear]
  rfl

theorem absDiff_eq_natAbs (a b : Nat) : absDiff a b = ((a : Int) - b).natAbs := by
  unfold absDiff
  omega

/-- The channels whose measured length is over the pose tolerance from the setpoint at a position (R51). -/
theorem overTolerance_eq (s : State) (p : Vec3) :
    overTolerance s p =
      s.ch.chans.zip s.sol.anchors fun c a =>
        decide (1000 * s.env.limits.poseTol < ((c.last.length : Int) - setpointAt a p).natAbs) := by
  refine Quad.ext_get fun i => ?_
  simp only [overTolerance, setpointsAt, Quad.get_zip, Quad.get_map, absDiff_eq_natAbs]

theorem poseBlock_outside {e : Env} {p : Vec3} (h : inBox e.shrunk p = false) : poseBlock e p = some 0xFF := by
  simp [poseBlock, h]

theorem poseBlock_inside {e : Env} {p : Vec3} (h : inBox e.shrunk p = true) : poseBlock e p = e.blockedAt p := by
  simp [poseBlock, h]

theorem poseBlock_eq_none_iff (e : Env) (p : Vec3) : poseBlock e p = none ↔ e.free p = true := by
  cases h : inBox e.shrunk p <;> simp [poseBlock, Env.free, h]

/-- ARM refused by its first failing check (R51). -/
theorem done_arm_refused {s : State} {seat : Seat} {d0 d1 : Byte} (ht : s.takesRecord ⟨seat, 0x09, [d0, d1]⟩)
    {code : ErrorCode} {detail : Nat} (h : firstError (armChecks s) = some (code, detail)) :
    exec (.arm seat d0 d1) s = .next (s.refused seat code detail) :=
  done_decode_refused ht (answer_refused (checks := armChecks s.afterDecode) h _ _ _ _)

/-- Settles O18: each check of the list with those before it passed. -/
theorem armRefusedInOrder : Obligations.ArmRefusedInOrder := by
  intro s seat d0 d1 ht pose fails faulted underWay idle lost far
  have fails_of : ∀ code detail, firstError (armChecks s) = some (code, detail) → fails code detail :=
    fun _ _ => done_arm_refused ht
  have hfaulted : (anySet s tripFlags || s.flt.line) = true ↔ faulted := by
    rw [Bool.or_eq_true, anySet_tripFlags_iff]
  have hpose : s.fcu.pose = pose := rfl
  have hbusy : busy s = true ↔ underWay := busy_iff s
  have hfar : winchBits (overTolerance s pose.pos) = far := congrArg winchBits (overTolerance_eq s pose.pos)
  have hidle : winchBits (notReady s) = idle := rfl
  have hlost : winchBits (lengthInvalid s) = lost := rfl
  refine ⟨fun flying => fails_of _ _ (by simp [armChecks, flying]), fun parked => ?_⟩
  refine ⟨fun refused => fails_of _ _ (by simp [armChecks, parked, refused]), fun consent => ?_⟩
  refine ⟨fun fault => fails_of _ _ (by simp [armChecks, parked, consent, hfaulted.mpr fault]), fun clear => ?_⟩
  have noFault : (anySet s tripFlags || s.flt.line) = false := eq_false_of_ne_true (hfaulted.not.mpr clear)
  refine ⟨fun saving => fails_of _ _ (by simp [armChecks, parked, consent, noFault, hbusy.mpr saving]), fun settled => ?_⟩
  have notBusy : busy s = false := eq_false_of_ne_true (hbusy.not.mpr settled)
  refine ⟨fun unset => fails_of _ _ (by simp [armChecks, parked, consent, noFault, notBusy, unset]), fun box => ?_⟩
  refine ⟨fun missing => fails_of _ _ (by simp [armChecks, parked, consent, noFault, notBusy, box, hidle, missing]),
    fun ready => ?_⟩
  have past : firstError (armChecks s) = firstError ((armChecks s).drop 6) := by
    simp [armChecks, parked, consent, noFault, notBusy, box, hidle, ready]
  rw [past] at fails_of
  refine ⟨fun unknown => fails_of _ _ (by simp [armChecks, hlost, hpose, unknown]), fun ⟨found, valid⟩ => ?_⟩
  refine ⟨fun outside => fails_of _ _ ?_, fun slot inside held => fails_of _ _ ?_, fun free off => fails_of _ _ ?_⟩
  · simp [armChecks, hlost, hpose, found, valid, poseBlock_outside outside]
  · simp [armChecks, hlost, hpose, found, valid, poseBlock_inside inside, held]
  · simp [armChecks, hlost, hpose, found, valid, (poseBlock_eq_none_iff _ _).mpr free, hfar, off]

/-- ARM taken, whole: every channel is READY and takes the release request (R52, R161). -/
theorem startArming_eq {s : State} (ready : ∀ w, (s.chan w).state = .ready) :
    startArming s =
      { s with
        fcu := { s.fcu with flight := .arming }
        pln := { s.pln with pos := s.fcu.pose.pos, holdPos := s.fcu.pose.pos, vel := Vec3.zero }
        ch := { s.ch with chans := s.ch.chans.map fun c => { c with state := .releasing, timer := some 500000 } } } := by
  have released : s.ch.chans.map Channel.release =
      s.ch.chans.map fun c => { c with state := .releasing, timer := some 500000 } := by
    refine Quad.ext_get fun i => ?_
    obtain ⟨w, rfl⟩ := exists_winch i
    rw [Quad.get_map, Quad.get_map]
    exact if_pos (ready w)
  rw [← released]
  rfl

/-! ## PARK -/

/-- PARK taken, whole (R56). -/
theorem startParking_eq (s : State) :
    startParking s =
      { s with
        fcu := { s.fcu with flight := .parking }
        pln := { s.pln with vel := Vec3.zero, stream := s.pln.stream.unprimed }
        ch :=
          { s.ch with
            chans := s.ch.chans.map fun c =>
              if c.state = .releasing ∨ c.state = .streaming then
                { c with
                  state := .braking, timer := some 500000, slackCount := 0, overCount := 0, followCount := 0,
                  warning := false }
              else c } } := by
  rw [startParking, cancelPrimed_eq]
  rfl

/-- Settles O17: ARM's nine checks all pass, and the release request is taken in READY; PARK by its one check. -/
theorem armAndParkTaken : Obligations.ArmAndParkTaken := by
  constructor
  · intro s seat d0 d1 ht parked consent clear line save op box ready found valid free near
    have noFault : anySet s tripFlags = false := by
      refine eq_false_of_ne_true fun h => ?_
      obtain ⟨f, trips, set⟩ := (anySet_tripFlags_iff s).mp h
      rw [clear f trips] at set
      cases set
    have notBusy : busy s = false := eq_false_of_ne_true ((busy_iff s).not.mpr (by simp [save, op]))
    have noneIdle : winchBits (notReady s) = 0 := winchBits_eq_zero fun w => by
      simpa [notReady, State.chan] using ready w
    have noneLost : winchBits (lengthInvalid s) = 0 := winchBits_eq_zero fun w => by
      simpa [lengthInvalid, State.chan] using found w
    have noneFar : winchBits (overTolerance s s.fcu.pose.pos) = 0 := winchBits_eq_zero fun w => by
      obtain ⟨long, short⟩ := near w
      rw [overTolerance_eq, Quad.get_zip, decide_eq_false_iff_not]
      unfold State.chan at long short
      omega
    have passes : firstError (armChecks s) = none := by
      simp [armChecks, parked, consent, noFault, line, notBusy, box, noneIdle, noneLost, valid,
        (poseBlock_eq_none_iff _ _).mpr free, noneFar]
    refine done_decode_taken ht ((answer_taken (checks := armChecks s.afterDecode) passes _ _ _ _).trans ?_) rfl
    exact startArming_eq (s := s.acked seat 0x09 0) ready
  · intro s seat d0 d1 ht
    refine ⟨fun flying => done_decode_refused ht (answer_refused ?_ _ _ _ _), fun hold => ?_⟩
    · simp [flying]
    · refine done_decode_taken ht ((answer_taken ?_ _ _ _ _).trans (startParking_eq (s.acked seat 0x0A 0))) rfl
      simp [hold]

/-! ## HOLD -/

section
variable {s : State} {seat : Seat}

/-- HOLD in HOLD cancels a PRIMED stream from SAFETY alone (R58). -/
theorem holdEffect_hold (h : s.fcu.flight = .hold) :
    holdEffect seat s =
      if seat = .safety then { s with pln := { s.pln with stream := s.pln.stream.unprimed } } else s := by
  rw [← cancelPrimed_eq]
  simp only [holdEffect, h]

theorem holdEffect_arming (h : s.fcu.flight = .arming) : holdEffect seat s = s := by
  simp only [holdEffect, h]

/-- HOLD of a moving move starts a path stop at the move's own rate, at least 1 µm/s, or the emergency rate (R59, R84). -/
theorem holdEffect_moving {m : MoveInHand} (h : s.fcu.flight = .track) (hm : s.pln.inHand = some m)
    (moving : m.phase = .moving) :
    holdEffect seat s =
      { s with
        fcu := { s.fcu with flight := .stopping, cause := holdCause seat }
        pln :=
          { s.pln with
            inHand := some { m with stepFlag := false }
            stop := some ⟨.path, holdRate seat (stepMove m.accel s.fru.timing.ts) s⟩ } } := by
  simp only [holdEffect, h, holdInTrack, hm, moving]
  rfl

/-- HOLD of a dwell ends it in HOLD (R85). -/
theorem holdEffect_dwelling {m : MoveInHand} (h : s.fcu.flight = .track) (hm : s.pln.inHand = some m)
    (dwelling : m.phase = .dwelling) :
    holdEffect seat s =
      notice .holding (holdCause seat).code.toNat { s with
        fcu := { s.fcu with flight := .hold, cause := holdCause seat }
        pln := { s.pln with inHand := none, holdPos := s.pln.pos, vel := Vec3.zero, stop := none }
        mrk := { s.mrk with holdPending := false } } := by
  simp only [holdEffect, h, holdInTrack, hm, dwelling]
  rfl

/-- HOLD in STICK starts an axis stop with the stick at rest (R59, R102). -/
theorem holdEffect_stick (h : s.fcu.flight = .stick) :
    holdEffect seat s =
      { s with
        fcu := { s.fcu with flight := .stopping, cause := holdCause seat }
        pln :=
          { s.pln with
            stick := { s.pln.stick with q := Vec3.zero, timer := none }
            stop := some ⟨.axis, holdRate seat (stepStick s) s⟩ } } := by
  simp only [holdEffect, h]
  rfl

/-- HOLD in STREAM starts an axis stop with the stream cancelled (R59, R124). -/
theorem holdEffect_stream (h : s.fcu.flight = .stream) :
    holdEffect seat s =
      { s with
        fcu := { s.fcu with flight := .stopping, cause := holdCause seat }
        pln := { s.pln with stream := s.pln.stream.emptied, stop := some ⟨.axis, holdRate seat (stepStream s) s⟩ } } := by
  simp only [holdEffect, h]
  rfl

/-- HOLD in STOPPING raises a lower rate from SAFETY alone (R60). -/
theorem holdEffect_stopping {st : Stop} (h : s.fcu.flight = .stopping) (hs : s.pln.stop = some st) :
    holdEffect seat s =
      if seat = .safety ∧ st.rate < stepEmergency s then
        { s with
          fcu := { s.fcu with cause := .safetyHold }
          pln := { s.pln with stop := some ⟨st.kind, stepEmergency s⟩ } }
      else s := by
  have raised : startStop st.kind (stepEmergency s) .safetyHold s =
      { s with
        fcu := { s.fcu with cause := .safetyHold }
        pln := { s.pln with stop := some ⟨st.kind, stepEmergency s⟩ } } := by
    rw [startStop_eq, ← h]
  rw [← raised]
  simp only [holdEffect, h, holdInStopping, hs]

variable {d0 d1 : Byte} (ht : s.takesRecord ⟨seat, 0x0B, [d0, d1]⟩)
include ht

/-- HOLD refused by the flight state (R57, R58, R64). -/
theorem done_hold_refused (h : refusesHold s.fcu.flight = true) :
    exec (.hold seat d0 d1) s = .next (s.refused seat .wrongState 0) :=
  done_decode_refused ht (answer_refused (by simp [h]) _ _ _ _)

/-- HOLD taken: its effect by flight state after its ACK (R59). -/
theorem done_hold (h : refusesHold s.fcu.flight = false) {t : State} (effect : holdEffect seat (s.acked seat 0x0B 0) = t) :
    exec (.hold seat d0 d1) s = .next (deliver t) := by
  have taken : decodeCommand 0x0B seat [d0, d1]
      (fun s => answer seat 0x0B [(refusesHold s.fcu.flight, .wrongState, 0)] (holdEffect seat) s) s = t := by
    rw [decodeCommand_taken ht, answer_taken (by simp [h])]
    exact effect
  exact congrArg done taken

/-- HOLD taken with no notice handed over. -/
theorem done_hold_silent (h : refusesHold s.fcu.flight = false) {t : State} (effect : holdEffect seat (s.acked seat 0x0B 0) = t)
    (silent : t.link.handed = s.link.handed) : exec (.hold seat d0 d1) s = .next t := by
  rw [done_hold ht h effect, deliver_of_none (silent.trans ht.handed)]

end

/-- Settles O19: HOLD's one check, and its effect in each flight state. -/
theorem holdBySeatAndState : Obligations.HoldBySeatAndState := by
  intro s seat d0 d1 ht a cause emergency rate gives
  refine ⟨fun h => done_hold_refused ht ?_, fun h => ?_, fun h safety => ?_, fun h safety => ?_, fun m h hm moving => ?_,
    fun m h hm dwelling => ?_, fun h => ?_, fun h => ?_, fun st h hs => ⟨fun safety lower => ?_, fun keeps => ?_⟩⟩
  · rcases h with h | h | h <;> rw [h] <;> rfl
  all_goals have taken : refusesHold s.fcu.flight = false := by rw [h]; rfl
  · exact done_hold_silent ht taken (holdEffect_arming (s := a) h) rfl
  · exact done_hold_silent ht taken ((holdEffect_hold (s := a) h).trans (if_neg safety)) rfl
  · exact done_hold_silent ht taken ((holdEffect_hold (s := a) h).trans (if_pos safety)) rfl
  · exact done_hold_silent ht taken (holdEffect_moving (s := a) h hm moving) rfl
  · exact done_hold ht taken (holdEffect_dwelling (s := a) h hm dwelling)
  · exact done_hold_silent ht taken (holdEffect_stick (s := a) h) rfl
  · exact done_hold_silent ht taken (holdEffect_stream (s := a) h) rfl
  · exact done_hold_silent ht taken ((holdEffect_stopping (s := a) h hs).trans (if_pos ⟨safety, lower⟩)) rfl
  · refine done_hold_silent ht taken ((holdEffect_stopping (s := a) h hs).trans (if_neg ?_)) rfl
    rintro ⟨safety, lower⟩
    exact keeps.elim (· safety) (Nat.not_le.mpr lower)

end Sys2Proof.Machine
end

section
/-! The commanded position by flight state (R43), and ENV's answers about a point and a segment (R19, R28, R33 to R35): the slot
that blocks a point, and the exact segment test. -/

namespace Sys2Proof.Machine

open Sys2Proof

/-! ## The slot that blocks a point -/

/-- An active KEEP_OUT zone holds a point, its box inflated (R28). -/
def Env.keptOutBy (e : Env) (p : Vec3) (slot : Nat) : Prop := ∃ b, (slot, b) ∈ e.keepOuts ∧ inBox b p = true

/-- In a list in slot order the first box that holds a point is that of the lowest slot that blocks it. -/
theorem lowest_of_blockedAt {e : Env} {p : Vec3} {slot : Nat} (h : e.blockedAt p = some slot) :
    e.keptOutBy p slot ∧ ∀ lower, lower < slot → ¬ e.keptOutBy p lower := by
  obtain ⟨⟨slot', b⟩, found, rfl⟩ := Option.map_eq_some_iff.mp h
  obtain ⟨held, before, after, split, clear⟩ := List.find?_eq_some_iff_append.mp found
  have sorted := keepOuts_sorted e
  rw [split, List.pairwise_append, List.pairwise_cons] at sorted
  obtain ⟨-, ⟨later, -⟩, -⟩ := sorted
  refine ⟨⟨b, List.mem_of_find?_eq_some found, held⟩, ?_⟩
  rintro lower below ⟨b', mem, held'⟩
  rw [split, List.mem_append, List.mem_cons] at mem
  obtain early | same | late := mem
  · simpa [held'] using clear _ early
  · obtain ⟨rfl, -⟩ := Prod.mk.inj same
    exact lt_irrefl _ below
  · exact lt_asymm below (later _ late)

theorem blockedAt_eq_none_iff (e : Env) (p : Vec3) : e.blockedAt p = none ↔ ∀ slot, ¬ e.keptOutBy p slot := by
  simp only [Env.blockedAt, Option.map_eq_none_iff, List.find?_eq_none, Env.keptOutBy, not_exists, not_and, Prod.forall]

/-- The slot that blocks a point is the lowest whose box holds it (R51, R175). -/
theorem blockedAt_eq_some_iff (e : Env) (p : Vec3) (slot : Nat) :
    e.blockedAt p = some slot ↔ e.keptOutBy p slot ∧ ∀ lower, lower < slot → ¬ e.keptOutBy p lower := by
  refine ⟨lowest_of_blockedAt, fun ⟨held, lowest⟩ => ?_⟩
  cases hb : e.blockedAt p with
  | none => exact absurd held ((blockedAt_eq_none_iff e p).mp hb slot)
  | some other =>
    obtain ⟨held', lowest'⟩ := lowest_of_blockedAt hb
    obtain below | same | above := lt_trichotomy other slot
    · exact absurd held' (lowest other below)
    · rw [same]
    · exact absurd held (lowest' slot above)

/-- A point is free in the shrunk workspace and outside every active inflated KEEP_OUT box (R40). -/
theorem free_iff_not_keptOut (e : Env) (p : Vec3) :
    e.free p = true ↔ inBox e.shrunk p = true ∧ ∀ slot, ¬ e.keptOutBy p slot := by
  rw [← blockedAt_eq_none_iff, Env.free, Bool.and_eq_true, Option.isNone_iff_eq_none]

/-! ## The segment test -/

/-- A span admits a parameter: it lies between the span's two fractions (R34). -/
def Span.admits (sp : Span) (t : ℚ) : Prop := (sp.entry : ℚ) ≤ t * sp.den ∧ t * sp.den ≤ sp.exit

theorem Span.admits_iff {sp : Span} (pos : 0 < sp.den) (t : ℚ) :
    sp.admits t ↔ (sp.entry : ℚ) / sp.den ≤ t ∧ t ≤ (sp.exit : ℚ) / sp.den := by
  have pos' : (0 : ℚ) < sp.den := by exact_mod_cast pos
  rw [Span.admits, div_le_iff₀ pos', le_div_iff₀ pos']

/-- An entry and an exit compared by cross products (R34). -/
theorem entry_le_exit_iff {a b : Span} (ha : 0 < a.den) (hb : 0 < b.den) :
    a.entry * b.den ≤ b.exit * a.den ↔ (a.entry : ℚ) / a.den ≤ (b.exit : ℚ) / b.den := by
  rw [div_le_div_iff₀ (by exact_mod_cast ha) (by exact_mod_cast hb)]
  exact_mod_cast Iff.rfl

/-- Spans have a parameter in common exactly when no entry of one is greater than an exit of another: the largest entry is
such a parameter (R34). -/
theorem exists_admitted_iff {all : List Span} (nonempty : all ≠ []) (pos : ∀ sp ∈ all, 0 < sp.den) :
    (∃ t : ℚ, ∀ sp ∈ all, sp.admits t) ↔ ∀ a ∈ all, ∀ b ∈ all, a.entry * b.den ≤ b.exit * a.den := by
  constructor
  · rintro ⟨t, ht⟩ a ha b hb
    rw [entry_le_exit_iff (pos a ha) (pos b hb)]
    exact ((Span.admits_iff (pos a ha) t).mp (ht a ha)).1.trans ((Span.admits_iff (pos b hb) t).mp (ht b hb)).2
  · intro cross
    obtain ⟨top, mem, largest⟩ := all.toFinset.exists_max_image (fun sp => (sp.entry : ℚ) / sp.den)
      (List.toFinset_nonempty_iff all |>.mpr nonempty)
    rw [List.mem_toFinset] at mem
    refine ⟨(top.entry : ℚ) / top.den, fun sp hsp => (Span.admits_iff (pos sp hsp) _).mpr ⟨?_, ?_⟩⟩
    · exact largest sp (List.mem_toFinset.mpr hsp)
    · exact (entry_le_exit_iff (pos top mem) (pos sp hsp)).mp (cross top mem sp hsp)

/-- The spans of the axes meet exactly when one parameter from 0 to 1 lies in each of them (R34). -/
theorem spansMeet_iff {spans : List Span} (pos : ∀ sp ∈ spans, 0 < sp.den) :
    spansMeet spans = true ↔ ∃ t : ℚ, 0 ≤ t ∧ t ≤ 1 ∧ ∀ sp ∈ spans, sp.admits t := by
  have unit : ∀ t : ℚ, (⟨0, 1, 1⟩ : Span).admits t ↔ 0 ≤ t ∧ t ≤ 1 := fun t => by simp [Span.admits]
  have common := exists_admitted_iff (List.cons_ne_nil (⟨0, 1, 1⟩ : Span) spans)
    (List.forall_mem_cons.mpr ⟨Nat.one_pos, pos⟩)
  simp only [List.forall_mem_cons (p := fun sp : Span => sp.admits _), unit, and_assoc] at common
  rw [common]
  simp only [spansMeet, List.all_eq_true, decide_eq_true_eq]

/-- A coordinate of a segment lies in a range at a parameter. -/
def withinAt (p0 p1 lo hi : Int) (t : ℚ) : Prop :=
  (lo : ℚ) ≤ p0 + t * (p1 - p0) ∧ (p0 : ℚ) + t * (p1 - p0) ≤ hi

/-- An axis that admits nothing has no point of the segment in its range (R34). -/
theorem not_withinAt_of_axisSpan_none {p0 p1 lo hi : Int} (h : axisSpan p0 p1 lo hi = none) (t : ℚ) :
    ¬ withinAt p0 p1 lo hi t := by
  unfold axisSpan at h
  dsimp only at h
  split at h
  · next still =>
    split at h
    · cases h
    · next out =>
      rintro ⟨above, below⟩
      have same : p1 = p0 := by omega
      subst same
      refine out ⟨?_, ?_⟩ <;> [simpa using above; simpa using below]
  · split at h <;> cases h

/-- The span of an axis admits exactly the parameters from 0 to 1 at which the segment is in its range (R34). -/
theorem axisSpan_admits_iff {p0 p1 lo hi : Int} {sp : Span} (h : axisSpan p0 p1 lo hi = some sp) :
    0 < sp.den ∧ ∀ t : ℚ, 0 ≤ t → t ≤ 1 → (sp.admits t ↔ withinAt p0 p1 lo hi t) := by
  unfold axisSpan at h
  dsimp only at h
  split at h
  · next still =>
    split at h <;> cases h
    next inside =>
    have same : p1 = p0 := by omega
    subst same
    refine ⟨Nat.one_pos, fun t h0 h1 => ⟨fun _ => ?_, fun _ => by simpa [Span.admits] using ⟨h0, h1⟩⟩⟩
    simpa [withinAt] using inside
  · next moves =>
    split at h <;> cases h
    · next up =>
      refine ⟨Int.natAbs_pos.mpr moves, fun t _ _ => ?_⟩
      have den : (((p1 - p0).natAbs : Nat) : ℚ) = p1 - p0 := by
        rw [← Int.cast_natCast, Int.natAbs_of_nonneg up.le]
        push_cast
        rfl
      simp only [Span.admits, withinAt, den, Int.cast_sub]
      constructor <;> rintro ⟨h1, h2⟩ <;> constructor <;> linarith
    · next up =>
      refine ⟨Int.natAbs_pos.mpr moves, fun t _ _ => ?_⟩
      have den : (((p1 - p0).natAbs : Nat) : ℚ) = p0 - p1 := by
        rw [← Int.cast_natCast, Int.ofNat_natAbs_of_nonpos (by omega)]
        push_cast
        ring
      simp only [Span.admits, withinAt, den, Int.cast_sub]
      constructor <;> rintro ⟨h1, h2⟩ <;> constructor <;> linarith

theorem forall_axis {P : Axis → Prop} : (∀ axis, P axis) ↔ P .x ∧ P .y ∧ P .z :=
  ⟨fun h => ⟨h .x, h .y, h .z⟩, fun ⟨hx, hy, hz⟩ axis => by cases axis <;> assumption⟩

/-- The segment test is exact (R34). -/
theorem segmentMeets_iff (p0 p1 : Vec3) (b : Box) :
    segmentMeets p0 p1 b = true ↔
      ∃ t : ℚ, 0 ≤ t ∧ t ≤ 1 ∧ ∀ axis, withinAt (p0.get axis) (p1.get axis) (b.lo.get axis) (b.hi.get axis) t := by
  simp only [forall_axis, Vec3.get]
  unfold segmentMeets
  split
  · next sx sy sz hx hy hz =>
    obtain ⟨px, ax⟩ := axisSpan_admits_iff hx
    obtain ⟨py, ay⟩ := axisSpan_admits_iff hy
    obtain ⟨pz, az⟩ := axisSpan_admits_iff hz
    rw [spansMeet_iff (by simp [px, py, pz])]
    refine exists_congr fun t => and_congr_right fun h0 => and_congr_right fun h1 => ?_
    simp only [List.forall_mem_cons, List.not_mem_nil, ax t h0 h1, ay t h0 h1, az t h0 h1]
    simp
  · next none =>
    refine iff_of_false Bool.false_ne_true ?_
    rintro ⟨t, -, -, hx, hy, hz⟩
    have some_of : ∀ {p0 p1 lo hi : Int}, withinAt p0 p1 lo hi t → ∃ sp, axisSpan p0 p1 lo hi = some sp := fun h =>
      Option.ne_none_iff_exists'.mp fun hn => not_withinAt_of_axisSpan_none hn t h
    obtain ⟨sx, ex⟩ := some_of hx
    obtain ⟨sy, ey⟩ := some_of hy
    obtain ⟨sz, ez⟩ := some_of hz
    exact none sx sy sz ex ey ez

/-- Settles O39: the commanded position by its cases, the zone list by its members, and the segment test by the parameter at the
largest entry. -/
theorem positionAndEnvelopeTests : Obligations.PositionAndEnvelopeTests := by
  refine ⟨fun s => ?_, inBox_iff, fun margin b axis => ?_, fun e => ?_, fun p0 p1 b _ => segmentMeets_iff p0 p1 b⟩
  · intro f
    refine ⟨commandedPosition_parked, commandedPosition_parking, commandedPosition_tripped, fun flies => ?_⟩
    refine commandedPosition_flying ?_
    rcases flies with h | h | h | h | h | h <;> rw [show s.fcu.flight = _ from h] <;> rfl
  · cases axis <;> exact ⟨rfl, rfl, rfl, rfl, rfl, rfl⟩
  · intro keepsOut blocks
    have hkeeps : ∀ slot b, keepsOut slot b ↔ (slot, b) ∈ e.keepOuts := fun slot b => (mem_keepOuts e slot b).symm
    have hblocks : ∀ p slot, blocks p slot ↔ e.keptOutBy p slot := fun p slot =>
      exists_congr fun b => and_congr_left fun _ => hkeeps slot b
    simp only [hblocks, hkeeps]
    refine ⟨rfl, blockedAt_eq_some_iff e, blockedAt_eq_none_iff e, free_iff_not_keptOut e, fun p0 p1 => ?_⟩
    simp [Env.pathBlocked]

end Sys2Proof.Machine
end

section
/-! The path of a move (R76 to R78): the profile's step and its bounds, and the point of the path at a progress. -/

namespace Sys2Proof.Machine

open Sys2Proof

/-! ## Rounded quotients -/

/-- A rounded quotient is not over a whole number the exact one is not over (R2). -/
theorem roundNat_le_of_le_mul {n k b : Nat} (hb : 0 < b) (h : n ≤ k * b) : roundNat n b ≤ k := by
  have exact_le : n / b ≤ k := Nat.div_le_of_le_mul (by rwa [Nat.mul_comm])
  unfold roundNat
  rcases exact_le.lt_or_eq with below | rfl
  · split <;> omega
  · have whole : n % b = 0 := by
      have := Nat.div_add_mod' n b
      omega
    rw [whole, if_neg (by omega), Nat.add_zero]

/-- A whole quotient is not rounded (R2). -/
theorem roundNat_mul_self (k : Nat) {b : Nat} (hb : 0 < b) : roundNat (k * b) b = k := by
  unfold roundNat
  rw [Nat.mul_div_cancel k hb, Nat.mul_mod_left, if_neg (by omega)]
  rfl

theorem roundInt_mul_self (d : Int) {b : Nat} (hb : 0 < b) : roundInt (d * b) b = d := by
  have magnitude : roundNat (d * b).natAbs b = d.natAbs := by
    rw [Int.natAbs_mul, Int.natAbs_natCast, roundNat_mul_self _ hb]
  have sign : d * b < 0 ↔ d < 0 := by
    have : (0 : Int) < b := by exact_mod_cast hb
    constructor <;> intro h <;> nlinarith
  rw [roundInt, magnitude]
  simp only [sign]
  split <;> omega

/-- A part of a number, rounded, lies between 0 and the number (R2, R78). -/
theorem roundInt_between (d : Int) {s b : Nat} (hb : 0 < b) (h : s ≤ b) :
    min 0 d ≤ roundInt (d * s) b ∧ roundInt (d * s) b ≤ max 0 d := by
  have magnitude : roundNat (d * s).natAbs b ≤ d.natAbs := by
    rw [Int.natAbs_mul, Int.natAbs_natCast]
    exact roundNat_le_of_le_mul hb (Nat.mul_le_mul_left _ h)
  unfold roundInt
  split
  · next negative =>
    have : d < 0 := by
      by_contra positive
      exact absurd (mul_nonneg (not_lt.mp positive) (Int.natCast_nonneg s)) (not_le.mpr negative)
    omega
  · next nonneg =>
    by_cases positive : 0 ≤ d
    · omega
    · have still : d * s = 0 := by
        have := mul_nonpos_of_nonpos_of_nonneg (not_le.mp positive).le (Int.natCast_nonneg s)
        omega
      rw [still] at magnitude ⊢
      have : roundNat (0 : Int).natAbs b = 0 := Nat.le_zero.mp (roundNat_le_of_le_mul hb (by simp))
      omega

/-! ## The point of the path -/

theorem pathPoint_get (start target : Vec3) (s dist : Nat) (axis : Axis) :
    (pathPoint start target s dist).get axis =
      start.get axis + roundInt ((target.get axis - start.get axis) * s) dist := by
  cases axis <;> rfl

theorem Vec3.ext_get {p q : Vec3} (h : ∀ axis, p.get axis = q.get axis) : p = q := by
  obtain ⟨x, y, z⟩ := p
  exact congr (congr (congrArg Vec3.mk (h .x)) (h .y)) (h .z)

section
variable (start target : Vec3) {dist : Nat} (hd : 0 < dist)
include hd

/-- At its begin a path is at its start (R78). -/
theorem pathPoint_begin : pathPoint start target 0 dist = start := Vec3.ext_get fun axis => by
  have none : roundInt (0 * dist) dist = 0 := roundInt_mul_self 0 hd
  rw [zero_mul] at none
  rw [pathPoint_get, Nat.cast_zero, mul_zero, none, add_zero]

/-- At its end a path is at its target (R78). -/
theorem pathPoint_end : pathPoint start target dist dist = target := Vec3.ext_get fun axis => by
  rw [pathPoint_get, roundInt_mul_self _ hd]
  omega

/-- A path lies between its ends on every axis (R78). -/
theorem pathPoint_between {s : Nat} (h : s ≤ dist) (axis : Axis) :
    min (start.get axis) (target.get axis) ≤ (pathPoint start target s dist).get axis ∧
      (pathPoint start target s dist).get axis ≤ max (start.get axis) (target.get axis) := by
  have part := roundInt_between (target.get axis - start.get axis) hd h
  rw [pathPoint_get]
  omega

end

/-! ## The profile -/

/-- The ceiling step rises to the ceiling at most, and falls from above it (R77, step 1). -/
theorem ceilingStep_le (v dv cm : Nat) : ceilingStep v dv cm ≤ max v cm := by
  unfold ceilingStep
  split <;> omega

theorem profileSpeed_le (a dv cm v r : Nat) : profileSpeed a dv cm v r ≤ max v cm :=
  (min_le_left _ _).trans (ceilingStep_le v dv cm)

/-- A step on a path that has not ended moves on, and not past its end (R77, step 3). -/
theorem pathStep_bounds {r : Nat} (hr : 0 < r) (v ts : Nat) : 0 < pathStep v r ts ∧ pathStep v r ts ≤ r := by
  unfold pathStep
  omega

/-- Settles O24: the profile by the ceiling step and the step's bounds, the path's point by the rounding of a part of an axis
difference. -/
theorem pathProfileBounds : Obligations.PathProfileBounds := by
  refine ⟨fun ts ceiling m moving => ?_, pathPoint_get, fun start target s dist hd hs =>
    ⟨pathPoint_begin start target hd, pathPoint_end start target hd, pathPoint_between start target hd hs⟩⟩
  intro v r dv cm up v' taken
  have below : v' ≤ max v cm := profileSpeed_le (1000 * m.accel) dv cm v r
  obtain ⟨on, notPast⟩ : 0 < taken ∧ taken ≤ r := pathStep_bounds (Nat.sub_pos_of_lt moving) v' ts
  refine ⟨rfl, Nat.lt_add_of_pos_right on, by omega, below, fun within => ?_⟩
  rwa [max_eq_right within] at below

end Sys2Proof.Machine
end

section
/-! The move queue's records (R65, R66, R68, R70 to R72, R86, R87): FLUSH_MOVES by seat, APPEND_MOVE's checks in order, the record
it stores, and the predicted start. -/

namespace Sys2Proof.Machine

open Sys2Proof

/-! ## FLUSH_MOVES -/

theorem suspendedMove_of_suspended {s : State} {h : MoveInHand} (hand : s.pln.inHand = some h) (phase : h.phase = .suspended) :
    suspendedMove s = some h.move := by
  simp only [suspendedMove, hand, phase, if_true]

theorem suspendedMove_of_not_suspended {s : State} (hand : ∀ h, s.pln.inHand = some h → h.phase ≠ .suspended) :
    suspendedMove s = none := by
  unfold suspendedMove
  split
  · next h hh => exact if_neg (hand h hh)
  · rfl

section
variable {s : State} {seat : Seat}

/-- DIRECTOR takes its own records out of the queue (R87). -/
theorem flushMoves_director :
    flushMoves .director s = { s with pln := { s.pln with queue := s.pln.queue.filter fun m => m.origin ≠ .director } } := rfl

/-- Another seat empties the queue and discards a suspended move (R86). -/
theorem flushMoves_suspended (other : seat ≠ .director) {h : MoveInHand} (hand : s.pln.inHand = some h)
    (phase : h.phase = .suspended) :
    flushMoves seat s =
      { s with pln := { s.pln with queue := [], inHand := none }, mrk := { s.mrk with holdPending := false } } := by
  have held : suspendedMove (flushQueue s) = some h.move := suspendedMove_of_suspended (s := flushQueue s) hand phase
  rw [flushMoves, if_neg other, discardSuspended, held]
  rfl

/-- Another seat empties the queue and leaves an active move (R86). -/
theorem flushMoves_active (other : seat ≠ .director) (hand : ∀ h, s.pln.inHand = some h → h.phase ≠ .suspended) :
    flushMoves seat s = { s with pln := { s.pln with queue := [] }, mrk := { s.mrk with holdPending := false } } := by
  have held : suspendedMove (flushQueue s) = none := suspendedMove_of_not_suspended (s := flushQueue s) hand
  rw [flushMoves, if_neg other, discardSuspended, held]
  rfl

end

/-- Settles O22: FLUSH_MOVES has no check of its own, and its effect goes by the seat and the move in hand. -/
theorem flushMovesBySeat : Obligations.FlushMovesBySeat := by
  intro s seat d0 d1 ht a
  have taken : ∀ {t : State}, flushMoves seat a = t → t.link.handed = s.link.handed →
      exec (.flushMoves seat d0 d1) s = .next t :=
    fun effect => done_decode_taken ht ((answer_taken firstError_nil _ _ _ _).trans effect)
  refine ⟨?_, fun other ⟨h, hand, phase⟩ => ?_, fun other hand => ?_⟩
  · rintro rfl
    exact taken flushMoves_director rfl
  · exact taken (flushMoves_suspended (s := a) other hand phase) rfl
  · exact taken (flushMoves_active (s := a) other hand) rfl

/-! ## The predicted start -/

section
variable {s : State}

/-- The tail's target (R71, case 1). -/
theorem predictedStart_tail {front : List Move} {last : Move} (h : s.pln.queue = front ++ [last]) :
    predictedStart s = some (toMicrons last.target) := by
  simp only [predictedStart, h, List.getLast?_concat]
  rfl

variable (h : s.pln.queue = [])
include h

theorem predictedStart_empty : predictedStart s = (handTarget s).or (restingPlace s) := by
  simp only [predictedStart, h, List.getLast?_nil]

/-- The target of the move in hand (R71, case 2). -/
theorem predictedStart_hand {m : MoveInHand} (hand : s.pln.inHand = some m) (phase : m.phase ≠ .abandoned) :
    predictedStart s = some (toMicrons m.move.target) := by
  simp only [predictedStart_empty h, handTarget, hand, if_neg phase, Option.some_or]
  rfl

/-- The resting place where no move in hand counts (R71, cases 3 and 4). -/
theorem predictedStart_rest (hand : s.pln.inHand = none ∨ ∃ m, s.pln.inHand = some m ∧ m.phase = .abandoned) :
    predictedStart s = restingPlace s := by
  have none : handTarget s = none := by
    rcases hand with empty | ⟨m, held, abandoned⟩
    · simp only [handTarget, empty]
    · simp only [handTarget, held, abandoned, if_true]
  rw [predictedStart_empty h, none, Option.none_or]

end

/-! ## APPEND_MOVE -/

/-- The record is stored as it came exactly when neither limit is under its field (R66). -/
theorem clampMove_eq_self_iff (l : Limits) (m : Move) :
    clampMove l m = m ↔ ¬ (l.vmax < m.cruise ∨ ∃ a, m.accel = some a ∧ l.amoveMax < a) := by
  obtain ⟨id, target, cruise, tagged, notifyBegin, notifyDone, accel, dwell, origin⟩ := m
  cases accel <;> simp [clampMove]

section
variable {s : State} {seat : Seat} {p : List Byte} (ht : s.takesRecord ⟨seat, 0x21, p⟩)
include ht

/-- APPEND_MOVE refused by its first failing check (R72). -/
theorem done_append_refused {code : ErrorCode} (h : firstError (appendChecks (moveOf p seat) p s) = some (code, 0)) :
    exec (.appendMove seat p) s = .next (s.refused seat code 0) := by
  have checked : firstError (appendChecks (moveOf p seat) p s.afterDecode) = some (code, 0) := h
  refine done_decode_refused ht ?_
  simp only [appendMove, checked]

/-- APPEND_MOVE past its checks: the limited record at the queue's tail, and the ACK's detail says whether a limit held (R66,
R72). -/
theorem done_append_taken (h : firstError (appendChecks (moveOf p seat) p s) = none) :
    exec (.appendMove seat p) s =
      .next { s.acked seat 0x21 (if clampMove s.env.limits (moveOf p seat) = moveOf p seat then 0 else 1) with
        pln := { s.pln with queue := s.pln.queue ++ [clampMove s.env.limits (moveOf p seat)] } } := by
  have checked : firstError (appendChecks (moveOf p seat) p s.afterDecode) = none := h
  refine done_decode_taken ht ?_ rfl
  simp only [appendMove, checked]
  rfl

end

/-- The last of APPEND_MOVE's checks: the segment from the predicted start, when there is one (R71, R72). -/
theorem predicted_any_eq_false_iff (s : State) (target : Vec3) :
    ((predictedStart s).any fun p => s.env.pathBlocked p target) = false ↔
      ∀ start, predictedStart s = some start → s.env.pathBlocked start target = false := by
  cases predictedStart s <;> simp

/-- Settles O20: each check of the list with those before it passed, and the predicted start by its cases. -/
theorem appendMoveRule : Obligations.AppendMoveRule := by
  refine ⟨?taken, ?refused, ?predicted⟩
  case taken =>
    intro s seat p ht m l flies length legal room box free path stored limited
    obtain ⟨inside, clear⟩ := (Bool.and_eq_true _ _).mp free
    have passes : firstError (appendChecks (moveOf p seat) p s) = none := by
      have segment : ((predictedStart s).any fun q => s.env.pathBlocked q m.targetPos) = false :=
        (predicted_any_eq_false_iff s _).mpr path
      have inside' : inBox s.env.shrunk m.targetPos = true := inside
      have clear' : s.env.blockedAt m.targetPos = none := Option.isNone_iff_eq_none.mp clear
      have room' : ¬ queueCapacity ≤ s.pln.queue.length := Nat.not_le.mpr room
      simp [appendChecks, flies, length, show moveOf p seat = m from rfl, legal, room', box, segment, inside', clear']
    have appended := done_append_taken ht passes
    refine ⟨fun exceeds => ?_, fun fits => ?_⟩
    · rwa [if_neg fun same => (clampMove_eq_self_iff l m).mp same exceeds] at appended
    · rwa [if_pos ((clampMove_eq_self_iff l m).mpr fits)] at appended
  case refused =>
    intro s seat p ht m target fails
    have fails_of : ∀ code, firstError (appendChecks m p s) = some (code, 0) → fails code :=
      fun _ => done_append_refused ht
    refine ⟨fun tripped => fails_of _ (by simp [appendChecks, tripped]), fun flies => ?_⟩
    refine ⟨fun length => fails_of _ (by simp [appendChecks, flies, length]), fun length => ?_⟩
    refine ⟨fun legal => fails_of _ (by simp [appendChecks, flies, length, legal]), fun legal => ?_⟩
    have past : firstError (appendChecks m p s) = firstError ((appendChecks m p s).drop 3) := by
      simp [appendChecks, flies, length, legal]
    rw [past] at fails_of
    refine ⟨fun full => fails_of _ ?_, fun room => ?_⟩
    · simp [appendChecks, show queueCapacity ≤ s.pln.queue.length from full]
    have room' : ¬ queueCapacity ≤ s.pln.queue.length := Nat.not_le.mpr room
    refine ⟨fun box => fails_of _ (by simp [appendChecks, room', box]), fun box => ?_⟩
    have held : m.targetPos = target := rfl
    refine ⟨fun outside => fails_of _ (by simp [appendChecks, room', box, held, outside]), fun inside => ?_⟩
    refine ⟨fun kept => fails_of _ ?_, fun clear start predicted blocked => fails_of _ ?_⟩
    · simp [appendChecks, room', box, held, inside, Option.isSome_iff_ne_none.mpr kept]
    · simp [appendChecks, room', box, held, inside, clear, predicted, blocked]
  case predicted =>
    refine fun s => ⟨fun front last => predictedStart_tail, fun empty => ⟨fun m => predictedStart_hand empty, fun hand => ?_⟩⟩
    rw [predictedStart_rest empty hand]
    refine ⟨?_, fun parked => ?_, ?_⟩
    · rintro (h | h | h) <;> simp only [restingPlace, h]
    · simp only [restingPlace, parked]
    · rintro (h | h | h | h) <;> simp only [restingPlace, h]

end Sys2Proof.Machine
end

section
/-! Moves begun, ended and resumed (R66, R74 to R76, R79, R81 to R83): the begin's validation, arrival and dwell, the move-end
decision in its order, and what RESUME and STEP begin. -/

namespace Sys2Proof.Machine

open Sys2Proof

/-! ## The begin -/

/-- The begin validation, from the commanded position (R74). -/
theorem beginPasses_iff (m : Move) (s : State) :
    beginPasses m s = true ↔
      inBox s.env.shrunk (commandedPosition s) = true ∧ inBox s.env.shrunk (toMicrons m.target) = true ∧
        s.env.pathBlocked (commandedPosition s) (toMicrons m.target) = false := by
  simp only [beginPasses, Bool.and_eq_true, Bool.not_eq_true', and_assoc]
  rfl

section
variable {m : Move} {s : State} (onEnd : State → State) (step : Bool)

/-- A begin that passes starts the move, which arrives at once without length (R76). -/
theorem beginWith_of_passes (h : beginPasses m s = true) :
    beginWith onEnd m step s =
      if (freshHand m step s).dist = 0 then arriveWith onEnd (freshHand m step s) (startMove m step s)
      else startMove m step s := if_pos h

theorem beginWith_of_fails (h : beginPasses m s = false) : beginWith onEnd m step s = rejectPath s :=
  if_neg (by rw [h]; exact Bool.false_ne_true)

end

/-- A begin that fails, whole but for the occurrence of its flag (R75). -/
theorem rejectPath_eq (s : State) :
    let t := report .pathRejected 0 none
      { s with pln := { s.pln with queue := [], inHand := none }, mrk := { s.mrk with holdPending := false } }
    rejectPath s =
      notice .holding StopCause.pathRejected.code.toNat { t with
        fcu := { s.fcu with flight := .hold, cause := .pathRejected }
        pln := { s.pln with queue := [], inHand := none, holdPos := s.pln.pos, vel := Vec3.zero, stop := none } } := by
  obtain ⟨flt, handed, reported⟩ := report_eq_of_not_trip (f := .pathRejected) rfl 0 none
    { s with pln := { s.pln with queue := [], inHand := none }, mrk := { s.mrk with holdPending := false } }
  have rejected : rejectPath s = enterHold .pathRejected (report .pathRejected 0 none
    { s with pln := { s.pln with queue := [], inHand := none }, mrk := { s.mrk with holdPending := false } }) := rfl
  rw [rejected, reported]
  rfl

/-! ## Arrival -/

section
variable (onEnd : State → State) {m : MoveInHand} (s : State)

/-- A move in hand at its target, with MOVE_DONE when flagged (R79). -/
def State.arrived (s : State) (m : MoveInHand) : State :=
  let u : State := { s with pln := { s.pln with inHand := some { m with prog := m.dist, speed := 0 } } }
  if m.move.notifyDone then moveNotice .moveDone m.move u else u

/-- An arrival changes the move in hand and the notices handed over alone (R79). -/
theorem State.arrived_keeps (m : MoveInHand) :
    ∃ handed, s.arrived m =
      { s with
        pln := { s.pln with inHand := some { m with prog := m.dist, speed := 0 } }
        link := { s.link with handed := handed } } := by
  unfold State.arrived
  dsimp only
  split <;> exact ⟨_, rfl⟩

/-- An arrival without a dwell decides the move's end (R79). -/
theorem arriveWith_ends (h : m.move.dwell = none ∨ m.move.dwell = some 0) : arriveWith onEnd m s = onEnd (s.arrived m) := by
  rcases h with h | h <;> simp only [arriveWith, h] <;> rfl

/-- An arrival with a dwell begins it (R79). -/
theorem arriveWith_dwells {ms : Nat} (h : m.move.dwell = some ms) (hms : ms ≠ 0) :
    arriveWith onEnd m s =
      { s.arrived m with
        pln :=
          { s.pln with
            inHand := some { m with
              prog := m.dist, speed := 0, phase := .dwelling,
              dwellLeft := max 1 (roundNat (ms * 1000) s.fru.timing.ts) } } } := by
  have dwells : arriveWith onEnd m s = (s.arrived m).onPln fun p =>
      { p with
        inHand := some { m with
          prog := m.dist, speed := 0, phase := .dwelling, dwellLeft := dwellEvents ms (s.arrived m).fru.timing.ts } } := by
    simp only [arriveWith, h, if_neg hms]
    rfl
  obtain ⟨handed, arrived⟩ := s.arrived_keeps m
  rw [dwells, arrived]
  rfl

end

/-! ## The end of a move looks at the queue it finds -/

section
variable {onEnd onEnd' : State → State} {queue : List Move}
  (same : ∀ s : State, s.pln.queue = queue → onEnd s = onEnd' s)
include same

/-- An arrival makes its decision over the queue as it stands (R79). -/
theorem arriveWith_congr (m : MoveInHand) {s : State} (h : s.pln.queue = queue) :
    arriveWith onEnd m s = arriveWith onEnd' m s := by
  have ends : onEnd (s.arrived m) = onEnd' (s.arrived m) := by
    obtain ⟨handed, arrived⟩ := s.arrived_keeps m
    exact same _ (by rw [arrived]; exact h)
  cases dwell : m.move.dwell with
  | none => rw [arriveWith_ends _ _ (Or.inl dwell), arriveWith_ends _ _ (Or.inl dwell), ends]
  | some ms =>
    by_cases hms : ms = 0
    · subst hms
      rw [arriveWith_ends _ _ (Or.inr dwell), arriveWith_ends _ _ (Or.inr dwell), ends]
    · rw [arriveWith_dwells _ _ dwell hms, arriveWith_dwells _ _ dwell hms]

/-- A begin hands the queue as it stands to the decision at its arrival (R76). -/
theorem beginWith_congr (m : Move) (step : Bool) {s : State} (h : s.pln.queue = queue) :
    beginWith onEnd m step s = beginWith onEnd' m step s := by
  have started : (startMove m step s).pln.queue = queue := by
    unfold startMove
    dsimp only
    split <;> exact h
  unfold beginWith
  dsimp only
  rw [arriveWith_congr same _ started]

end

/-! ## The move-end decision -/

section
variable {flag : Bool} {s : State}

/-- HOLD with a marker's hold comes first (R81). -/
theorem earlyEnd_marker (h : s.mrk.holdPending = true) : earlyEnd flag s = some (enterHold .markerHold s) := if_pos h

/-- Then a finished STEP (R81). -/
theorem earlyEnd_step (h : s.mrk.holdPending = false) : earlyEnd true s = some (enterHold .stepDone s) := by
  rw [earlyEnd, h]
  rfl

theorem earlyEnd_none (h : s.mrk.holdPending = false) : earlyEnd false s = none := by
  rw [earlyEnd, h]
  rfl

/-- One of the first two cases ends the move whatever the queue holds (R81). -/
theorem moveEnd_early {t : State} (h : earlyEnd flag (emptyHand s) = some t) : moveEnd flag s = t := by
  unfold moveEnd
  cases s.pln.queue <;> simp only [moveEndFrom, h]

variable (h : s.mrk.holdPending = false)
include h

/-- Then an empty queue (R81). -/
theorem moveEnd_empty (hq : s.pln.queue = []) :
    moveEnd false s = enterHold .queueDrained (notice .queueDrained 0 (emptyHand s)) := by
  have later : earlyEnd false (emptyHand s) = none := earlyEnd_none (s := emptyHand s) h
  simp only [moveEnd, hq, moveEndFrom, later]

variable {head : Move} {rest : List Move} (hq : s.pln.queue = head :: rest)
include hq

/-- Then a tagged head (R81). -/
theorem moveEnd_tagged (tagged : head.tagged = true) :
    moveEnd false s = enterHold .cueReached (moveNotice .cueReached head (emptyHand s)) := by
  have later : earlyEnd false (emptyHand s) = none := earlyEnd_none (s := emptyHand s) h
  simp only [moveEnd, hq, moveEndFrom, later, if_pos tagged]

/-- Else the head begins (R81). -/
theorem moveEnd_begins (untagged : head.tagged = false) :
    moveEnd false s =
      beginWith (moveEnd false) head false { s with pln := { s.pln with inHand := none, queue := rest } } := by
  have later : earlyEnd false (emptyHand s) = none := earlyEnd_none (s := emptyHand s) h
  have begins : moveEnd false s =
      beginWith (moveEndFrom rest false) head false { s with pln := { s.pln with inHand := none, queue := rest } } := by
    simp only [moveEnd, hq, moveEndFrom, later, untagged]
    rfl
  rw [begins]
  exact beginWith_congr (queue := rest) (fun u hu => by rw [moveEnd, hu]) head false rfl

end

/-- Settles O23: a begin by its validation, an arrival by its dwell, and the decision by its cases in order. -/
theorem moveEndDecision : Obligations.MoveEndDecision := by
  refine ⟨fun onEnd m flag s => ?_, fun onEnd m s => ?_, fun flag s => ?_⟩
  · intro start target passes hand u v
    refine ⟨fun h => beginWith_of_passes onEnd flag ((beginPasses_iff m s).mpr h), fun h => ?_⟩
    exact (beginWith_of_fails onEnd flag (eq_false_of_ne_true ((beginPasses_iff m s).not.mpr h))).trans (rejectPath_eq s)
  · intro h u v
    exact ⟨arriveWith_ends onEnd s, fun ms => arriveWith_dwells onEnd s⟩
  · intro u rests
    refine ⟨fun pending => moveEnd_early (earlyEnd_marker pending), ?_, ?_, fun head rest clear => ?_⟩
    · rintro clear rfl
      exact moveEnd_early (earlyEnd_step (s := emptyHand s) clear)
    · rintro clear rfl empty
      exact moveEnd_empty clear empty
    · rintro rfl queue
      exact ⟨moveEnd_tagged clear queue, moveEnd_begins clear queue⟩

end Sys2Proof.Machine
end

section
/-! RESUME and STEP (R74 to R76, R82, R83, R124): the move they begin, its begin from HOLD, and what they refuse. -/

namespace Sys2Proof.Machine

open Sys2Proof

/-- The move on offer leaves the queue, and a suspended one the hand (R82). -/
theorem nextMove_of_offers {s : State} {m : Move} {rest : List Move} (h : s.offers m rest) :
    ∃ left, nextMove s = some (m, { s with pln := { s.pln with queue := rest, inHand := left } }) := by
  obtain ⟨hand, held, phase, rfl, rfl⟩ | ⟨notSuspended, queue⟩ := h
  · refine ⟨none, ?_⟩
    simp only [nextMove, suspendedMove_of_suspended held phase]
    rfl
  · refine ⟨s.pln.inHand, ?_⟩
    simp only [nextMove, suspendedMove_of_not_suspended notSuspended, queue]
    rfl

theorem nextMove_none {s : State} (hq : s.pln.queue = []) (hand : ∀ h, s.pln.inHand = some h → h.phase ≠ .suspended) :
    nextMove s = none := by
  simp only [nextMove, suspendedMove_of_not_suspended hand, hq]

/-- The move in hand as it begins from the last committed position (R66, R69, R76). -/
def State.handFrom (s : State) (m : Move) (step : Bool) : MoveInHand where
  move := m
  accel := beginAccel s.env.limits m
  start := s.pln.pos
  dist := pathLength s.pln.pos m.targetPos
  prog := 0
  speed := 0
  phase := .moving
  dwellLeft := 0
  stepFlag := step

/-- A move begun from HOLD: TRACK with the move in hand and a PRIMED stream cancelled, with MOVE_BEGUN when flagged (R76, R124). -/
def State.begun (s : State) (m : Move) (rest : List Move) (hand : MoveInHand) : State :=
  let u : State :=
    { s with
      fcu := { s.fcu with flight := .track }
      pln := { s.pln with queue := rest, stream := s.pln.stream.unprimed, inHand := some hand } }
  if m.notifyBegin then moveNotice .moveBegun m u else u

section
variable {s : State} (seat : Seat) (type : BitVec 6) (step : Bool)

/-- Outside HOLD they are refused (R82, R83). -/
theorem resumeWith_flying (h : s.fcu.flight ≠ .hold) : resumeWith type step seat s = refuse seat .wrongState 0 s := if_pos h

variable (hold : s.fcu.flight = .hold)
include hold

/-- With no move to begin they are refused (R82, R83). -/
theorem resumeWith_empty (hq : s.pln.queue = []) (hand : ∀ h, s.pln.inHand = some h → h.phase ≠ .suspended) :
    resumeWith type step seat s = refuse seat .queueEmpty 0 s := by
  rw [resumeWith, if_neg (not_not.mpr hold), nextMove_none hq hand]

variable {m : Move} {rest : List Move} (offers : s.offers m rest)
include offers

/-- A move that passes begins where the carrier is, and arrives at once without length (R76, R82, R83, R124). -/
theorem resumeWith_passes (passes : beginPasses m s = true) :
    resumeWith type step seat s =
      if (s.handFrom m step).dist = 0 then
        arriveWith (moveEnd step) (s.handFrom m step) ((ack seat type 0 s).begun m rest (s.handFrom m step))
      else (ack seat type 0 s).begun m rest (s.handFrom m step) := by
  obtain ⟨left, next⟩ := nextMove_of_offers offers
  have acked : resumeWith type step seat s =
      beginWith (moveEnd step) m step
        (cancelPrimed (ack seat type 0 { s with pln := { s.pln with queue := rest, inHand := left } })) := by
    rw [resumeWith, if_neg (not_not.mpr hold), next]
    exact if_pos passes
  rw [acked, cancelPrimed_eq]
  generalize hu : ({ ack seat type 0 { s with pln := { s.pln with queue := rest, inHand := left } } with pln := _ } : State) = u
  have start : commandedPosition u = s.pln.pos := by
    rw [commandedPosition_flying (by rw [← hu]; exact (congrArg producesSamples hold).trans rfl), ← hu]
    rfl
  have fresh : freshHand m step u = s.handFrom m step := by
    unfold freshHand
    dsimp only
    rw [start, ← hu]
    rfl
  have started : startMove m step u = (ack seat type 0 s).begun m rest (s.handFrom m step) := by
    unfold startMove
    dsimp only
    rw [fresh, ← hu]
    rfl
  have stands : beginPasses m u = true := by
    rw [← hu]
    exact passes
  rw [beginWith_of_passes _ _ stands, fresh, started]

/-- A move that fails is discarded, the queue flushed, and HOLD entered again (R75). -/
theorem resumeWith_fails (fails : beginPasses m s = false) :
    let t := report .pathRejected 0 none { ack seat type 1 s with
      pln := { s.pln with queue := [], inHand := none }
      mrk := { s.mrk with holdPending := false } }
    resumeWith type step seat s =
      notice .holding StopCause.pathRejected.code.toNat { t with
        fcu := { s.fcu with cause := .pathRejected }
        pln := { s.pln with queue := [], inHand := none, holdPos := s.pln.pos, vel := Vec3.zero, stop := none } } := by
  intro t
  obtain ⟨left, next⟩ := nextMove_of_offers offers
  have acked : resumeWith type step seat s =
      beginWith (moveEnd step) m step (ack seat type 1 { s with pln := { s.pln with queue := rest, inHand := left } }) := by
    rw [resumeWith, if_neg (not_not.mpr hold), next]
    exact if_neg (ne_true_of_eq_false fails)
  have stands : beginPasses m (ack seat type 1 { s with pln := { s.pln with queue := rest, inHand := left } }) = false := fails
  rw [acked, beginWith_of_fails _ _ stands, rejectPath_eq, ack_fcu, ← hold]
  rfl

end

/-- RESUME or STEP taken past LINK's checks. -/
theorem done_resumeWith {s t : State} {seat : Seat} {type : BitVec 6} {step : Bool} {body : List Byte}
    (ht : s.takesRecord ⟨seat, type, body⟩) (effect : resumeWith type step seat s.afterDecode = t) :
    done (decodeCommand type seat body (resumeWith type step seat) s) = .next (deliver t) := by
  rw [decodeCommand_taken ht, effect]
  rfl

/-- Settles O21: RESUME and STEP are one operation, and begin, refuse or reject the move on offer. -/
theorem resumeAndStepRule : Obligations.ResumeAndStepRule := by
  constructor
  · intro s m rest hold offers start target inStart inTarget clear hand begun ends
    have passes : beginPasses m s = true := by
      rw [beginPasses_iff, commandedPosition_flying (by rw [hold]; rfl)]
      exact ⟨inStart, inTarget, clear⟩
    exact ⟨fun seat d0 d1 ht => done_resumeWith ht (resumeWith_passes (s := s.afterDecode) seat 0x0C false hold offers passes),
      fun seat d0 d1 ht => done_resumeWith ht (resumeWith_passes (s := s.afterDecode) seat 0x0D true hold offers passes)⟩
  · intro s command type seat d0 d1 htype ht
    have decoded : ∃ step, exec (command type seat d0 d1) s =
        done (decodeCommand type seat [d0, d1] (resumeWith type step seat) s) := by
      obtain rfl | rfl := htype
      · exact ⟨false, rfl⟩
      · exact ⟨true, rfl⟩
    obtain ⟨step, decoded⟩ := decoded
    rw [decoded]
    refine ⟨fun flies => done_decode_refused ht (resumeWith_flying seat type step flies), fun hold queue hand => ?_,
      fun m rest hold offers bad => ?_⟩
    · exact done_decode_refused ht (resumeWith_empty (s := s.afterDecode) seat type step hold queue hand)
    · have fails : beginPasses m s = false := by
        rw [← Bool.not_eq_true, beginPasses_iff, commandedPosition_flying (by rw [hold]; rfl)]
        rintro ⟨inStart, inTarget, clear⟩
        simp [inStart, inTarget, clear] at bad
      exact done_resumeWith ht (resumeWith_fails (s := s.afterDecode) seat type step hold offers fails)

end Sys2Proof.Machine
end

section
/-! Relations that look at the flight state, ENV and the planner alone: what LINK, time, the channels, the store, the markers and
the timebase do is said once for all of them, up to the commands that steer the planner themselves. -/

namespace Sys2Proof.Machine

open Sys2Proof

/-- A relation between a state and the one an operation leaves: it holds where the flight state, ENV and the planner but for its
stick input stand, it goes on from step to step, and it holds across a trip. -/
structure PlannerFrame (R : State → State → Prop) : Prop where
  frame : ∀ {s t : State}, t.fcu.flight = s.fcu.flight → t.env = s.env → t.pln = { s.pln with stick := t.pln.stick } → R s t
  trans : ∀ {s t u : State}, R s t → R t u → R s u
  trips : ∀ (f : Flag) (channel : Nat) (seat : Option Seat) (s : State), R s (tripEffect f channel seat s)

namespace PlannerFrame

variable {R : State → State → Prop} (h : PlannerFrame R)
include h

theorem refl (s : State) : R s s := h.frame rfl rfl rfl

theorem onLink (f : Link → Link) (s : State) : R s (s.onLink f) := h.frame rfl rfl rfl

theorem onFru (f : Fru → Fru) (s : State) : R s (s.onFru f) := h.frame rfl rfl rfl

theorem onSto (f : Sto → Sto) (s : State) : R s (s.onSto f) := h.frame rfl rfl rfl

theorem onChan (w : Winch) (f : Channel → Channel) (s : State) : R s (s.onChan w f) := h.frame rfl rfl rfl

theorem advanceTo (t : Nat) (s : State) : R s (advanceTo t s) := h.frame rfl rfl rfl

/-! ### LINK -/

theorem ack (seat : Seat) (type : BitVec 6) (n : Nat) (s : State) : R s (ack seat type n s) := h.frame rfl rfl rfl

theorem refuse (seat : Seat) (code : ErrorCode) (n : Nat) (s : State) : R s (refuse seat code n s) := h.frame rfl rfl rfl

theorem notice (code : NoticeCode) (n : Nat) (s : State) : R s (notice code n s) := h.frame rfl rfl rfl

theorem awaitDecode (r : Record) (s : State) : R s (awaitDecode r s) := by
  unfold Machine.awaitDecode
  split
  · exact h.refl s
  · exact h.onLink _ s

/-- The end of a command. -/
theorem done {s u : State} (hu : R s u) : ∃ t, done u = .next t ∧ R s t := ⟨deliver u, rfl, h.trans hu (h.onLink _ u)⟩

/-- A decode goes as far as the act on the record. -/
theorem decodeRecord {r : Record} {act : State → State} {s : State} (ha : R s.afterDecode (act s.afterDecode)) :
    R s (decodeRecord r act s) := by
  rcases decodeRecord_cases r act s with hr | hr | ⟨-, -, hr⟩ <;> rw [hr]
  · exact h.refl s
  · exact h.awaitDecode r s
  · exact h.trans (h.onLink _ s) ha

/-- A record's command goes as far as its owner. -/
theorem decodeCommand {type : BitVec 6} {seat : Seat} {body : List Byte} {owner : State → State} {s : State}
    (ho : R s.afterDecode (owner s.afterDecode)) :
    ∃ t, Machine.done (decodeCommand type seat body owner s) = .next t ∧ R s t := by
  refine h.done (h.decodeRecord ?_)
  split
  · exact h.refuse _ _ _ _
  · exact ho

/-- An owner's answer goes as far as the record whose checks pass. -/
theorem answer {seat : Seat} {type : BitVec 6} {checks : List (Bool × ErrorCode × Nat)} {take : State → State} {s : State}
    (ht : firstError checks = none → R (Machine.ack seat type 0 s) (take (Machine.ack seat type 0 s))) :
    R s (answer seat type checks take s) := by
  unfold Machine.answer
  split
  · exact h.refuse _ _ _ s
  · next hc => exact h.trans (h.ack _ _ _ s) (ht hc)

/-! ### Expiries -/

theorem atInstant {act : State → State} (ha : ∀ u : State, R u (act u)) (t : Nat) (s : State) : R s (atInstant t act s) := by
  unfold Machine.atInstant
  split
  · exact h.trans (h.advanceTo t s) (ha _)
  · exact h.refl s

theorem atExpiry {act : State → State} (ha : ∀ u : State, R u (act u)) (left : Option Nat) (s : State) :
    R s (atExpiry left act s) := by
  rcases atExpiry_cases left act s with hr | ⟨t, hr⟩ <;> rw [hr]
  · exact h.refl s
  · exact h.trans (h.advanceTo t s) (ha _)

theorem stateExpiry {act : State → State} (ha : ∀ u : State, R u (act u)) (w : Winch) (state : ChanState) (s : State) :
    R s (stateExpiry w state act s) := by
  unfold Machine.stateExpiry
  split
  · exact h.atExpiry ha _ s
  · exact h.refl s

/-! ### Reports and the store -/

theorem sameButFlags {s t : State} (same : s.SameButFlags t) : R s t := by
  obtain ⟨fcu, pln, env, -⟩ := same
  exact h.frame (by rw [fcu]) env (by rw [pln])

/-- An occurrence of any flag: a trip, or the flags and the notices alone. -/
theorem report (f : Flag) (channel : Nat) (seat : Option Seat) (s : State) : R s (report f channel seat s) := by
  by_cases hf : f.isTrip = true
  · by_cases hs : s.fcu.flight = .tripped
    · exact h.sameButFlags (report_tripped_sameButFlags hf channel seat hs)
    · rw [report_trip hf channel seat hs]
      exact h.trips f channel seat s
  · exact h.sameButFlags (report_sameButFlags (by simpa using hf) channel seat s)

/-- A report after what came before it. -/
theorem reported {s t : State} (ht : R s t) (f : Flag) (channel : Nat) (seat : Option Seat) :
    R s (Machine.report f channel seat t) := h.trans ht (h.report f channel seat t)

theorem reportIf (cond : Bool) (f : Flag) (channel : Nat) (s : State) : R s (reportIf cond f channel s) := by
  unfold Machine.reportIf
  split
  · exact h.report _ _ _ s
  · exact h.refl s

theorem beginPoseWrite (s : State) : R s (beginPoseWrite s) := by
  rw [beginPoseWrite_eq]
  split
  · exact h.frame rfl rfl rfl
  · exact h.refl s

theorem writePose (pose : RetainedPose) (s : State) : R s (writePose pose s) := by
  unfold Machine.writePose
  exact h.frame (by simp) (by simp) (by simp)

/-! ### The channels -/

theorem badFrame (w : Winch) (s : State) : R s (badFrame w s) := by
  unfold Machine.badFrame
  dsimp only
  split
  · exact h.reported (h.onChan w _ s) _ _ _
  · exact h.onChan w _ s

theorem loseChannel (w : Winch) (f : Channel → Channel) (s : State) : R s (loseChannel w f s) :=
  h.reported (h.onChan w f s) _ _ _

theorem streamingChecks (w : Winch) (a : AnswerFields) (s : State) : R s (streamingChecks w a s) := by
  unfold Machine.streamingChecks
  dsimp only
  refine h.trans ?_ (h.reportIf _ _ _ _)
  refine h.trans ?_ (h.reportIf _ _ _ _)
  refine h.trans ?_ (h.reportIf _ _ _ _)
  refine h.trans ?_ (h.reportIf _ _ _ _)
  exact h.onChan w _ s

theorem settleSetting (s : State) : R s (settleSetting s) := by
  unfold Machine.settleSetting
  split
  · exact h.trans (h.writePose _ s) (h.frame rfl rfl rfl)
  · exact h.refl s

theorem settingTimeout (w : Winch) (s : State) : R s (settingTimeout w s) := by
  have ended : R s (endSettingOp (Machine.report .settingTimeout (winchNumber w) none s)) :=
    h.trans (h.report _ _ _ s) (h.frame rfl rfl rfl)
  exact h.trans ended (h.trans (h.writePose _ _) (h.notice _ _ _))

/-- An answer in ABSENT or FAULTED moves its channel alone (R159, R165). -/
theorem findDrive (w : Winch) (d : DriveState) (s : State) : R s (findDrive w d s) := by
  unfold Machine.findDrive
  split
  · split <;> exact h.frame rfl rfl rfl
  all_goals exact h.frame rfl rfl rfl

/-- A channel's act on a valid answer, in each of its states (R158 to R165). -/
theorem actOnAnswer (w : Winch) (a : AnswerFields) (s : State) : R s (actOnAnswer w a s) := by
  unfold Machine.actOnAnswer
  dsimp only
  split
  · split
    · exact h.refl s
    · exact h.reported (h.onChan w _ s) _ _ _
  · split
    · exact h.findDrive w _ s
    · exact h.findDrive w _ s
    · unfold answerInReady
      split <;> exact h.frame rfl rfl rfl
    · unfold answerInReleasing
      split
      · exact h.loseChannel w _ s
      all_goals exact h.frame rfl rfl rfl
    · unfold answerInStreaming
      split
      · exact h.loseChannel w _ s
      · exact h.loseChannel w _ s
      · exact h.streamingChecks w a s
      · exact h.refl s
    · unfold answerInBraking
      split
      · exact h.loseChannel w _ s
      all_goals exact h.frame rfl rfl rfl
    · unfold answerInSetting
      split
      · exact h.loseChannel w _ s
      · split
        · exact h.trans (h.onChan w _ s) (h.settleSetting _)
        · exact h.refl s

/-- A drive's answer, where what FCU makes of the channel states is in the relation (R53, R57, R158). -/
theorem driveAnswer (watch : ∀ u : State, R u (watchChannels u)) (w : Winch) (bytes : List Byte) (s : State) :
    R s (driveAnswer w bytes s) := by
  unfold Machine.driveAnswer
  split
  · exact h.badFrame w s
  · exact h.trans (h.trans (h.onChan w _ s) (h.actOnAnswer w _ _)) (watch _)

/-! ### The timebase -/

theorem countFrame (frameStart : Bool) (s : State) : R s (countFrame frameStart s) := by
  unfold Machine.countFrame
  split
  · exact h.onFru _ s
  · exact h.refl s

theorem reportThirdMiss (w : Winch) (c : Channel) (s : State) : R s (reportThirdMiss w c s) := by
  unfold Machine.reportThirdMiss
  split
  · exact h.refl s
  · split
    · exact h.report _ _ _ s
    · exact h.notice _ _ s

theorem runChannels (s : State) : R s (runChannels s) := by
  refine h.trans (t := onAllChans (fun c => c.close.send) s) (h.frame rfl rfl rfl) ?_
  exact h.trans (h.trans (h.trans (h.reportThirdMiss .w1 _ _) (h.reportThirdMiss .w2 _ _)) (h.reportThirdMiss .w3 _ _))
    (h.reportThirdMiss .w4 _ _)

theorem completePull (s : State) : R s (completePull s) := by
  unfold Machine.completePull
  split
  · exact h.frame rfl rfl rfl
  · exact h.refl s

theorem loseReference (s : State) : R s (loseReference s) := h.reported (h.onFru _ s) _ _ _

theorem closeMiss (s : State) : R s (closeMiss s) := by
  unfold Machine.closeMiss
  split
  · exact h.loseReference s
  · exact h.refl s

theorem settleExhaustion (s : State) : R s (settleExhaustion s) := by
  unfold Machine.settleExhaustion
  split
  · exact h.onFru _ s
  · exact h.refl s

theorem handFramePose (s : State) : R s (handFramePose s) := by
  unfold Machine.handFramePose
  dsimp only
  split <;> exact h.frame rfl rfl rfl

theorem decidePull (s : State) : R s (decidePull s) := by
  unfold Machine.decidePull
  dsimp only
  split
  · exact h.frame rfl rfl rfl
  · split <;> exact h.onFru _ s

/-! ### Servo events and edges, where the planner's sample is in the relation -/

section
variable (plans : ∀ (start : Bool) (u : State), R u (planSample start u))
include plans

section
variable {fruStep : State → State} (hstep : ∀ u : State, R u (fruStep u))
include hstep

theorem raiseServo (index : Nat) (s : State) : R s (raiseServo index fruStep s) := by
  have finished : ∀ u : State, R u (finishServo index (staleFlags s) fruStep u) := fun u =>
    h.trans (h.trans (h.trans (h.runChannels u) (hstep _)) (h.settleExhaustion _)) (h.frame rfl rfl rfl)
  have event := h.trans (h.trans (h.countFrame (decide (index = 0)) s) (plans (decide (index = 0)) _)) (finished _)
  unfold Machine.raiseServo
  dsimp only
  split
  · exact h.trans event (h.handFramePose _)
  · exact event

theorem edgeFrameStart (s : State) : R s (edgeFrameStart fruStep s) := by
  have played : ∀ u : State, R u (promoteSample u) := by
    intro u
    unfold promoteSample
    split
    · exact h.trans (plans true u) (h.frame rfl rfl rfl)
    · exact h.refl u
  have promoted : R s (fruStep (promoteSample (Machine.countFrame true s))) :=
    h.trans (h.trans (h.countFrame true s) (played _)) (hstep _)
  unfold Machine.edgeFrameStart promoteServo
  split
  · split
    · exact hstep s
    · refine h.trans ?_ (h.handFramePose _)
      exact h.trans (h.trans promoted (h.settleExhaustion _)) (h.frame rfl rfl rfl)
  · exact raiseServo h plans hstep 0 s

end

/-- An edge, by the reference state (R140 to R147). -/
theorem referenceEdge (s : State) : R s (referenceEdge s) := by
  have locks : ∀ u : State, R u (reachLock u) := by
    intro u
    unfold reachLock
    split
    · exact h.edgeFrameStart plans (fruStep := jumpLocked) (fun v => h.frame rfl rfl rfl) u
    · exact h.decidePull u
  unfold Machine.referenceEdge
  split
  · exact h.refl s
  · dsimp only
    split
    · exact h.onFru _ s
    · unfold edgeInAcquiring
      dsimp only
      split
      · split
        · exact h.trans (h.onFru _ s) (locks _)
        · exact h.onFru _ s
      · exact h.onFru _ s
    · unfold edgeInPulling
      split
      · exact h.trans (h.onFru _ s) (h.decidePull _)
      · exact h.onFru _ s
    · unfold edgeInLocked
      split
      · exact h.trans (h.onFru _ s) (h.edgeFrameStart plans h.refl _)
      · exact h.refl s

end

end PlannerFrame

/-! ## The commands that steer nothing -/

/-- The commands that change the flight state, ENV or the planner but for its stick input by a rule of their own. -/
def steersPlanner : Instr → Bool
  | .partReset .. => true
  | .arm .. => true
  | .park .. => true
  | .hold .. => true
  | .resume .. => true
  | .step .. => true
  | .takeStick .. => true
  | .dropStick .. => true
  | .clearFaults .. => true
  | .flushMoves .. => true
  | .appendMove .. => true
  | .streamStart .. => true
  | .streamData .. => true
  | .streamEnd .. => true
  | .zonePut .. => true
  | .zoneSet .. => true
  | .zoneRemove .. => true
  | .setAnchor .. => true
  | .setWorkspace .. => true
  | .setLimits .. => true
  | .servoEvent => true
  | .referenceEdge .. => true
  | .windowClose => true
  | .driveAnswer .. => true
  | .releaseTimeout .. => true
  | _ => false

/-- Every other command is in the relation. -/
theorem PlannerFrame.exec {R : State → State → Prop} (h : PlannerFrame R) {c : Instr} (hc : steersPlanner c = false) (s : State) :
    ∃ t, exec c s = .next t ∧ R s t := by
  cases c with
  | partReset | arm | park | hold | resume | step | takeStick | dropStick | clearFaults | flushMoves | appendMove | streamStart
  | streamData | streamEnd | zonePut | zoneSet | zoneRemove | setAnchor | setWorkspace | setLimits | servoEvent | referenceEdge
  | windowClose | driveAnswer | releaseTimeout => cases hc
  | estopAssertion =>
    refine h.done ?_
    split
    · exact h.refl s
    · refine h.trans (t := s.onFlt fun t => { t with line := true }) ?_ (h.report _ _ _ _)
      exact h.frame rfl rfl rfl
  | estopDeassertion => exact h.done (h.frame rfl rfl rfl)
  | receiveByte | transmitComplete =>
    refine h.done ?_
    split
    · exact h.refl s
    · exact h.onLink _ s
  | gapTimeout => exact h.done (h.atExpiry (h.onLink _) _ s)
  | ignoredRecord =>
    refine h.done ?_
    split
    · exact h.decodeRecord (h.onLink _ _)
    · exact h.refl s
  | queryState | readPose | readSettings => exact h.decodeCommand (h.onLink _ _)
  | trip => exact h.decodeCommand (h.answer fun _ => h.report _ _ _ _)
  | consent =>
    refine h.decodeCommand ?_
    unfold Machine.consent
    split <;> exact h.frame rfl rfl rfl
  | servicePermit =>
    refine h.decodeCommand ?_
    unfold Machine.servicePermit
    split <;> exact h.frame rfl rfl rfl
  | subscribe =>
    refine h.decodeCommand ?_
    unfold Machine.subscribe
    split <;> exact h.frame rfl rfl rfl
  | zoneRead =>
    refine h.decodeCommand ?_
    unfold Machine.zoneRead
    split <;> exact h.frame rfl rfl rfl
  | markerRead =>
    refine h.decodeCommand ?_
    unfold Machine.markerRead
    split <;> exact h.frame rfl rfl rfl
  | markerClear =>
    refine h.decodeCommand ?_
    unfold Machine.markerClear
    split
    · exact h.frame rfl rfl rfl
    · split <;> exact h.frame rfl rfl rfl
  | markerSet =>
    refine h.decodeCommand ?_
    unfold Machine.markerSet
    split
    · exact h.frame rfl rfl rfl
    · split <;> exact h.frame rfl rfl rfl
  | reference => exact h.decodeCommand (h.answer fun _ => h.frame rfl rfl rfl)
  | declarePose =>
    refine h.decodeCommand (h.answer fun _ => h.trans ?_ (h.settleSetting _))
    exact h.frame rfl rfl rfl
  | restartDrive =>
    refine h.decodeCommand (h.answer fun _ => ?_)
    unfold Machine.restartDrive
    split <;> exact h.frame rfl rfl rfl
  | saveSettings => exact h.decodeCommand (h.answer fun _ => h.trans (h.beginPoseWrite _) (h.onSto _ _))
  | resetPart => exact h.decodeCommand (h.answer fun _ => h.onLink _ _)
  | stick =>
    refine h.done (h.decodeRecord ?_)
    unfold stickRecord
    split <;> exact h.frame rfl rfl rfl
  | setChannelLimits =>
    refine h.decodeCommand ?_
    unfold Machine.setChannelLimits
    dsimp only
    split <;> exact h.frame rfl rfl rfl
  | setTiming | setHome => exact h.decodeCommand (h.answer fun _ => h.frame rfl rfl rfl)
  | acquireSilenceTimeout =>
    refine h.done ?_
    split
    · exact h.atInstant (h.onFru _) _ s
    · exact h.refl s
  | pullSilenceTimeout =>
    refine h.done ?_
    split
    · exact h.atInstant h.loseReference _ s
    · exact h.refl s
  | brakeTimeout w => exact h.done (h.stateExpiry (h.loseChannel w _) w _ s)
  | setTimeout w => exact h.done (h.stateExpiry (h.settingTimeout w) w _ s)
  | stickTimerExpiry =>
    refine h.done ?_
    split
    · refine h.atExpiry (fun u => h.trans (t := stickRest u) ?_ (h.report _ _ _ _)) _ s
      exact h.frame rfl rfl rfl
    · exact h.refl s
  | saveWriteStart =>
    refine h.done ?_
    split
    · split
      · exact h.refl s
      · exact h.onSto _ s
    · exact h.refl s
  | saveWriteEnd =>
    refine h.done ?_
    split
    · refine h.trans ?_ (h.beginPoseWrite _)
      split <;> exact h.frame rfl rfl rfl
    · exact h.refl s
  | poseWriteStart => exact h.done (h.beginPoseWrite s)
  | poseWriteEnd =>
    refine h.done ?_
    split
    · exact h.onSto _ s
    · exact h.refl s

end Sys2Proof.Machine
end

section
/-! The sixth law's bounds (R77, R89, R99, R117): the ceiling, the speeds a sample moves toward it, the soft walls and the clamp
keep every axis speed, and the profile and the stops every path speed, within vmax. -/

namespace Sys2Proof.Machine

open Sys2Proof

/-! ## Axis speeds -/

/-- No axis speed exceeds a bound. -/
def axesWithin (c : Nat) (v : Vec3) : Prop := ∀ axis, (v.get axis).natAbs ≤ c

theorem Vec3.ofAxes_get (f : Axis → Int) (axis : Axis) : (Vec3.ofAxes f).get axis = f axis := by cases axis <;> rfl

theorem Vec3.zero_get (axis : Axis) : Vec3.zero.get axis = 0 := by cases axis <;> rfl

theorem axesWithin_zero (c : Nat) : axesWithin c Vec3.zero := fun axis => by
  rw [Vec3.zero_get]
  exact Nat.zero_le c

theorem clampInt_natAbs_le (c : Nat) (v : Int) : (clampInt (-(c : Int)) c v).natAbs ≤ c := by
  unfold clampInt
  omega

/-- A target is limited to the ceiling (R99, R117). -/
theorem limitTo_within (c : Nat) (v : Vec3) : axesWithin c (limitTo c v) := fun axis => by
  rw [limitTo, Vec3.ofAxes_get]
  exact clampInt_natAbs_le c _

/-- A speed moved toward a target stays between the two (R99, R103). -/
theorem approach_natAbs_le {c : Nat} {v target : Int} (hv : v.natAbs ≤ c) (ht : target.natAbs ≤ c) (step : Nat) :
    (approach v target step).natAbs ≤ c := by
  unfold approach
  split <;> omega

theorem approachAxes_within {c : Nat} {vel target : Vec3} (hv : axesWithin c vel) (ht : axesWithin c target) (step : Nat) :
    axesWithin c (approachAxes step vel target) := fun axis => by
  rw [approachAxes, Vec3.ofAxes_get]
  exact approach_natAbs_le (hv axis) (ht axis) step

/-- A soft wall never raises a speed (R39). -/
theorem softenSpeed_natAbs_le (ae ts : Nat) (d v : Int) : (softenSpeed ae ts d v).natAbs ≤ v.natAbs := by
  by_cases h : isqrt (2 * (1000 * ae) * d.toNat) < v.natAbs
  · rw [softenSpeed_reduced h, natAbs_withMagnitude]
    omega
  · rw [softenSpeed_allowed (not_lt.mp h)]

theorem softWalls_within {c : Nat} {vel : Vec3} (hv : axesWithin c vel) (e : Env) (ts : Nat) (p : Vec3) :
    axesWithin c (e.softWalls ts p vel) := fun axis => by
  rw [Env.softWalls, Vec3.ofAxes_get]
  unfold Env.softAxis
  dsimp only
  split
  · exact Nat.zero_le c
  · exact (softenSpeed_natAbs_le _ _ _ _).trans (hv axis)

/-- The clamp leaves an axis speed or puts it to rest (R41). -/
theorem restClamped_within {c : Nat} {vel : Vec3} (hv : axesWithin c vel) (cand clamped : Vec3) :
    axesWithin c (restClamped cand clamped vel) := fun axis => by
  rw [restClamped, Vec3.ofAxes_get]
  split
  · exact hv axis
  · exact Nat.zero_le c

theorem restClamped_zero (cand clamped : Vec3) : restClamped cand clamped Vec3.zero = Vec3.zero := Vec3.ext_get fun axis => by
  rw [restClamped, Vec3.ofAxes_get, Vec3.zero_get, ite_self]

/-- The path speed the stick takes over is limited axis by axis (R89). -/
theorem decompose_within (vmax : Nat) (m : MoveInHand) : axesWithin (1000 * vmax) (decompose vmax m) := by
  intro axis
  cases axis <;> exact clampInt_natAbs_le _ _

/-! ## Path speeds -/

/-- The ceiling is not over vmax (R36). -/
theorem ceilingAt_le (e : Env) (p : Vec3) (warning : Bool) : e.ceilingAt p warning ≤ 1000 * e.limits.vmax :=
  (isLeast_ceilingAt e p warning).2 (Or.inl rfl)

/-- The profile's speed stays within a bound on the old speed and the ceiling (R77). -/
theorem profileStep_speed_le {c ceiling : Nat} {m : MoveInHand} (hm : m.speed ≤ c) (hc : ceiling ≤ c) (ts : Nat) :
    (profileStep ts ceiling m).speed ≤ c :=
  (profileSpeed_le _ _ _ _ _).trans (max_le hm ((min_le_left _ _).trans hc))

/-- A path stop never raises the speed (R84). -/
theorem stopStep_speed_le (ts rate : Nat) (m : MoveInHand) : (stopStep ts rate m).speed ≤ m.speed := by
  by_cases hv : m.speed - rate = 0
  · rw [stopStep_still hv]
    exact Nat.zero_le _
  · rw [stopStep_moves hv]
    exact Nat.sub_le _ _

end Sys2Proof.Machine
end

section
/-! The sixth law (R77, R99, R117): what every operation of the planner keeps of the speeds, up to its sample. -/

namespace Sys2Proof.Machine

open Sys2Proof

/-! ## The law -/

/-- The move in hand, if there is one, has no speed. -/
def State.HandStill (s : State) : Prop := ∀ m, s.pln.inHand = some m → m.speed = 0

/-- The carrier and the move in hand are at rest. -/
structure State.AtRest (s : State) : Prop where
  vel : s.pln.vel = Vec3.zero
  hand : s.HandStill

theorem State.HandStill.of_none {s : State} (h : s.pln.inHand = none) : s.HandStill := fun m hm => by
  rw [h] at hm
  cases hm

theorem State.HandStill.of_some {s : State} {m : MoveInHand} (h : s.pln.inHand = some m) (still : m.speed = 0) :
    s.HandStill := fun m' hm => by
  rw [h] at hm
  cases hm
  exact still

theorem State.HandStill.congr {s t : State} (hs : s.HandStill) (h : t.pln.inHand = s.pln.inHand) : t.HandStill :=
  fun m hm => hs m (h ▸ hm)

theorem speedLaw_iff (s : State) :
    speedLaw s ↔
      axesWithin (1000 * s.env.limits.vmax) s.pln.vel ∧ (producesSamples s.fcu.flight = false → s.pln.vel = Vec3.zero) ∧
        ∀ m, s.pln.inHand = some m → m.speed ≤ 1000 * s.env.limits.vmax ∧ (m.speed ≠ 0 → s.flies m) := by
  refine and_congr_right fun _ => and_congr_right fun _ => forall_congr' fun m => forall_congr' fun hm =>
    and_congr_right fun _ => imp_congr_right fun _ => ?_
  exact (and_iff_right hm).symm

/-- At rest the law holds under any limit. -/
theorem State.AtRest.speedLaw {s : State} (h : s.AtRest) : speedLaw s := by
  refine (speedLaw_iff s).mpr ⟨h.vel ▸ axesWithin_zero _, fun _ => h.vel, fun m hm => ?_⟩
  rw [h.hand m hm]
  exact ⟨Nat.zero_le _, absurd rfl⟩

/-- In flight with the move in hand still, it bounds the axis speeds alone. -/
theorem speedLaw_of_flying {s : State} (vel : axesWithin (1000 * s.env.limits.vmax) s.pln.vel) (flies : s.Flies)
    (hand : s.HandStill) : speedLaw s := by
  refine (speedLaw_iff s).mpr ⟨vel, fun rests => ?_, fun m hm => ?_⟩
  · rw [flies] at rests
    cases rests
  · rw [hand m hm]
    exact ⟨Nat.zero_le _, absurd rfl⟩

/-- With a move flown it bounds the axis speeds and the path speed. -/
theorem speedLaw_of_flown {s : State} {m : MoveInHand} (vel : axesWithin (1000 * s.env.limits.vmax) s.pln.vel) (flies : s.flies m)
    (speed : m.speed ≤ 1000 * s.env.limits.vmax) : speedLaw s := by
  refine (speedLaw_iff s).mpr ⟨vel, fun rests => ?_, fun m' hm => ?_⟩
  · rw [flies.producesSamples] at rests
    cases rests
  · rw [flies.1] at hm
    cases hm
    exact ⟨speed, fun _ => flies⟩

/-- The flight states in which a move may be flown or stopped on its path. -/
def FlightState.onPath : FlightState → Bool
  | .track => true
  | .stopping => true
  | _ => false

section
variable {s : State} (law : speedLaw s)
include law

theorem speedLaw.vel : axesWithin (1000 * s.env.limits.vmax) s.pln.vel := ((speedLaw_iff s).mp law).1

theorem speedLaw.speed {m : MoveInHand} (hm : s.pln.inHand = some m) : m.speed ≤ 1000 * s.env.limits.vmax :=
  (((speedLaw_iff s).mp law).2.2 m hm).1

/-- A move that is not flown has no speed. -/
theorem speedLaw.still {m : MoveInHand} (hm : s.pln.inHand = some m) (h : ¬ s.flies m) : m.speed = 0 := by
  by_contra moves
  exact h ((((speedLaw_iff s).mp law).2.2 m hm).2 moves)

/-- Off the path the move in hand is still. -/
theorem speedLaw.handStill (h : s.fcu.flight.onPath = false) : s.HandStill := fun m hm => law.still hm fun flies => by
  obtain ⟨-, ⟨track, -⟩ | ⟨stopping, -⟩⟩ := flies
  · rw [track] at h
    cases h
  · rw [stopping] at h
    cases h

/-- Where no sample is produced everything is at rest (R43). -/
theorem speedLaw.atRest (h : producesSamples s.fcu.flight = false) : s.AtRest := by
  refine ⟨((speedLaw_iff s).mp law).2.1 h, law.handStill ?_⟩
  cases hf : s.fcu.flight with
  | parked | parking | tripped => rfl
  | arming | hold | stick | track | stream | stopping =>
    rw [hf] at h
    cases h

end

/-! ## The relation -/

/-- A state reached with the sixth law kept. -/
def State.KeepsSpeed (s t : State) : Prop := speedLaw s → speedLaw t

namespace State.KeepsSpeed

variable {s t u : State}

theorem trans (h : s.KeepsSpeed t) (k : t.KeepsSpeed u) : s.KeepsSpeed u := k ∘ h

/-- The limits, the flight state, the velocities, the move in hand and the stop stand. -/
theorem of_motion (limits : t.env.limits = s.env.limits) (flight : t.fcu.flight = s.fcu.flight) (vel : t.pln.vel = s.pln.vel)
    (hand : t.pln.inHand = s.pln.inHand) (stop : t.pln.stop = s.pln.stop) : s.KeepsSpeed t := by
  unfold State.KeepsSpeed speedLaw
  rw [limits, flight, vel, hand, stop]
  exact id

/-- The carrier comes to rest off the path, the move in hand as it was. -/
theorem of_stopped (flight : s.fcu.flight.onPath = false) (vel : t.pln.vel = Vec3.zero)
    (hand : t.pln.inHand = s.pln.inHand) : s.KeepsSpeed t :=
  fun law => State.AtRest.speedLaw ⟨vel, (law.handStill flight).congr hand⟩

/-- The carrier comes to rest with no move in hand. -/
theorem of_emptied (vel : t.pln.vel = Vec3.zero) (hand : t.pln.inHand = none) : s.KeepsSpeed t :=
  fun _ => State.AtRest.speedLaw ⟨vel, .of_none hand⟩

/-- The carrier glides on at its velocities, the move in hand still. -/
theorem of_gliding (limits : t.env.limits = s.env.limits) (vel : t.pln.vel = s.pln.vel) (flies : t.Flies)
    (hand : speedLaw s → t.HandStill) : s.KeepsSpeed t := fun law => by
  refine speedLaw_of_flying ?_ flies (hand law)
  rw [limits, vel]
  exact law.vel

end State.KeepsSpeed

/-- The law is blind to all but the flight state, the limits and the planner, and a trip brings everything to rest (R187). -/
theorem keepsSpeed_plannerFrame : PlannerFrame State.KeepsSpeed where
  frame flight env pln := by
    refine .of_motion (by rw [env]) flight ?_ ?_ ?_ <;> rw [pln]
  trans := .trans
  trips _ _ _ _ := .of_emptied rfl rfl

theorem report_keepsSpeed (f : Flag) (channel : Nat) (seat : Option Seat) (s : State) :
    s.KeepsSpeed (report f channel seat s) := keepsSpeed_plannerFrame.report f channel seat s

theorem State.KeepsSpeed.refl (s : State) : s.KeepsSpeed s := keepsSpeed_plannerFrame.refl s

/-! ## Moves -/

theorem enterHold_keepsSpeed {s : State} (cause : StopCause) (h : speedLaw s → s.HandStill) :
    s.KeepsSpeed (enterHold cause s) := fun law => State.AtRest.speedLaw ⟨rfl, (h law).congr rfl⟩

theorem rejectPath_keepsSpeed (s : State) : s.KeepsSpeed (rejectPath s) := by
  rw [rejectPath_eq]
  exact .of_emptied rfl rfl

/-- A move begins with no speed (R76). -/
theorem startMove_keepsSpeed (m : Move) (step : Bool) (s : State) : s.KeepsSpeed (startMove m step s) := by
  unfold startMove
  dsimp only
  split <;> exact .of_gliding rfl rfl rfl fun _ => .of_some rfl rfl

/-- An arrival ends the move's motion (R79). -/
theorem arriveWith_keepsSpeed {onEnd : State → State} (h : ∀ u : State, u.KeepsSpeed (onEnd u)) {m : MoveInHand} {s : State} :
    s.KeepsSpeed (arriveWith onEnd m s) := by
  have stilled : ∀ t : State, t.env = s.env → t.fcu = s.fcu →
      (∃ m' : MoveInHand, t.pln = { s.pln with inHand := some m' } ∧ m'.speed = 0) → s.KeepsSpeed t := by
    rintro t env fcu ⟨m', pln, still⟩ law
    have hand : t.HandStill := .of_some (by rw [pln]) still
    obtain ⟨vel, rests, -⟩ := (speedLaw_iff s).mp law
    refine (speedLaw_iff t).mpr ⟨by rw [env, pln]; exact vel, fun ht => ?_, fun k hk => ?_⟩
    · rw [pln]
      exact rests (fcu ▸ ht)
    · rw [hand k hk]
      exact ⟨Nat.zero_le _, absurd rfl⟩
  obtain ⟨handed, arrived⟩ := s.arrived_keeps m
  have ends : s.KeepsSpeed (onEnd (s.arrived m)) := by
    refine State.KeepsSpeed.trans ?_ (h _)
    rw [arrived]
    exact stilled _ rfl rfl ⟨_, rfl, rfl⟩
  cases dwell : m.move.dwell with
  | none => rwa [arriveWith_ends _ _ (Or.inl dwell)]
  | some ms =>
    by_cases hms : ms = 0
    · subst hms
      rwa [arriveWith_ends _ _ (Or.inr dwell)]
    · rw [arriveWith_dwells _ _ dwell hms, arrived]
      exact stilled _ rfl rfl ⟨_, rfl, rfl⟩

theorem beginWith_keepsSpeed {onEnd : State → State} (h : ∀ u : State, u.KeepsSpeed (onEnd u)) (m : Move) (step : Bool)
    (s : State) : s.KeepsSpeed (beginWith onEnd m step s) := by
  unfold beginWith
  split
  · dsimp only
    split
    · exact (startMove_keepsSpeed m step s).trans (arriveWith_keepsSpeed h)
    · exact startMove_keepsSpeed m step s
  · exact rejectPath_keepsSpeed s

/-- Emptying the hand keeps the law: without a move it bounds the axis speeds alone. -/
theorem emptyHand_keepsSpeed (s : State) : s.KeepsSpeed (emptyHand s) := fun law => by
  obtain ⟨vel, rests, -⟩ := (speedLaw_iff s).mp law
  exact (speedLaw_iff _).mpr ⟨vel, rests, fun _ hm => nomatch hm⟩

/-- The move-end decision empties the hand, and begins the next move or enters HOLD (R81). -/
theorem moveEndFrom_keepsSpeed (queue : List Move) : ∀ (step : Bool) (s : State), s.KeepsSpeed (moveEndFrom queue step s) := by
  have early : ∀ {step : Bool} {s t : State}, earlyEnd step (emptyHand s) = some t → s.KeepsSpeed t := by
    intro step s t h
    unfold earlyEnd at h
    split at h
    · cases h; exact .of_emptied rfl rfl
    · split at h
      · cases h; exact .of_emptied rfl rfl
      · cases h
  have emptied : ∀ (left : List Move) (s : State),
      s.KeepsSpeed ((emptyHand s).onPln fun p => { p with queue := left }) := fun _ s =>
    (emptyHand_keepsSpeed s).trans (.of_motion rfl rfl rfl rfl rfl)
  induction queue with
  | nil =>
    intro step s
    unfold moveEndFrom
    dsimp only
    split
    · next h => exact early h
    · exact .of_emptied rfl rfl
  | cons head rest ih =>
    intro step s
    unfold moveEndFrom
    dsimp only
    split
    · next h => exact early h
    · split
      · exact .of_emptied rfl rfl
      · exact (emptied rest s).trans (beginWith_keepsSpeed (ih false) head false _)

theorem moveEnd_keepsSpeed (step : Bool) (s : State) : s.KeepsSpeed (moveEnd step s) := moveEndFrom_keepsSpeed _ step s

/-! ## What a sample concludes -/

theorem strikeEnd_keepsSpeed (s : State) : s.KeepsSpeed (strikeEnd s) := .of_emptied rfl rfl

theorem concludePath_keepsSpeed (kind : SampleKind) {m : MoveInHand} {s : State} :
    s.KeepsSpeed (concludePath kind m s) := by
  unfold concludePath
  split
  · split
    · exact arriveWith_keepsSpeed (moveEnd_keepsSpeed _)
    · exact .refl s
  · split
    · exact moveEnd_keepsSpeed _ s
    · exact .refl s
  · split
    · unfold stopRested
      split
      · exact .of_emptied rfl rfl
      · exact fun _ => State.AtRest.speedLaw ⟨rfl, .of_some rfl rfl⟩
    · split
      · unfold stopArrived
        dsimp only
        split <;> exact .of_emptied rfl rfl
      · exact .refl s
  · exact .refl s

section
variable {s : State} (still : s.HandStill)
include still

/-- The end of a stream is an axis stop at the velocities as they stand (R119, R120, R122). -/
theorem axisStop_keepsSpeed {t : State} (env : t.env = s.env) (vel : t.pln.vel = s.pln.vel)
    (hand : t.pln.inHand = s.pln.inHand) (rate : Nat) (cause : StopCause) :
    s.KeepsSpeed (startStop .axis rate cause t) :=
  .of_gliding (by rw [startStop_eq, env]) vel rfl fun _ => still.congr hand

theorem endStream_keepsSpeed : s.KeepsSpeed (endStream s) :=
  axisStop_keepsSpeed still (t := s.onPln fun p => { p with stream := { p.stream with state := .idle } }) rfl rfl rfl _ _

theorem streamFault_keepsSpeed {f : Flag} (hf : f.isTrip = false) (rate : Nat) (cause : StopCause) :
    s.KeepsSpeed (startStop .axis rate cause (cancelStream (report f 0 none s))) := by
  obtain ⟨flt, handed, reported⟩ := report_eq_of_not_trip hf 0 none s
  rw [reported]
  exact axisStop_keepsSpeed still rfl rfl rfl _ _

theorem concludeFollow_keepsSpeed (played : Vec3) (first : Bool) : s.KeepsSpeed (concludeFollow played first s) := by
  have rest : ∀ u : State, u.HandStill → u.KeepsSpeed
      (if 1000 * u.env.limits.lagLimit < chebyshev played u.pln.pos then lagEnd u
        else if u.pln.stream.state = .ending ∧ u.pln.stream.samples = [] then endStream u else u) := by
    intro u hu
    split
    · exact streamFault_keepsSpeed hu rfl _ _
    · split
      · exact endStream_keepsSpeed hu
      · exact .refl u
  unfold concludeFollow
  cases first
  · exact rest s still
  · exact (keepsSpeed_plannerFrame.notice .streamPlaying 0 s).trans (rest (notice .streamPlaying 0 s) (still.congr rfl))

end

/-- What a sample concludes keeps the law, where off the path the move in hand is still (R41, R61, R79 to R81, R84, R116 to
R122). -/
theorem conclude_keepsSpeed {kind : SampleKind} {s : State} (still : kind.onPath = false → s.HandStill) (struck : Bool) :
    s.KeepsSpeed (conclude kind struck s) := by
  have path : ∀ k, s.KeepsSpeed
      (if struck = true then strikeEnd s else s.pln.inHand.elim s fun m => concludePath k m s) := by
    intro k
    split
    · exact strikeEnd_keepsSpeed s
    · cases s.pln.inHand with
      | none => exact .refl s
      | some m => exact concludePath_keepsSpeed k
  cases kind with
  | rest | stick => exact .refl s
  | follow played first => exact concludeFollow_keepsSpeed (still rfl) played first
  | axisStop =>
    change s.KeepsSpeed (if s.pln.vel = Vec3.zero then endAxisStop s else s)
    split
    · unfold endAxisStop
      split
      · exact fun _ => State.AtRest.speedLaw ⟨rfl, (still rfl).congr rfl⟩
      · exact enterHold_keepsSpeed _ fun _ => still rfl
    · exact .refl s
  | moving | dwelling | pathStop => exact path _

end Sys2Proof.Machine
end

section
/-! The sixth law over a servo event's sample (R36, R44, R77, R80, R84, R99, R103, R115 to R123): its preparation, by flight
state, and its commitment. -/

namespace Sys2Proof.Machine

open Sys2Proof

/-! ## Preparation -/

theorem axesWithin.mono {c d : Nat} {v : Vec3} (h : axesWithin c v) (hc : c ≤ d) : axesWithin d v := fun axis =>
  (h axis).trans hc

/-- A sample prepared with the law kept; the sample is a path sample where the move in hand is not still. -/
structure Prepared.Lawful (p : Prepared) : Prop where
  law : speedLaw p.state
  still : p.kind.onPath = false → p.state.HandStill

/-- The hold sample brings the carrier to rest (R44). -/
theorem prepareRest_lawful {s : State} (still : s.HandStill) : (prepareRest s).Lawful :=
  ⟨State.AtRest.speedLaw ⟨rfl, still.congr rfl⟩, fun _ => still.congr rfl⟩

/-- The soft walls keep the bound on candidate velocities (R39, R100, R103, R118). -/
theorem prepareAxes_lawful (kind : SampleKind) {vel : Vec3} {s : State} (flies : s.Flies)
    (within : axesWithin (1000 * s.env.limits.vmax) vel) (still : s.HandStill) : (prepareAxes kind vel s).Lawful :=
  ⟨speedLaw_of_flying (softWalls_within within _ _ _) flies (still.congr rfl), fun _ => still.congr rfl⟩

/-- A velocity moved toward a target limited to the ceiling stays within vmax (R36, R99, R117). -/
theorem approach_ceiling_within {s : State} (vel : axesWithin (1000 * s.env.limits.vmax) s.pln.vel) (step : Nat)
    (target : Vec3) :
    axesWithin (1000 * s.env.limits.vmax)
      (approachAxes step s.pln.vel (limitTo (computeCeiling s).env.ceiling target)) :=
  approachAxes_within vel ((limitTo_within _ _).mono (ceilingAt_le _ _ _)) step

theorem prepareFollow_lawful (first : Bool) (head : Sample) (rest : List Sample) {s : State} (flies : s.Flies)
    (vel : axesWithin (1000 * s.env.limits.vmax) s.pln.vel) (still : s.HandStill) :
    (prepareFollow first head rest s).Lawful := by
  obtain ⟨low, critical, high, handed, banded⟩ :=
    evaluateBands_keeps (s.onPln fun p => { p with stream := { p.stream with samples := rest } })
  unfold prepareFollow
  rw [banded]
  exact prepareAxes_lawful _ flies (approach_ceiling_within vel _ _) (still.congr rfl)

section
variable {s : State} (law : speedLaw s)
include law

theorem prepareStick_lawful (hf : s.fcu.flight = .stick) : (prepareStick s).Lawful := by
  have flies : s.Flies := by rw [State.Flies, hf]; rfl
  have still : s.HandStill := law.handStill (by rw [hf]; rfl)
  exact prepareAxes_lawful _ flies (approach_ceiling_within law.vel _ _) (still.congr rfl)

/-- In an axis stop the move in hand is still. -/
theorem speedLaw.handStill_of_axis (hf : s.fcu.flight = .stopping) (axis : ∀ st, s.pln.stop = some st → st.kind = .axis) :
    s.HandStill := fun m hm => law.still hm fun flies => by
  obtain ⟨-, ⟨track, -⟩ | ⟨-, st, hs, path⟩⟩ := flies
  · rw [hf] at track
    cases track
  · rw [axis st hs] at path
    cases path

theorem prepareAxisStop_lawful (rate : Nat) (hf : s.fcu.flight = .stopping)
    (axis : ∀ st, s.pln.stop = some st → st.kind = .axis) : (prepareAxisStop rate s).Lawful :=
  prepareAxes_lawful _ (by rw [State.Flies, hf]; rfl) (approachAxes_within law.vel (axesWithin_zero _) rate)
    (law.handStill_of_axis hf axis)

/-- A sample in STREAM is the follower's, or the first of an axis stop (R117, R120). -/
theorem prepareStream_lawful (hf : s.fcu.flight = .stream) : (prepareStream s).Lawful := by
  have still : s.HandStill := law.handStill (by rw [hf]; rfl)
  unfold prepareStream
  split
  · exact prepareFollow_lawful _ _ _ (by rw [State.Flies, hf]; rfl) law.vel still
  · split
    · have stopped : speedLaw (underrun s) := streamFault_keepsSpeed still (f := .streamUnderrun) rfl _ _ law
      exact prepareAxisStop_lawful stopped _ rfl fun st hs => by cases hs; rfl
    · exact prepareAxisStop_lawful (endStream_keepsSpeed still law) _ rfl fun st hs => by cases hs; rfl

/-- The start of play leaves HOLD for the follower, or takes the hold sample (R115, R116). -/
theorem prepareStartOfPlay_lawful (hf : s.fcu.flight = .hold) : (prepareStartOfPlay s).Lawful := by
  have still : s.HandStill := law.handStill (by rw [hf]; rfl)
  unfold prepareStartOfPlay
  dsimp only
  split
  · obtain ⟨flt, handed, reported⟩ := report_eq_of_not_trip (f := .streamUnderrun) rfl 0 none s
    rw [reported]
    exact prepareRest_lawful (still.congr rfl)
  · split
    · exact prepareRest_lawful (still.congr rfl)
    · exact prepareFollow_lawful _ _ _ rfl (axesWithin_zero _) (still.congr rfl)

/-- In TRACK only a move in MOVING has a speed. -/
theorem speedLaw.still_in_track (hf : s.fcu.flight = .track) {m : MoveInHand} (hm : s.pln.inHand = some m)
    (phase : m.phase ≠ .moving) : m.speed = 0 := law.still hm fun flies => by
  obtain ⟨-, ⟨-, moving⟩ | ⟨stopping, -⟩⟩ := flies
  · exact phase moving
  · rw [hf] at stopping
    cases stopping

/-- A sample in TRACK: the profile's step, or a dwell's (R77, R80). -/
theorem prepareTrack_lawful (hf : s.fcu.flight = .track) : (prepareTrack s).Lawful := by
  have flies : s.Flies := by rw [State.Flies, hf]; rfl
  have resting : s.HandStill → (⟨.rest, s.pln.pos, s⟩ : Prepared).Lawful := fun still => ⟨law, fun _ => still⟩
  unfold prepareTrack
  split
  · next hm => exact resting (.of_none hm)
  · next m hm =>
    cases phase : m.phase with
    | moving =>
      refine ⟨speedLaw_of_flown law.vel ⟨rfl, Or.inl ⟨hf, phase⟩⟩ ?_, nofun⟩
      exact profileStep_speed_le (law.speed hm) (ceilingAt_le _ _ _) _
    | dwelling =>
      have still : m.speed = 0 := law.still_in_track hf hm (by rw [phase]; nofun)
      exact ⟨speedLaw_of_flying law.vel flies (.of_some rfl still), nofun⟩
    | suspended | abandoned => exact resting (.of_some hm (law.still_in_track hf hm (by rw [phase]; nofun)))

/-- A path stop's sample never raises the path speed (R84). -/
theorem preparePathStop_lawful (hf : s.fcu.flight = .stopping) {rate : Nat} (hs : s.pln.stop = some ⟨.path, rate⟩)
    {m : MoveInHand} (hm : s.pln.inHand = some m) : (preparePathStop rate m s).Lawful := by
  refine ⟨speedLaw_of_flown law.vel ⟨rfl, Or.inr ⟨hf, _, hs, rfl⟩⟩ ?_, nofun⟩
  exact (stopStep_speed_le _ rate m).trans (law.speed hm)

/-- A sample in STOPPING, by the kind of the stop (R84, R103, R123). -/
theorem prepareStopping_lawful (hf : s.fcu.flight = .stopping) : (prepareStopping s).Lawful := by
  unfold prepareStopping
  split
  · next rate m hs hm => exact preparePathStop_lawful law hf hs hm
  · next hs hm => exact ⟨law, fun _ => .of_none hm⟩
  · next rate hs =>
    exact prepareAxisStop_lawful law rate hf fun st hst => by
      rw [hs] at hst
      cases hst
      rfl
  · next hs =>
    exact prepareAxisStop_lawful law _ hf fun st hst => by
      rw [hs] at hst
      cases hst

/-- Every sample is prepared with the law kept (R43). -/
theorem prepareSample_lawful {frameStart : Bool} : ∀ p, prepareSample frameStart s = some p → p.Lawful := by
  have given : ∀ q : Prepared, q.Lawful → ∀ p, some q = some p → p.Lawful := fun q hq p h => Option.some.inj h ▸ hq
  unfold prepareSample
  cases hf : s.fcu.flight with
  | parked | parking | tripped => exact fun _ h => nomatch h
  | arming => exact given _ (prepareRest_lawful (law.handStill (by rw [hf]; rfl)))
  | hold =>
    refine given _ ?_
    split
    · exact prepareStartOfPlay_lawful law hf
    · exact prepareRest_lawful (law.handStill (by rw [hf]; rfl))
  | track => exact given _ (prepareTrack_lawful law hf)
  | stick => exact given _ (prepareStick_lawful law hf)
  | stream => exact given _ (prepareStream_lawful law hf)
  | stopping => exact given _ (prepareStopping_lawful law hf)

end

/-! ## Commitment -/

/-- The hard clamp only puts velocities to rest (R41). -/
theorem commit_keepsSpeed (p : Prepared) : p.state.KeepsSpeed p.commit := fun law => by
  obtain ⟨flt, mrk, handed, committed⟩ := commit_keeps p
  obtain ⟨vel, rests, hand⟩ := (speedLaw_iff p.state).mp law
  rw [committed]
  refine (speedLaw_iff _).mpr ⟨restClamped_within vel _ _, fun h => ?_, hand⟩
  dsimp only
  rw [rests h, restClamped_zero]

/-- The sample of a servo event keeps the law (R43). -/
theorem planSample_keepsSpeed (frameStart : Bool) (s : State) : s.KeepsSpeed (planSample frameStart s) := fun law => by
  unfold planSample
  split
  · exact law
  · next p hp =>
    obtain ⟨prepared, still⟩ := prepareSample_lawful law p hp
    obtain ⟨flt, mrk, handed, committed⟩ := commit_keeps p
    refine conclude_keepsSpeed (fun hk => (still hk).congr ?_) _ (commit_keepsSpeed p prepared)
    rw [committed]

end Sys2Proof.Machine
end

section
/-! The sixth law over every command (R43, R77, R99, R117): the flight commands, the moves, the stick, the stream and the zones
leave every speed within vmax. -/

namespace Sys2Proof.Machine

open Sys2Proof

/-- From a state without samples everything stays at rest, whatever the limits become (R43). -/
theorem State.KeepsSpeed.of_resting {s t : State} (rests : producesSamples s.fcu.flight = false) (vel : t.pln.vel = s.pln.vel)
    (hand : t.pln.inHand = s.pln.inHand) : s.KeepsSpeed t := fun law =>
  State.AtRest.speedLaw ⟨vel.trans (law.atRest rests).vel, (law.atRest rests).hand.congr hand⟩

theorem onPln_keepsSpeed {f : Pln → Pln} {s : State} (vel : (f s.pln).vel = s.pln.vel)
    (hand : (f s.pln).inHand = s.pln.inHand) (stop : (f s.pln).stop = s.pln.stop) : s.KeepsSpeed (s.onPln f) :=
  .of_motion rfl rfl vel hand stop

/-! ## Flight -/

theorem parked_of_armChecks {s : State} (h : firstError (armChecks s) = none) : s.fcu.flight = .parked := by
  by_contra hf
  rw [armChecks, firstError_cons, if_pos (decide_eq_true hf)] at h
  cases h

theorem startArming_keepsSpeed {s : State} (h : s.fcu.flight = .parked) : s.KeepsSpeed (startArming s) :=
  .of_stopped (by rw [h]; rfl) rfl rfl

theorem cancelPrimed_keepsSpeed (s : State) : s.KeepsSpeed (cancelPrimed s) := by
  rw [cancelPrimed_eq]
  exact .of_motion rfl rfl rfl rfl rfl

theorem startParking_keepsSpeed {s : State} (h : s.fcu.flight = .hold) : s.KeepsSpeed (startParking s) := by
  refine State.KeepsSpeed.trans ?_ (cancelPrimed_keepsSpeed _)
  exact .of_stopped (by rw [h]; rfl) rfl rfl

theorem releaseTimeout_keepsSpeed (w : Winch) (s : State) : s.KeepsSpeed (releaseTimeout w s) := by
  have reported : s.KeepsSpeed (report .armTimeout (winchNumber w) none (s.onChan w fun c => { c with timer := none })) :=
    keepsSpeed_plannerFrame.reported (keepsSpeed_plannerFrame.onChan w _ s) _ _ _
  unfold releaseTimeout
  dsimp only
  split
  · next arming =>
    refine reported.trans (.of_stopped ?_ rfl rfl)
    rw [arming]
    rfl
  · exact reported

/-- ARMING ends in HOLD at rest, PARKING in PARKED (R53, R57). -/
theorem watchChannels_keepsSpeed (s : State) : s.KeepsSpeed (watchChannels s) := by
  unfold watchChannels
  split
  · next h => exact .of_stopped (by rw [h.1]; rfl) rfl rfl
  · split
    · next h =>
      refine State.KeepsSpeed.trans (t := s.onFcu fun f => { f with flight := .parked }) ?_ ?_
      · exact .of_resting (by rw [h.1]; rfl) rfl rfl
      · exact (keepsSpeed_plannerFrame.writePose _ _).trans (keepsSpeed_plannerFrame.notice _ _ _)
    · exact .refl s

/-- CLEAR_FAULTS ends in PARKED or in the flight state it found (R194). -/
theorem clearFaultsRecord_keepsSpeed (seat : Seat) (s : State) : s.KeepsSpeed (clearFaultsRecord seat s) := by
  have cleared := keepsSpeed_plannerFrame.sameButFlags (clearFlags_sameButFlags s)
  unfold clearFaultsRecord
  split
  · exact keepsSpeed_plannerFrame.refuse _ _ _ s
  · refine State.KeepsSpeed.trans ?_ (keepsSpeed_plannerFrame.ack _ _ _ _)
    unfold clearFaults returnToParked
    split
    · next h =>
      refine cleared.trans (.of_resting ?_ rfl rfl)
      rw [show (clearFlags s).fcu.flight = .tripped from h.1]
      rfl
    · exact cleared.trans (keepsSpeed_plannerFrame.frame rfl rfl rfl)

/-- A move in MOVING goes into a path stop at its speed, a dwell ends in HOLD (R58). -/
theorem holdInTrack_keepsSpeed (seat : Seat) (s : State) : s.KeepsSpeed (holdInTrack seat s) := by
  unfold holdInTrack
  split
  · exact .refl s
  · next m hm =>
    split
    · exact fun law => speedLaw_of_flown (m := { m with stepFlag := false }) law.vel ⟨rfl, Or.inr ⟨rfl, _, rfl, rfl⟩⟩
        (law.speed (m := m) hm)
    · exact .of_emptied rfl rfl
    · exact .refl s
    · exact .refl s

/-- HOLD from SAFETY may raise the rate of a stop, which goes on as the kind of stop it is (R60). -/
theorem holdInStopping_keepsSpeed (seat : Seat) {s : State} (hf : s.fcu.flight = .stopping) :
    s.KeepsSpeed (holdInStopping seat s) := by
  unfold holdInStopping
  split
  · exact .refl s
  · next st hs =>
    split
    · intro law
      obtain ⟨vel, -, hand⟩ := (speedLaw_iff s).mp law
      refine (speedLaw_iff _).mpr ⟨vel, nofun, fun m hm => ⟨(hand m hm).1, fun moves => ?_⟩⟩
      obtain ⟨-, ⟨track, -⟩ | ⟨-, st', hs', path⟩⟩ := (hand m hm).2 moves
      · rw [hf] at track
        cases track
      · rw [hs] at hs'
        cases hs'
        exact ⟨hm, Or.inr ⟨rfl, _, rfl, path⟩⟩
    · exact .refl s

/-- HOLD (R55, R58 to R60, R62). -/
theorem holdEffect_keepsSpeed (seat : Seat) (s : State) : s.KeepsSpeed (holdEffect seat s) := by
  unfold holdEffect
  cases hf : s.fcu.flight with
  | hold =>
    dsimp only
    split
    · exact cancelPrimed_keepsSpeed s
    · exact .refl s
  | track => exact holdInTrack_keepsSpeed seat s
  | stick | stream => exact .of_gliding rfl rfl rfl fun law => (law.handStill (by rw [hf]; rfl)).congr rfl
  | stopping => exact holdInStopping_keepsSpeed seat hf
  | parked | arming | parking | tripped => exact .refl s

/-! ## The stick -/

/-- The stick takes over a move in MOVING at its speed, axis by axis, and the move is suspended (R89, R97). -/
theorem enterStick_handOver_keepsSpeed {s : State} (hf : s.fcu.flight = .track) :
    s.KeepsSpeed (enterStick (handOverMove s)) := by
  unfold handOverMove
  split
  · next hm => exact fun _ => State.AtRest.speedLaw ⟨rfl, .of_none hm⟩
  · next m hm =>
    have stilled : m.phase ≠ .moving → s.KeepsSpeed (enterStick (s.onPln fun p => { p with vel := Vec3.zero })) :=
      fun phase law => State.AtRest.speedLaw ⟨rfl, .of_some hm (law.still_in_track hf hm phase)⟩
    split
    · exact fun _ => speedLaw_of_flying (decompose_within _ m) rfl (.of_some rfl rfl)
    · exact .of_emptied rfl rfl
    · next phase => exact stilled (by rw [phase]; nofun)
    · next phase => exact stilled (by rw [phase]; nofun)

/-- TAKE_STICK (R96 to R98). -/
theorem takeStick_keepsSpeed (s : State) : s.KeepsSpeed (takeStick s) := by
  unfold takeStick
  cases hf : s.fcu.flight with
  | hold =>
    dsimp only
    rw [cancelPrimed_eq]
    exact .of_stopped (by rw [hf]; rfl) rfl rfl
  | track => exact enterStick_handOver_keepsSpeed hf
  | stream => exact .of_gliding rfl rfl rfl fun law => (law.handStill (by rw [hf]; rfl)).congr rfl
  | parked | arming | stick | stopping | parking | tripped => exact .refl s

theorem dropStick_keepsSpeed {s : State} (hf : s.fcu.flight = .stick) : s.KeepsSpeed (dropStick s) :=
  .of_gliding rfl rfl rfl fun law => (law.handStill (by rw [hf]; rfl)).congr rfl

/-! ## The moves -/

/-- The move RESUME or STEP would begin leaves the hand or the queue (R82). -/
theorem nextMove_keepsSpeed {s t : State} {m : Move} (h : nextMove s = some (m, t)) : s.KeepsSpeed t := by
  unfold nextMove at h
  split at h
  · cases h
    exact emptyHand_keepsSpeed s
  · split at h
    · cases h
    · cases h
      exact onPln_keepsSpeed rfl rfl rfl

/-- RESUME and STEP begin a move (R82, R83). -/
theorem resumeWith_keepsSpeed (type : BitVec 6) (step : Bool) (seat : Seat) (s : State) :
    s.KeepsSpeed (resumeWith type step seat s) := by
  have begins : ∀ (m : Move) (u : State), u.KeepsSpeed (beginWith (moveEnd step) m step u) :=
    fun m u => beginWith_keepsSpeed (moveEnd_keepsSpeed step) m step u
  unfold resumeWith
  split
  · exact keepsSpeed_plannerFrame.refuse _ _ _ s
  · split
    · exact keepsSpeed_plannerFrame.refuse _ _ _ s
    · next m t hn =>
      have acked : ∀ n, s.KeepsSpeed (ack seat type n t) := fun n =>
        (nextMove_keepsSpeed hn).trans (keepsSpeed_plannerFrame.ack _ _ _ t)
      split
      · exact ((acked 0).trans (cancelPrimed_keepsSpeed _)).trans (begins m _)
      · exact (acked 1).trans (begins m _)

theorem flushMoves_keepsSpeed (seat : Seat) (s : State) : s.KeepsSpeed (flushMoves seat s) := by
  have flushed : s.KeepsSpeed (flushQueue s) := .of_motion rfl rfl rfl rfl rfl
  unfold flushMoves
  split
  · exact onPln_keepsSpeed rfl rfl rfl
  · unfold discardSuspended
    split
    · exact flushed.trans (emptyHand_keepsSpeed _)
    · exact flushed

theorem appendMove_keepsSpeed (seat : Seat) (p : List Byte) (s : State) : s.KeepsSpeed (appendMove seat p s) := by
  unfold appendMove
  dsimp only
  split <;> exact .of_motion rfl rfl rfl rfl rfl

/-! ## The stream -/

theorem appendInOrder_keepsSpeed (positions : List Vec3) (s : State) : s.KeepsSpeed (appendInOrder positions s) := by
  have banded : ∀ u : State, u.KeepsSpeed (evaluateBands u) := by
    intro u
    obtain ⟨low, critical, high, handed, h⟩ := evaluateBands_keeps u
    rw [h]
    exact .of_motion rfl rfl rfl rfl rfl
  have appended : s.KeepsSpeed (s.onPln fun p => { p with stream := p.stream.append positions }) := onPln_keepsSpeed rfl rfl rfl
  unfold appendInOrder
  dsimp only
  refine State.KeepsSpeed.trans ?_ (banded _)
  split
  · exact appended.trans (report_keepsSpeed _ _ _ _)
  · exact appended

theorem takeSamples_keepsSpeed (j : BitVec 16) (positions : List Vec3) (s : State) :
    s.KeepsSpeed (takeSamples j positions s) := by
  unfold takeSamples
  dsimp only
  split
  · exact appendInOrder_keepsSpeed positions s
  · split
    · split
      · exact .refl s
      · exact appendInOrder_keepsSpeed _ s
    · unfold streamAhead
      dsimp only
      split <;> exact .of_motion rfl rfl rfl rfl rfl

theorem streamRecord_keepsSpeed (seat : Seat) (p : List Byte) (s : State) : s.KeepsSpeed (streamRecord seat p s) := by
  unfold streamRecord
  split
  · exact onPln_keepsSpeed rfl rfl rfl
  · dsimp only
    split
    · exact takeSamples_keepsSpeed _ _ s
    · exact onPln_keepsSpeed rfl rfl rfl

/-- The end of a playing stream is an axis stop; a stream plays in STREAM alone (R121, R122). -/
theorem streamEnd_keepsSpeed {s : State} (h : streamFlight s) : s.KeepsSpeed (streamEnd s) := by
  unfold streamEnd
  split
  · exact onPln_keepsSpeed rfl rfl rfl
  · next playing =>
    split
    · exact fun law => endStream_keepsSpeed (law.handStill (by rw [h (Or.inl playing)]; rfl)) law
    · exact onPln_keepsSpeed rfl rfl rfl
  all_goals exact .refl s

/-! ## The zones -/

/-- The ZONE_STOP an activation starts stops a flown move on its path, at its speed (R29, R30). -/
theorem zoneStopDecision_keepsSpeed (z : Zone) (s : State) : s.KeepsSpeed (zoneStopDecision z s) := by
  by_cases hc : ∃ m, s.cutBy z m
  · obtain ⟨m, cut⟩ := hc
    rw [zoneStopDecision_cut cut]
    split
    · exact report_keepsSpeed _ _ _ s
    · obtain ⟨-, pln, env, -⟩ := report_sameButFlags (f := .zoneStop) rfl 0 none { s with
        pln := { s.pln with inHand := some { m with phase := .abandoned, stepFlag := false }, queue := [] }
        mrk := { s.mrk with holdPending := false } }
      rw [startZoneStop_eq]
      intro law
      refine speedLaw_of_flown (m := { m with phase := .abandoned, stepFlag := false }) ?_
        ⟨by rw [pln], Or.inr ⟨rfl, _, rfl, rfl⟩⟩ ?_
      · rw [pln, env]
        exact law.vel
      · rw [env]
        exact law.speed (m := m) cut.1.1
  · rw [zoneStopDecision_uncut (not_exists.mp hc)]
    exact .refl s

theorem takeZone_keepsSpeed (slot : Nat) (z : Zone) (s : State) : s.KeepsSpeed (takeZone slot z s) :=
  State.KeepsSpeed.trans (t := s.onEnv fun e => e.putZone slot (some z)) (.of_motion rfl rfl rfl rfl rfl)
    (zoneStopDecision_keepsSpeed z _)

theorem zonePut_keepsSpeed (seat : Seat) (p : List Byte) (s : State) : s.KeepsSpeed (zonePut seat p s) := by
  unfold zonePut
  dsimp only
  split
  · exact keepsSpeed_plannerFrame.refuse _ _ _ s
  · split
    · exact keepsSpeed_plannerFrame.refuse _ _ _ s
    · exact keepsSpeed_plannerFrame.answer fun _ => takeZone_keepsSpeed _ _ _

theorem zoneSet_keepsSpeed (seat : Seat) (p : List Byte) (s : State) : s.KeepsSpeed (zoneSet seat p s) := by
  unfold zoneSet
  dsimp only
  split
  · exact keepsSpeed_plannerFrame.refuse _ _ _ s
  · split
    · exact keepsSpeed_plannerFrame.refuse _ _ _ s
    · exact keepsSpeed_plannerFrame.answer fun _ => takeZone_keepsSpeed _ _ _

theorem zoneRemove_keepsSpeed (seat : Seat) (p : List Byte) (s : State) : s.KeepsSpeed (zoneRemove seat p s) := by
  unfold zoneRemove
  dsimp only
  split
  · exact keepsSpeed_plannerFrame.refuse _ _ _ s
  · split
    · exact keepsSpeed_plannerFrame.ack _ _ _ s
    · exact keepsSpeed_plannerFrame.answer fun _ => .of_motion rfl rfl rfl rfl rfl

/-! ## The settings and the part reset -/

theorem setAnchor_keepsSpeed (seat : Seat) (p : List Byte) (s : State) : s.KeepsSpeed (setAnchor seat p s) := by
  unfold setAnchor
  dsimp only
  split <;> exact .of_motion rfl rfl rfl rfl rfl

theorem setWorkspace_keepsSpeed (seat : Seat) (p : List Byte) (s : State) : s.KeepsSpeed (setWorkspace seat p s) := by
  unfold setWorkspace
  dsimp only
  split <;> exact .of_motion rfl rfl rfl rfl rfl

/-- New limits are taken in PARKED alone, where everything is at rest (R17, R37). -/
theorem limits_keepsSpeed {l : Limits} {s : State} (h : firstError (limitsChecks l s) = none) :
    s.KeepsSpeed (evaluateHome (s.onEnv fun e => { e with limits := l })) :=
  .of_resting (by rw [parked_of_gate_passes h]; rfl) rfl rfl

/-- A part reset leaves the carrier at rest with no move in hand (R210). -/
theorem partReset_keepsSpeed (strap : Strap) (answers : Bool) (s : State) : s.KeepsSpeed (partReset strap answers s) := by
  have examined : ∀ u : State, s.KeepsSpeed u → s.KeepsSpeed (examineLine u) := by
    intro u loaded
    unfold examineLine
    split
    · exact loaded.trans (report_keepsSpeed _ _ _ u)
    · exact loaded
  exact examined _ (.of_emptied rfl rfl)

/-! ## Every command -/

/-- Every command keeps the sixth law, where a stream plays in STREAM alone. -/
theorem exec_keepsSpeed (c : Instr) {s : State} (hs : streamFlight s) : ∃ t, exec c s = .next t ∧ s.KeepsSpeed t := by
  have frame := keepsSpeed_plannerFrame
  cases steers : steersPlanner c with
  | false => exact frame.exec steers s
  | true =>
    cases c with
    | partReset strap answers => exact frame.done (partReset_keepsSpeed strap answers s)
    | arm =>
      refine frame.decodeCommand (frame.answer fun h => startArming_keepsSpeed ?_)
      exact parked_of_armChecks (s := s.afterDecode) h
    | park => exact frame.decodeCommand (frame.answer fun h => startParking_keepsSpeed (hold_of_parkChecks h))
    | hold seat => exact frame.decodeCommand (frame.answer fun _ => holdEffect_keepsSpeed seat _)
    | resume seat | step seat => exact frame.decodeCommand (resumeWith_keepsSpeed _ _ seat _)
    | takeStick => exact frame.decodeCommand (frame.answer fun _ => takeStick_keepsSpeed _)
    | dropStick => exact frame.decodeCommand (frame.answer fun h => dropStick_keepsSpeed (stick_of_dropChecks h))
    | clearFaults seat => exact frame.decodeCommand (clearFaultsRecord_keepsSpeed seat _)
    | flushMoves seat => exact frame.decodeCommand (frame.answer fun _ => flushMoves_keepsSpeed seat _)
    | appendMove seat p => exact frame.decodeCommand (appendMove_keepsSpeed seat p _)
    | streamStart => exact frame.decodeCommand (frame.answer fun _ => onPln_keepsSpeed rfl rfl rfl)
    | streamData seat p => exact frame.done (frame.decodeRecord (streamRecord_keepsSpeed seat p _))
    | streamEnd => exact frame.decodeCommand (frame.answer fun _ => streamEnd_keepsSpeed hs)
    | zonePut seat p => exact frame.decodeCommand (zonePut_keepsSpeed seat p _)
    | zoneSet seat p => exact frame.decodeCommand (zoneSet_keepsSpeed seat p _)
    | zoneRemove seat p => exact frame.decodeCommand (zoneRemove_keepsSpeed seat p _)
    | setAnchor seat p => exact frame.decodeCommand (setAnchor_keepsSpeed seat p _)
    | setWorkspace seat p => exact frame.decodeCommand (setWorkspace_keepsSpeed seat p _)
    | setLimits seat p => exact frame.decodeCommand (frame.answer fun h => limits_keepsSpeed h)
    | servoEvent =>
      refine frame.done ?_
      split
      · exact .refl s
      · exact (frame.advanceTo _ s).trans (frame.raiseServo planSample_keepsSpeed frame.completePull _ _)
    | referenceEdge t => exact frame.done ((frame.advanceTo t s).trans (frame.referenceEdge planSample_keepsSpeed _))
    | windowClose =>
      refine frame.done ?_
      split
      · exact frame.atInstant
          (fun u => (frame.onFru _ u).trans (frame.raiseServo planSample_keepsSpeed frame.closeMiss 0 _)) _ s
      · exact .refl s
    | driveAnswer w bytes => exact frame.done (frame.driveAnswer watchChannels_keepsSpeed w bytes s)
    | releaseTimeout w => exact frame.done (frame.stateExpiry (releaseTimeout_keepsSpeed w) w _ s)
    | _ => cases steers

/-- Settles O59: the ceiling, the approach, the soft walls, the profile and the clamp keep a sample's speeds within vmax, every
take-over limits its axis speeds, and everything else stops the carrier or leaves its motion as it stands. -/
theorem speedLawKept : Obligations.SpeedLawKept := by
  intro s t hs law hstep
  unfold step at hstep
  split at hstep
  · cases hstep
    exact law
  · next c rest hpending =>
    obtain ⟨u, hu, kept⟩ := exec_keepsSpeed c (s := { s with pending := rest }) hs
    rw [hu] at hstep
    cases hstep
    exact kept law

end Sys2Proof.Machine
end

section
/-! Stick flying (05): what TAKE_STICK takes over from each flight state (R96 to R98), the STICK record (R93), DROP_STICK (R102)
and the stick timer's expiry (R101). -/

namespace Sys2Proof.Machine

open Sys2Proof

/-! ## TAKE_STICK -/

/-- The stick takes the carrier, whole (R96). -/
theorem enterStick_eq (s : State) :
    enterStick s =
      { s with
        fcu := { s.fcu with flight := .stick }
        pln :=
          { s.pln with
            stick := { s.pln.stick with q := Vec3.zero, timer := some (1000 * s.env.limits.stickTimeout) } } } := rfl

/-- A path speed decomposed, axis by axis (R89). -/
theorem decompose_eq (vmax : Nat) (m : MoveInHand) :
    decompose vmax m = Vec3.ofAxes fun axis =>
      max (-(1000 * (vmax : Int))) (min (1000 * (vmax : Int))
        (roundInt (m.speed * ((toMicrons m.move.target).get axis - m.start.get axis)) m.dist)) := by
  have bound : ((1000 * vmax : Nat) : Int) = 1000 * (vmax : Int) := by push_cast; rfl
  rw [← bound]
  rfl

section
variable {s : State} {m : MoveInHand}

/-- A move in MOVING is suspended and hands its speed over (R89, R97). -/
theorem handOverMove_moving (hm : s.pln.inHand = some m) (moving : m.phase = .moving) :
    handOverMove s =
      { s with
        pln :=
          { s.pln with
            inHand := some { m with phase := .suspended, speed := 0, stepFlag := false }
            vel := decompose s.env.limits.vmax m } } := by
  simp only [handOverMove, hm, moving]
  rfl

/-- A dwell ends: the hand is emptied and the carrier at rest (R97). -/
theorem handOverMove_dwelling (hm : s.pln.inHand = some m) (dwelling : m.phase = .dwelling) :
    handOverMove s = { s with pln := { s.pln with inHand := none, vel := Vec3.zero } } := by
  simp only [handOverMove, hm, dwelling]
  rfl

/-- From HOLD the stick starts at rest, a PRIMED stream cancelled (R97). -/
theorem takeStick_hold (h : s.fcu.flight = .hold) :
    takeStick s = enterStick { s with pln := { s.pln with vel := Vec3.zero, stream := s.pln.stream.unprimed } } := by
  simp only [takeStick, h, cancelPrimed_eq]
  rfl

theorem takeStick_track (h : s.fcu.flight = .track) : takeStick s = enterStick (handOverMove s) := by
  simp only [takeStick, h]

/-- From STREAM the stick keeps the follower's velocities, the stream cancelled (R98, R124). -/
theorem takeStick_stream (h : s.fcu.flight = .stream) :
    takeStick s = enterStick { s with pln := { s.pln with stream := s.pln.stream.emptied } } := by
  simp only [takeStick, h]
  rfl

/-- In STICK a TAKE_STICK changes nothing (R96). -/
theorem takeStick_stick (h : s.fcu.flight = .stick) : takeStick s = s := by
  simp only [takeStick, h]

variable {seat : Seat} {d0 d1 : Byte} (ht : s.takesRecord ⟨seat, 0x0E, [d0, d1]⟩)
include ht

/-- TAKE_STICK refused by the flight state (R96). -/
theorem done_takeStick_refused (h : takesStick s.fcu.flight = false) :
    exec (.takeStick seat d0 d1) s = .next (s.refused seat .wrongState 0) :=
  done_decode_refused ht (answer_refused (by simp [h]) _ _ _ _)

/-- TAKE_STICK taken: its effect by flight state after its ACK, with no notice handed over (R96). -/
theorem done_takeStick (h : takesStick s.fcu.flight = true) {t : State} (effect : takeStick (s.acked seat 0x0E 0) = t)
    (silent : t.link.handed = s.link.handed) : exec (.takeStick seat d0 d1) s = .next t :=
  done_decode_taken ht ((answer_taken (by simp [h]) _ _ _ _).trans effect) silent

end

/-- Settles O25: TAKE_STICK's one check, and what the stick takes over in each flight state. -/
theorem takeStickByState : Obligations.TakeStickByState := by
  intro s seat d0 d1 ht a stick bound gives
  refine ⟨fun h => done_takeStick_refused ht ?refuses, fun h => ?stick, fun h => ?hold, fun m h hm moving => ?moving,
    fun m h hm dwelling => ?dwelling, fun h => ?stream⟩
  case refuses => rcases h with h | h | h | h | h <;> rw [h] <;> rfl
  all_goals have taken : takesStick s.fcu.flight = true := by rw [h]; rfl
  case stick => exact done_takeStick ht taken (takeStick_stick (s := a) h) rfl
  case hold => exact done_takeStick ht taken ((takeStick_hold (s := a) h).trans (enterStick_eq _)) rfl
  case moving =>
    have effect := (takeStick_track (s := a) h).trans (congrArg enterStick (handOverMove_moving (s := a) hm moving))
    rw [decompose_eq] at effect
    exact done_takeStick ht taken (effect.trans (enterStick_eq _)) rfl
  case dwelling =>
    have effect := (takeStick_track (s := a) h).trans (congrArg enterStick (handOverMove_dwelling (s := a) hm dwelling))
    exact done_takeStick ht taken (effect.trans (enterStick_eq _)) rfl
  case stream => exact done_takeStick ht taken ((takeStick_stream (s := a) h).trans (enterStick_eq _)) rfl

/-! ## STICK records -/

section
variable {s : State} {seat : Seat} {p : List Byte}

/-- A STICK record is decoded without a reply or a notice (R93, R202). -/
theorem done_stickRecord (hd : s.decodesNow ⟨seat, 0x20, p⟩) {t : State} (effect : stickRecord seat p s.afterDecode = t)
    (silent : t.link.handed = s.link.handed) : exec (.stick seat p) s = .next t := by
  have decoded : decodeRecord ⟨seat, 0x20, p⟩ (stickRecord seat p) s = t := (decodeRecord_now hd _).trans effect
  obtain ⟨_, _, _, unhanded⟩ := hd
  exact (congrArg done decoded).trans (done_of_none (silent.trans unhanded))

/-- A STICK record taken: its deflections limited, the stick timer restarted (R93, R95). -/
theorem stickRecord_taken (h : seat = .pilot ∧ p.length = 6 ∧ s.fcu.flight = .stick) :
    stickRecord seat p s =
      { s with
        pln :=
          { s.pln with
            stick :=
              { s.pln.stick with
                q := clampDeflection (vecAt p 0 2), timer := some (1000 * s.env.limits.stickTimeout) } } } :=
  if_pos h

/-- Any other STICK record is discarded and counted, the count saturating (R93). -/
theorem stickRecord_discarded (h : ¬ (seat = .pilot ∧ p.length = 6 ∧ s.fcu.flight = .stick)) :
    stickRecord seat p s =
      { s with
        pln :=
          { s.pln with
            stick :=
              { s.pln.stick with
                discards := if s.pln.stick.discards < 65535 then s.pln.stick.discards + 1 else 65535 } } } :=
  if_neg h

/-- The STICK command whose record PLN takes, whole. -/
theorem exec_stick_taken (hd : s.decodesNow ⟨seat, 0x20, p⟩)
    (h : seat = .pilot ∧ p.length = 6 ∧ s.fcu.flight = .stick) :
    exec (.stick seat p) s =
      .next { s.afterDecode with
        pln :=
          { s.pln with
            stick :=
              { s.pln.stick with
                q := clampDeflection (vecAt p 0 2), timer := some (1000 * s.env.limits.stickTimeout) } } } :=
  done_stickRecord hd (stickRecord_taken (s := s.afterDecode) h) rfl

/-! ## DROP_STICK -/

/-- DROP_STICK taken, whole: an axis stop with the stick at rest (R59, R102). -/
theorem dropStick_eq (s : State) :
    dropStick s =
      { s with
        fcu := { s.fcu with flight := .stopping, cause := .stickDropped }
        pln :=
          { s.pln with
            stick := { s.pln.stick with q := Vec3.zero, timer := none }
            stop := some ⟨.axis, roundNat (s.env.limits.astick * s.fru.timing.ts) 1000⟩ } } := by
  rw [dropStick, startStop_eq, stickRest_eq]
  rfl

/-! ## The stick timer -/

/-- In STICK the timer's expiry is that of the time it has left (R101). -/
theorem exec_stickTimerExpiry_stick (h : s.fcu.flight = .stick) :
    exec .stickTimerExpiry s = done (atExpiry s.pln.stick.timer stickTimeout s) :=
  congrArg done (if_pos h)

/-- Outside STICK there is no such event (log 2). -/
theorem exec_stickTimerExpiry_elsewhere (h : s.fcu.flight ≠ .stick) : exec .stickTimerExpiry s = done s :=
  congrArg done (if_neg h)

/-- The expiry at its instant: the stick at rest and one occurrence of STICK_TIMEOUT (R101). -/
theorem exec_stickTimerExpiry_due {left : Nat} (h : s.fcu.flight = .stick) (running : s.pln.stick.timer = some left)
    (due : s.fru.now + left ≤ s.fru.horizon) :
    exec .stickTimerExpiry s =
      .next (deliver (report .stickTimeout 0 none
        { advanceTo (s.fru.now + left) s with
          pln := { s.pln with stick := { s.pln.stick with q := Vec3.zero, timer := none } } })) := by
  rw [exec_stickTimerExpiry_stick h, running, atExpiry_running, atInstant_due due, stickTimeout, stickRest_eq]
  rfl

/-- Outside STICK, with the timer stopped, or with its instant beyond FRU's next event, the command changes nothing
(log 2, log 3). -/
theorem exec_stickTimerExpiry_none
    (h : s.fcu.flight ≠ .stick ∨ ∀ left, s.pln.stick.timer = some left → s.fru.horizon < s.fru.now + left)
    (silent : s.link.handed = []) : exec .stickTimerExpiry s = .next s := by
  rw [← done_of_none silent]
  by_cases flight : s.fcu.flight = .stick
  · have beyond := h.resolve_left (not_not.mpr flight)
    rw [exec_stickTimerExpiry_stick flight]
    cases running : s.pln.stick.timer with
    | none => rw [atExpiry_stopped]
    | some left => rw [atExpiry_running, atInstant_beyond (beyond left running)]
  · exact exec_stickTimerExpiry_elsewhere flight

/-- A record taken in STICK puts the expiry off: until its full timeout can have passed there is none (R101; log 3). -/
theorem exec_stickTimerExpiry_after_stick {t : State} (hd : s.decodesNow ⟨seat, 0x20, p⟩)
    (h : seat = .pilot ∧ p.length = 6 ∧ s.fcu.flight = .stick)
    (beyond : s.fru.horizon < s.fru.now + 1000 * s.env.limits.stickTimeout) (next : exec (.stick seat p) s = .next t) :
    exec .stickTimerExpiry t = .next t := by
  rw [exec_stick_taken hd h] at next
  cases next
  obtain ⟨_, _, _, silent⟩ := hd
  refine exec_stickTimerExpiry_none (Or.inr fun left restarted => ?_) silent
  cases restarted
  exact beyond

end

/-- Settles O26: the record's one condition, DROP_STICK's one check, and the expiry by the instant at which it comes. -/
theorem stickInputRules : Obligations.StickInputRules := by
  refine ⟨fun s seat p hd => ⟨exec_stick_taken hd, fun h => ?discarded⟩,
    fun s seat d0 d1 ht => ⟨fun h => ?refused, fun h => ?dropped⟩,
    fun s => ⟨fun left => exec_stickTimerExpiry_due, exec_stickTimerExpiry_none,
      fun seat p t hd flight pilot length => exec_stickTimerExpiry_after_stick hd ⟨pilot, length, flight⟩⟩⟩
  case discarded => exact done_stickRecord hd (stickRecord_discarded (s := s.afterDecode) h) rfl
  case refused => exact done_decode_refused ht (answer_refused (by simp [h]) _ _ _ _)
  case dropped =>
    exact done_decode_taken ht ((answer_taken (by simp [h]) _ _ _ _).trans (dropStick_eq (s.acked seat 0x0F 0))) rfl

end Sys2Proof.Machine
end

section
/-! The stream buffer (R105, R111, R117): the positions of an append with their indices, and the fourth law as a property of the
stream record, which an append and a play keep. -/

namespace Sys2Proof.Machine

open Sys2Proof

/-! ## Indices -/

/-- The positions of an append take consecutive indices from E (R111). -/
theorem indexed_eq (e : BitVec 16) (positions : List Vec3) :
    indexed e positions =
      (List.range positions.length).map fun i => ⟨e + BitVec.ofNat 16 i, positions.getD i Vec3.zero⟩ := by
  refine List.ext_getElem (by simp [indexed]) fun i hi _ => ?_
  have within : i < positions.length := by simpa [indexed] using hi
  simp [indexed, within]

theorem indexed_length (e : BitVec 16) (positions : List Vec3) : (indexed e positions).length = positions.length := by
  simp [indexed]

/-! ## The fourth law -/

/-- The fourth law of a stream record: at most 64 samples, in consecutive index order up to E (R105). -/
def Stream.Consecutive (st : Stream) : Prop :=
  st.samples.length ≤ streamCapacity ∧
    st.samples.map Sample.index = (List.range st.samples.length).map (sampleIndex st)

theorem streamLaw_iff (s : State) : streamLaw s ↔ s.pln.stream.Consecutive := Iff.rfl

/-- A stream plays or plays out (R116, R121). -/
def Stream.Plays (st : Stream) : Prop := st.state = .playing ∨ st.state = .ending

theorem streamFlight_iff (s : State) : streamFlight s ↔ (s.pln.stream.Plays → s.fcu.flight = .stream) := Iff.rfl

theorem Stream.not_plays_of_idle {st : Stream} (h : st.state = .idle) : ¬ st.Plays := by
  rintro (playing | ending)
  · rw [h] at playing
    cases playing
  · rw [h] at ending
    cases ending

namespace Stream.Consecutive

variable {st st' : Stream}

/-- The law is blind to all but the samples and E. -/
theorem congr (h : st.Consecutive) (samples : st'.samples = st.samples) (expected : st'.expected = st.expected) :
    st'.Consecutive := by
  unfold Stream.Consecutive sampleIndex
  rw [samples, expected]
  exact h

/-- An empty buffer meets the law, whatever E. -/
theorem of_empty (samples : st.samples = []) : st.Consecutive := by
  unfold Stream.Consecutive
  rw [samples]
  exact ⟨Nat.zero_le _, rfl⟩

/-- Without its head sample the buffer is consecutive up to the same E (R117). -/
theorem popped (h : st.Consecutive) {head : Sample} {rest : List Sample} (buffer : st.samples = head :: rest)
    (samples : st'.samples = rest) (expected : st'.expected = st.expected) : st'.Consecutive := by
  obtain ⟨room, order⟩ := h
  rw [buffer] at room order
  rw [List.length_cons, List.map_cons, List.range_succ_eq_map, List.map_cons, List.map_map] at order
  have later : ∀ i, sampleIndex st (i + 1) = sampleIndex st' i := by
    intro i
    simp only [sampleIndex, buffer, samples, expected, List.length_cons, BitVec.ofNat_add]
    abel
  unfold Stream.Consecutive
  rw [samples]
  refine ⟨(Nat.le_succ _).trans room, (List.cons.inj order).2.trans ?_⟩
  exact List.map_congr_left fun i _ => later i

/-- Positions that join with their indices from E go on the order, up to the E past them (R111). -/
theorem appended (h : st.Consecutive) {fits : List Vec3} (room : st.samples.length + fits.length ≤ streamCapacity)
    (samples : st'.samples = st.samples ++ indexed st.expected fits)
    (expected : st'.expected = st.expected + BitVec.ofNat 16 fits.length) : st'.Consecutive := by
  obtain ⟨-, order⟩ := h
  have length : st'.samples.length = st.samples.length + fits.length := by
    rw [samples, List.length_append, indexed_length]
  have old : ∀ i, sampleIndex st i = sampleIndex st' i := by
    intro i
    simp only [sampleIndex, length, expected, BitVec.ofNat_add]
    abel
  have new : ∀ i, st.expected + BitVec.ofNat 16 i = sampleIndex st' (st.samples.length + i) := by
    intro i
    simp only [sampleIndex, length, expected, BitVec.ofNat_add]
    abel
  refine ⟨length ▸ room, ?_⟩
  rw [length, List.range_add, List.map_append, List.map_map, samples, List.map_append, order, indexed_eq, List.map_map]
  exact congrArg₂ _ (List.map_congr_left fun i _ => old i) (List.map_congr_left fun i _ => new i)

/-- An append joins what fits into 64 samples (R111). -/
theorem append (h : st.Consecutive) (positions : List Vec3) : (st.append positions).Consecutive := by
  have taken := List.length_take_le (streamCapacity - st.samples.length) positions
  obtain ⟨held, -⟩ := id h
  exact h.appended (fits := positions.take (streamCapacity - st.samples.length)) (by omega) rfl rfl

end Stream.Consecutive

end Sys2Proof.Machine
end

section
/-! STREAM_START, STREAM_DATA and STREAM_END (R109 to R114, R121, R122): a record's data taken by its first index, the append, the
bands, and what a start or an end makes of the stream. -/

namespace Sys2Proof.Machine

open Sys2Proof

/-! ## The bands -/

/-- The evaluation of the bands outside IDLE: the flags as the occupancy gives them, and the notices of entries (R114). -/
theorem evaluateBands_eq {s : State} (h : s.pln.stream.state ≠ .idle) :
    let st := s.pln.stream
    let sends : Bool := st.state = .primed ∨ st.state = .playing
    evaluateBands s =
      bandNotice .streamHigh sends st.inHigh (bandHigh st.samples.length) st.samples.length
        (bandNotice .streamCritical sends st.inCritical (bandCritical st.samples.length) st.samples.length
          (bandNotice .streamLow sends st.inLow (bandLow s.env.limits st.samples.length) st.samples.length
            { s with pln := { s.pln with stream := st.banded s.env.limits } })) := if_neg h

/-- A band's entry is sent in every state but ENDING (R114). -/
theorem bandNotice_eq {st : Stream} (h : st.state ≠ .idle) (code : NoticeCode) (was now : Bool) (n : Nat) (s : State) :
    bandNotice code (st.state = .primed ∨ st.state = .playing) was now n s =
      if st.state ≠ .ending ∧ was = false ∧ now = true then notice code n s else s := by
  unfold bandNotice
  cases hs : st.state with
  | idle => exact absurd hs h
  | ending => rfl
  | primed | playing => cases was <;> cases now <;> rfl

/-! ## STREAM_DATA -/

/-- An in-order record, whole but for the overflow's flag and the bands (R111). -/
theorem appendInOrder_eq (positions : List Vec3) (s : State) :
    let u : State := { s with pln := { s.pln with stream := s.pln.stream.append positions } }
    appendInOrder positions s =
      evaluateBands (if 64 < s.pln.stream.samples.length + positions.length then report .streamOverflow 0 none u else u) := rfl

theorem Stream.append_eq (positions : List Vec3) (st : Stream) :
    let fits := positions.take (64 - st.samples.length)
    st.append positions =
      { st with
        samples := st.samples ++
          (List.range fits.length).map fun i => ⟨st.expected + BitVec.ofNat 16 i, fits.getD i Vec3.zero⟩
        expected := st.expected + BitVec.ofNat 16 fits.length
        gapReported := st.gapReported && fits.isEmpty } := by
  intro fits
  rw [← indexed_eq]
  rfl

/-- The eight payload lengths (R110). -/
theorem sampleCount_eq_some {p : List Byte} {k : Nat} :
    sampleCount p = some k ↔ 1 ≤ k ∧ k ≤ 8 ∧ p.length = 2 + 12 * k := by
  simp only [sampleCount, Option.ite_none_right_eq_some, Option.some.injEq]
  constructor
  · rintro ⟨⟨length, low, high⟩, rfl⟩
    exact ⟨low, high, length⟩
  · rintro ⟨low, high, length⟩
    have count : (p.length - 2) / 12 = k := by omega
    exact ⟨by rw [count]; exact ⟨length, low, high⟩, count⟩

theorem samplesOf_length (p : List Byte) (k : Nat) : (samplesOf p k).length = k := by simp [samplesOf]

theorem accepts_iff (state : StreamState) : state.accepts = true ↔ state = .primed ∨ state = .playing := by
  cases state <;> simp [StreamState.accepts]

section
variable {s : State} {seat : Seat} {p : List Byte}

/-- PLN takes a STREAM_DATA record of k samples: its length, its seat, its positions and the stream state (R110). -/
structure StreamState.TakesSamples (state : StreamState) (seat : Seat) (p : List Byte) (k : Nat) : Prop where
  count : 1 ≤ k ∧ k ≤ 8 ∧ p.length = 2 + 12 * k
  director : seat = .director
  legal : (samplesOf p k).all legalPosition = true
  accepts : state = .primed ∨ state = .playing

theorem streamRecord_taken {k : Nat} (h : s.pln.stream.state.TakesSamples seat p k) :
    streamRecord seat p s = takeSamples (BitVec.ofNat 16 (unsignedAt p 0 2)) (samplesOf p k) s := by
  simp only [streamRecord, sampleCount_eq_some.mpr h.count]
  exact if_pos ⟨h.director, h.legal, (accepts_iff _).mpr h.accepts⟩

/-- Any other record is discarded and counted (R110). -/
theorem streamRecord_discarded (h : ∀ k, ¬ s.pln.stream.state.TakesSamples seat p k) :
    streamRecord seat p s = discardStreamData s := by
  unfold streamRecord
  split
  · rfl
  · next k count =>
    refine if_neg ?_
    rintro ⟨director, legal, accepts⟩
    exact h k ⟨sampleCount_eq_some.mp count, director, legal, (accepts_iff _).mp accepts⟩

/-- A STREAM_DATA record is decoded without a reply (R110, R202). -/
theorem exec_streamData (hd : s.decodesNow ⟨seat, 0x23, p⟩) :
    exec (.streamData seat p) s = .next (deliver (streamRecord seat p s.afterDecode)) :=
  congrArg done (decodeRecord_now hd _)

theorem exec_streamData_discarded (hd : s.decodesNow ⟨seat, 0x23, p⟩) (h : ∀ k, ¬ s.pln.stream.state.TakesSamples seat p k) :
    exec (.streamData seat p) s =
      .next { s.afterDecode with
        pln := { s.pln with stream := { s.pln.stream with
          discards := if s.pln.stream.discards < 65535 then s.pln.stream.discards + 1 else 65535 } } } := by
  obtain ⟨_, _, _, silent⟩ := id hd
  rw [exec_streamData hd, streamRecord_discarded (s := s.afterDecode) h]
  exact congrArg _ (deliver_of_none silent)

theorem exec_streamData_taken {k : Nat} (hd : s.decodesNow ⟨seat, 0x23, p⟩) (h : s.pln.stream.state.TakesSamples seat p k) :
    exec (.streamData seat p) s =
      .next (deliver (takeSamples (BitVec.ofNat 16 (unsignedAt p 0 2)) (samplesOf p k) s.afterDecode)) := by
  rw [exec_streamData hd, streamRecord_taken (s := s.afterDecode) h]

end

/-- An index that lies 0 behind E lies 0 ahead of it. -/
theorem ahead_eq_zero {j e : BitVec 16} (h : (e - j).toNat = 0) : (j - e).toNat = 0 := by
  rw [BitVec.toNat_sub] at h ⊢
  omega

/-- An index behind E is ahead of it by the rest of the circle of 65,536. -/
theorem ahead_eq_of_behind {j e : BitVec 16} (h : 0 < (e - j).toNat) : (j - e).toNat = 65536 - (e - j).toNat := by
  rw [BitVec.toNat_sub] at h ⊢
  rw [BitVec.toNat_sub]
  omega

section
variable {j : BitVec 16} {back : Nat} {s : State} (hb : (s.pln.stream.expected - j).toNat = back) (positions : List Vec3)
include hb

/-- In order: the whole record joins (R111). -/
theorem takeSamples_inOrder (h : back = 0) : takeSamples j positions s = appendInOrder positions s := by
  unfold takeSamples
  rw [ahead_eq_zero (hb.trans h)]
  rfl

/-- Behind: what lies before E is dropped, and the rest joins if there is any (R112). -/
theorem takeSamples_behind (h : 0 < back) (half : back ≤ 32768) :
    takeSamples j positions s =
      if positions.length ≤ back then s else appendInOrder (positions.drop back) s := by
  have δ := ahead_eq_of_behind (hb ▸ h)
  rw [hb] at δ
  unfold takeSamples
  rw [δ]
  dsimp only
  rw [if_neg (by omega), if_pos (by omega), Nat.sub_sub_self (by omega)]

/-- Ahead: the record is discarded and the gap counted (R113). -/
theorem takeSamples_ahead (h : 32768 < back) : takeSamples j positions s = streamAhead s := by
  have small : back < 65536 := hb ▸ (s.pln.stream.expected - j).isLt
  have δ := ahead_eq_of_behind (j := j) (e := s.pln.stream.expected) (by omega)
  rw [hb] at δ
  unfold takeSamples
  rw [δ]
  dsimp only
  rw [if_neg (by omega), if_neg (by omega)]

end

/-- A record ahead, whole: the gap counted, and STREAM_GAP unless it is reported already (R113). -/
theorem deliver_streamAhead {s : State} (silent : s.link.handed = []) :
    let st := s.pln.stream
    let u : State := { s with
      pln := { s.pln with stream :=
        { st with gaps := if st.gaps < 65535 then st.gaps + 1 else 65535, gapReported := true } } }
    deliver (streamAhead s) = if st.gapReported then u else deliver (notice .streamGap (st.expected.toNat % 256) u) := by
  intro st u
  have ahead : streamAhead s = if st.gapReported then u else notice .streamGap (st.expected.toNat % 256) u := rfl
  rw [ahead, apply_ite deliver, deliver_of_none (s := u) silent]

/-- Settles O28: a record by what makes PLN take it and then by its first index, the append as far as it fits, and the three
bands. -/
theorem streamDataByIndex : Obligations.StreamDataByIndex := by
  refine ⟨?data, fun positions s => ?append, fun s => ?bands⟩
  case data =>
    intro s seat p hd a st discarded
    have discards : (∀ k, ¬ s.pln.stream.state.TakesSamples seat p k) → discarded := exec_streamData_discarded hd
    refine ⟨fun other => discards fun k taken => other taken.director, fun closed => discards fun k taken => ?closed,
      fun length => discards fun k taken => ?length, fun k low high length =>
        ⟨fun illegal => discards fun k' taken => ?illegal, fun director accepts legal => ?taken⟩⟩
    case closed =>
      have accepts : st.state = .primed ∨ st.state = .playing := taken.accepts
      rcases closed with closed | closed <;> simp [closed] at accepts
    case length =>
      obtain ⟨low, high, counted⟩ := taken.count
      exact length k low high counted
    case illegal =>
      obtain ⟨-, -, counted⟩ := taken.count
      obtain rfl : k' = k := by omega
      exact absurd taken.legal (by rw [illegal]; nofun)
    case taken =>
      intro back
      obtain ⟨-, -, -, silent⟩ := id hd
      rw [exec_streamData_taken hd ⟨⟨low, high, length⟩, director, legal, accepts⟩]
      refine ⟨fun same => ?inOrder, fun behind part => ?joins, fun whole half => ?duplicate, fun ahead => ?ahead⟩
      case inOrder => rw [takeSamples_inOrder (s := a) rfl _ same]
      case joins =>
        rw [takeSamples_behind (s := a) (back := back) rfl _ behind (by omega), samplesOf_length, if_neg (not_le.mpr part)]
      case duplicate =>
        rw [takeSamples_behind (s := a) (back := back) rfl _ (low.trans whole) half, samplesOf_length, if_pos whole,
          deliver_of_none (s := a) silent]
      case ahead =>
        rw [takeSamples_ahead (s := a) rfl _ ahead, deliver_streamAhead (s := a) silent]
        rfl
  case append =>
    dsimp only
    rw [appendInOrder_eq, Stream.append_eq]
  case bands =>
    refine ⟨fun idle => if_pos idle, fun running => ?_⟩
    rw [evaluateBands_eq running]
    dsimp only
    rw [bandNotice_eq running, bandNotice_eq running, bandNotice_eq running]
    rfl

/-! ## STREAM_START -/

section
variable {s : State} {seat : Seat} {p : List Byte} (ht : s.takesRecord ⟨seat, 0x22, p⟩)
include ht

theorem exec_streamStart_refused {code : ErrorCode}
    (h : firstError (streamStartChecks (unsignedAt p 0 4) s) = some (code, 0)) :
    exec (.streamStart seat p) s = .next (s.refused seat code 0) :=
  done_decode_refused ht (answer_refused h _ _ _ _)

/-- STREAM_START primes the stream (R109). -/
theorem exec_streamStart_taken (h : firstError (streamStartChecks (unsignedAt p 0 4) s) = none) :
    exec (.streamStart seat p) s =
      .next { s.acked seat 0x22 0 with
        pln := { s.pln with
          stream := s.pln.stream.primed (unsignedAt p 0 4) (BitVec.ofNat 16 (unsignedAt p 4 2)) } } :=
  done_decode_taken ht (answer_taken h _ _ _ _) rfl

end

/-! ## STREAM_END -/

section
variable {s : State}

theorem streamEnd_primed (h : s.pln.stream.state = .primed) :
    streamEnd s = { s with pln := { s.pln with stream := s.pln.stream.emptied } } := by
  simp only [streamEnd, h]
  rfl

/-- A PLAYING stream with samples left plays out (R121). -/
theorem streamEnd_playing (h : s.pln.stream.state = .playing) (hs : s.pln.stream.samples ≠ []) :
    streamEnd s = { s with pln := { s.pln with stream := { s.pln.stream with state := .ending } } } := by
  simp only [streamEnd, h, if_neg hs]
  rfl

/-- A PLAYING stream without samples ends at once (R121, R122). -/
theorem streamEnd_empty (h : s.pln.stream.state = .playing) (hs : s.pln.stream.samples = []) :
    streamEnd s =
      { s with
        fcu := { s.fcu with flight := .stopping, cause := .streamEnded }
        pln :=
          { s.pln with
            stream := { s.pln.stream with state := .idle }
            stop := some ⟨.axis, roundNat (s.env.limits.astream * s.fru.timing.ts) 1000⟩ } } := by
  simp only [streamEnd, h, if_pos hs]
  rfl

variable {seat : Seat} {d0 d1 : Byte} (ht : s.takesRecord ⟨seat, 0x15, [d0, d1]⟩)
include ht

theorem exec_streamEnd_refused (h : s.pln.stream.state.accepts = false) :
    exec (.streamEnd seat d0 d1) s = .next (s.refused seat .wrongState 0) :=
  done_decode_refused ht (answer_refused (by simp [h]) _ _ _ _)

/-- STREAM_END taken: its effect by stream state after its ACK, with no notice handed over (R121). -/
theorem exec_streamEnd_taken (h : s.pln.stream.state.accepts = true) {t : State}
    (effect : streamEnd (s.acked seat 0x15 0) = t) (silent : t.link.handed = s.link.handed) :
    exec (.streamEnd seat d0 d1) s = .next t :=
  done_decode_taken ht ((answer_taken (by simp [h]) _ _ _ _).trans effect) silent

end

/-- Settles O27: STREAM_START by its two checks in order, STREAM_END by stream state. -/
theorem streamStartAndEnd : Obligations.StreamStartAndEnd := by
  refine ⟨?start, ?finish⟩
  case start =>
    intro s seat p ht f0 ready
    refine ⟨fun h => exec_streamStart_refused ht ?_, fun h late => exec_streamStart_refused ht ?_,
      fun h early => exec_streamStart_taken ht ?_⟩
    · have fails : s.fcu.flight ≠ .hold ∨ s.pln.stream.state ≠ .idle := not_and_or.mp h
      simp [streamStartChecks, fails]
    · obtain ⟨hold, idle⟩ := h
      simp [streamStartChecks, hold, idle, show unsignedAt p 0 4 ≤ _ from late]
    · obtain ⟨hold, idle⟩ := h
      simp [streamStartChecks, hold, idle, show s.fru.frames < unsignedAt p 0 4 from early]
  case finish =>
    intro s seat d0 d1 ht a
    refine ⟨fun h => exec_streamEnd_refused ht (by rcases h with h | h <;> rw [h] <;> rfl), fun h => ?cancels,
      fun h hs => ?playsOut, fun h hs => ?ends⟩
    all_goals have accepts : s.pln.stream.state.accepts = true := by rw [h]; rfl
    case cancels => exact exec_streamEnd_taken ht accepts (streamEnd_primed (s := a) h) rfl
    case playsOut => exact exec_streamEnd_taken ht accepts (streamEnd_playing (s := a) h hs) rfl
    case ends => exact exec_streamEnd_taken ht accepts (streamEnd_empty (s := a) h hs) rfl

end Sys2Proof.Machine
end

section
/-! The fourth law (R105, R116, R122, R124): what the planner's operations and its sample keep of the buffer's order, and that a
stream plays in STREAM alone. -/

namespace Sys2Proof.Machine

open Sys2Proof

/-! ## The relation -/

/-- A state reached with the fourth law kept, and with streams playing in STREAM alone. -/
structure State.KeepsStream (s t : State) : Prop where
  law : s.pln.stream.Consecutive → t.pln.stream.Consecutive
  flight : streamFlight s → streamFlight t

namespace State.KeepsStream

variable {s t u : State}

theorem trans (h : s.KeepsStream t) (k : t.KeepsStream u) : s.KeepsStream u := ⟨k.law ∘ h.law, k.flight ∘ h.flight⟩

/-- The samples and E stand, no stream begins to play, and STREAM is not left. -/
theorem of_buffer (samples : t.pln.stream.samples = s.pln.stream.samples)
    (expected : t.pln.stream.expected = s.pln.stream.expected) (plays : t.pln.stream.Plays → s.pln.stream.Plays)
    (flight : s.fcu.flight = .stream → t.fcu.flight = .stream) : s.KeepsStream t :=
  ⟨fun law => law.congr samples expected, fun inStream =>
    (streamFlight_iff t).mpr fun playing => flight ((streamFlight_iff s).mp inStream (plays playing))⟩

/-- The stream stands, and STREAM is not left. -/
theorem of_stream (stream : t.pln.stream = s.pln.stream) (flight : s.fcu.flight = .stream → t.fcu.flight = .stream) :
    s.KeepsStream t := of_buffer (by rw [stream]) (by rw [stream]) (by rw [stream]; exact id) flight

/-- The stream stands where the flight state is not STREAM, so none plays. -/
theorem of_elsewhere (elsewhere : s.fcu.flight ≠ .stream) (stream : t.pln.stream = s.pln.stream) : s.KeepsStream t :=
  of_stream stream fun h => absurd h elsewhere

/-- The buffer is emptied and the stream does not play. -/
theorem of_emptied (samples : t.pln.stream.samples = []) (still : ¬ t.pln.stream.Plays) : s.KeepsStream t :=
  ⟨fun _ => .of_empty samples, fun _ playing => absurd playing still⟩

/-- The samples and E stand, and the stream plays no longer. -/
theorem of_ended (samples : t.pln.stream.samples = s.pln.stream.samples)
    (expected : t.pln.stream.expected = s.pln.stream.expected) (idle : t.pln.stream.state = .idle) : s.KeepsStream t :=
  ⟨fun law => law.congr samples expected, fun _ playing => absurd playing (Stream.not_plays_of_idle idle)⟩

end State.KeepsStream

/-- The relation is blind to all but the flight state and the stream, and a trip empties the buffer (R187). -/
theorem keepsStream_plannerFrame : PlannerFrame State.KeepsStream where
  frame flight _ pln := .of_stream (by rw [pln]) fun h => flight.trans h
  trans := .trans
  trips _ _ _ _ := .of_emptied rfl (Stream.not_plays_of_idle rfl)

theorem State.KeepsStream.refl (s : State) : s.KeepsStream s := keepsStream_plannerFrame.refl s

theorem report_keepsStream (f : Flag) (channel : Nat) (seat : Option Seat) (s : State) :
    s.KeepsStream (report f channel seat s) := keepsStream_plannerFrame.report f channel seat s

theorem cancelStream_keepsStream (s : State) : s.KeepsStream (cancelStream s) :=
  .of_emptied rfl (Stream.not_plays_of_idle rfl)

theorem cancelPrimed_keepsStream (s : State) : s.KeepsStream (cancelPrimed s) := by
  unfold cancelPrimed
  split
  · exact cancelStream_keepsStream s
  · exact .refl s

/-- A stop that takes the place of a cancelled stream (R59, R119, R120). -/
theorem stopCancelled_keepsStream (rate : Nat) (cause : StopCause) (s : State) :
    s.KeepsStream (startStop .axis rate cause (cancelStream s)) := .of_emptied rfl (Stream.not_plays_of_idle rfl)

theorem endStream_keepsStream (s : State) : s.KeepsStream (endStream s) := .of_ended rfl rfl rfl

/-- The bands change their flags alone (R114). -/
theorem evaluateBands_keepsStream (s : State) : s.KeepsStream (evaluateBands s) := by
  obtain ⟨low, critical, high, handed, banded⟩ := evaluateBands_keeps s
  rw [banded]
  exact .of_buffer rfl rfl id id

/-! ## Moves leave the stream alone -/

theorem rejectPath_stream (s : State) : (rejectPath s).pln.stream = s.pln.stream := by
  rw [rejectPath_eq]
  rfl

theorem startMove_stream (m : Move) (step : Bool) (s : State) : (startMove m step s).pln.stream = s.pln.stream := by
  unfold startMove
  dsimp only
  split <;> rfl

theorem arriveWith_stream {onEnd : State → State} (h : ∀ u : State, (onEnd u).pln.stream = u.pln.stream) (m : MoveInHand)
    (s : State) : (arriveWith onEnd m s).pln.stream = s.pln.stream := by
  obtain ⟨handed, arrived⟩ := s.arrived_keeps m
  have ends : (onEnd (s.arrived m)).pln.stream = s.pln.stream := by rw [h, arrived]
  cases dwell : m.move.dwell with
  | none => rwa [arriveWith_ends _ _ (Or.inl dwell)]
  | some ms =>
    by_cases hms : ms = 0
    · subst hms
      rwa [arriveWith_ends _ _ (Or.inr dwell)]
    · rw [arriveWith_dwells _ _ dwell hms]

theorem beginWith_stream {onEnd : State → State} (h : ∀ u : State, (onEnd u).pln.stream = u.pln.stream) (m : Move)
    (step : Bool) (s : State) : (beginWith onEnd m step s).pln.stream = s.pln.stream := by
  cases passes : beginPasses m s with
  | false => rw [beginWith_of_fails onEnd step passes, rejectPath_stream]
  | true =>
    rw [beginWith_of_passes onEnd step passes]
    split
    · rw [arriveWith_stream h, startMove_stream]
    · exact startMove_stream m step s

theorem earlyEnd_stream {step : Bool} {s t : State} (h : earlyEnd step s = some t) : t.pln.stream = s.pln.stream := by
  unfold earlyEnd at h
  split at h
  · cases h; rfl
  · split at h
    · cases h; rfl
    · cases h

theorem moveEndFrom_stream (queue : List Move) :
    ∀ (step : Bool) (s : State), (moveEndFrom queue step s).pln.stream = s.pln.stream := by
  induction queue with
  | nil =>
    intro step s
    unfold moveEndFrom
    dsimp only
    split
    · next h => exact earlyEnd_stream (s := emptyHand s) h
    · rfl
  | cons head rest ih =>
    intro step s
    unfold moveEndFrom
    dsimp only
    split
    · next h => exact earlyEnd_stream (s := emptyHand s) h
    · split
      · rfl
      · rw [beginWith_stream (ih false)]
        rfl

theorem moveEnd_stream (step : Bool) (s : State) : (moveEnd step s).pln.stream = s.pln.stream := moveEndFrom_stream _ step s

/-- What a path sample concludes for its move leaves the stream alone (R79, R80, R84). -/
theorem concludePath_stream (kind : SampleKind) (m : MoveInHand) (s : State) :
    (concludePath kind m s).pln.stream = s.pln.stream := by
  unfold concludePath
  split
  · split
    · exact arriveWith_stream (moveEnd_stream _) m s
    · rfl
  · split
    · exact moveEnd_stream _ s
    · rfl
  · split
    · unfold stopRested
      split <;> rfl
    · split
      · unfold stopArrived
        dsimp only
        split <;> rfl
      · rfl
  · rfl

/-! ## What a sample concludes -/

/-- The kinds whose conclusion may end in HOLD: every path sample, and those of an axis stop. -/
def SampleKind.mayHold (kind : SampleKind) : Prop := kind.onPath = true ∨ kind = .axisStop

/-- The follower goes on, or its stream is cancelled or ended with the stop that takes its place (R116, R118, R119, R122). -/
theorem concludeFollow_keepsStream (played : Vec3) (first : Bool) (s : State) :
    s.KeepsStream (concludeFollow played first s) := by
  have rest : ∀ u : State, u.KeepsStream
      (if 1000 * u.env.limits.lagLimit < chebyshev played u.pln.pos then lagEnd u
        else if u.pln.stream.state = .ending ∧ u.pln.stream.samples = [] then endStream u else u) := by
    intro u
    split
    · exact (report_keepsStream .streamLag 0 none u).trans (stopCancelled_keepsStream _ _ _)
    · split
      · exact endStream_keepsStream u
      · exact .refl u
  unfold concludeFollow
  cases first
  · exact rest s
  · exact (keepsStream_plannerFrame.notice .streamPlaying 0 s).trans (rest _)

/-- What a sample concludes: a path sample or an axis stop may end in HOLD, and comes outside STREAM (R41, R61, R79 to R81, R84,
R116 to R122). -/
theorem conclude_keepsStream {kind : SampleKind} {s : State} (elsewhere : kind.mayHold → s.fcu.flight ≠ .stream)
    (struck : Bool) : s.KeepsStream (conclude kind struck s) := by
  have path : ∀ k, s.fcu.flight ≠ .stream → s.KeepsStream
      (if struck = true then strikeEnd s else s.pln.inHand.elim s fun m => concludePath k m s) := by
    intro k hs
    split
    · exact .of_elsewhere hs rfl
    · cases s.pln.inHand with
      | none => exact .refl s
      | some m => exact .of_elsewhere hs (concludePath_stream k m s)
  cases kind with
  | rest | stick => exact .refl s
  | follow played first => exact concludeFollow_keepsStream played first s
  | axisStop =>
    change s.KeepsStream (if s.pln.vel = Vec3.zero then endAxisStop s else s)
    split
    · refine .of_elsewhere (elsewhere (Or.inr rfl)) ?_
      unfold endAxisStop
      split <;> rfl
    · exact .refl s
  | moving | dwelling | pathStop => exact path _ (elsewhere (Or.inl rfl))

/-! ## Preparation -/

/-- A sample prepared from a state with the stream kept; where it may end in HOLD it is prepared outside STREAM. -/
structure Prepared.Streams (s : State) (p : Prepared) : Prop where
  kept : s.KeepsStream p.state
  elsewhere : p.kind.mayHold → p.state.fcu.flight ≠ .stream

/-- A sample in a flight state other than STREAM that leaves the flight state and the stream alone. -/
theorem Prepared.Streams.of_elsewhere {s : State} {p : Prepared} (elsewhere : s.fcu.flight ≠ .stream)
    (flight : p.state.fcu.flight = s.fcu.flight) (stream : p.state.pln.stream = s.pln.stream) : p.Streams s :=
  ⟨.of_elsewhere elsewhere stream, fun _ => by rw [flight]; exact elsewhere⟩

/-- An axis stop that takes the place of a stream (R120, R122). -/
theorem prepareAxisStop_streams {s t : State} (kept : s.KeepsStream t) (stops : t.fcu.flight = .stopping) (rate : Nat) :
    (prepareAxisStop rate t).Streams s :=
  ⟨kept.trans (.of_stream rfl id), fun _ => by rw [show (prepareAxisStop rate t).state.fcu.flight = _ from stops]; nofun⟩

/-- The hold sample leaves the stream alone (R44). -/
theorem prepareRest_streams {s t : State} (kept : s.KeepsStream t) : (prepareRest t).Streams s :=
  ⟨kept.trans (.of_stream rfl id), by rintro (path | axis) <;> contradiction⟩

/-- A follower sample takes the head of the buffer (R117). -/
theorem prepareFollow_streams (first : Bool) {head : Sample} {rest : List Sample} {s t : State}
    (kept : s.KeepsStream t) (buffer : t.pln.stream.samples = head :: rest) : (prepareFollow first head rest t).Streams s := by
  have popped : t.KeepsStream (t.onPln fun p => { p with stream := { p.stream with samples := rest } }) :=
    ⟨fun law => law.popped buffer rfl rfl, id⟩
  refine ⟨?_, by rintro (path | axis) <;> contradiction⟩
  exact (kept.trans popped).trans ((evaluateBands_keepsStream _).trans (.of_stream rfl id))

/-- A sample in STREAM: the follower's, or on an empty buffer the first of the stop (R117, R120, R122). -/
theorem prepareStream_streams (s : State) : (prepareStream s).Streams s := by
  unfold prepareStream
  split
  · next head rest buffer => exact prepareFollow_streams false (.refl s) buffer
  · split
    · refine prepareAxisStop_streams ?_ rfl _
      exact (report_keepsStream .streamUnderrun 0 none s).trans (stopCancelled_keepsStream _ _ _)
    · exact prepareAxisStop_streams (endStream_keepsStream s) rfl _

/-- The start of play enters STREAM and PLAYING together, or cancels the stream with the hold sample (R115, R116). -/
theorem prepareStartOfPlay_streams (s : State) : (prepareStartOfPlay s).Streams s := by
  unfold prepareStartOfPlay
  dsimp only
  split
  · exact prepareRest_streams ((report_keepsStream .streamUnderrun 0 none s).trans (cancelStream_keepsStream _))
  · next head rest buffer =>
    split
    · exact prepareRest_streams ((keepsStream_plannerFrame.notice _ _ s).trans (cancelStream_keepsStream _))
    · exact prepareFollow_streams true ⟨fun law => law.congr rfl rfl, fun _ _ => rfl⟩ buffer

theorem prepareTrack_stream (s : State) : (prepareTrack s).state.pln.stream = s.pln.stream := by
  unfold prepareTrack
  split
  · rfl
  · split <;> rfl

theorem prepareStopping_stream (s : State) : (prepareStopping s).state.pln.stream = s.pln.stream := by
  unfold prepareStopping
  split <;> rfl

/-- Every sample is prepared with the stream kept (R43). -/
theorem prepareSample_streams {frameStart : Bool} {s : State} :
    ∀ p, prepareSample frameStart s = some p → p.Streams s := by
  have given : ∀ q : Prepared, q.Streams s → ∀ p, some q = some p → p.Streams s := fun q hq p h => Option.some.inj h ▸ hq
  unfold prepareSample
  cases hf : s.fcu.flight with
  | parked | parking | tripped => exact fun _ h => nomatch h
  | arming => exact given _ (prepareRest_streams (.refl s))
  | hold =>
    refine given _ ?_
    split
    · exact prepareStartOfPlay_streams s
    · exact prepareRest_streams (.refl s)
  | track => exact given _ (.of_elsewhere (by rw [hf]; nofun) (by rw [prepareTrack_fcu]) (prepareTrack_stream s))
  | stick => exact given _ (.of_elsewhere (by rw [hf]; nofun) rfl rfl)
  | stream => exact given _ (prepareStream_streams s)
  | stopping => exact given _ (.of_elsewhere (by rw [hf]; nofun) (by rw [prepareStopping_fcu]) (prepareStopping_stream s))

/-- The sample of a servo event (R43). -/
theorem planSample_keepsStream (frameStart : Bool) (s : State) : s.KeepsStream (planSample frameStart s) := by
  unfold planSample
  split
  · exact .refl s
  · next p hp =>
    obtain ⟨kept, elsewhere⟩ := prepareSample_streams p hp
    obtain ⟨flt, mrk, handed, committed⟩ := commit_keeps p
    have commits : p.state.KeepsStream p.commit := .of_stream (by rw [committed]) (by rw [committed]; exact id)
    refine (kept.trans commits).trans (conclude_keepsStream (fun hk => ?_) _)
    rw [committed]
    exact elsewhere hk

end Sys2Proof.Machine
end

section
/-! The fourth law over every command (R105, R109 to R113, R121, R124): the flight commands, the moves, the stick and the zones
leave the stream or cancel it as they leave STREAM, and the stream's own records keep its order. -/

namespace Sys2Proof.Machine

open Sys2Proof

/-- A flight state known is not STREAM. -/
theorem ne_stream_of_eq {s : State} {flight : FlightState} (hf : s.fcu.flight = flight) (h : flight ≠ .stream) :
    s.fcu.flight ≠ .stream := hf ▸ h

/-! ## Flight -/

theorem startParking_keepsStream {s : State} (h : s.fcu.flight = .hold) : s.KeepsStream (startParking s) := by
  refine State.KeepsStream.trans ?_ (cancelPrimed_keepsStream _)
  exact .of_elsewhere (ne_stream_of_eq h nofun) rfl

theorem releaseTimeout_keepsStream (w : Winch) (s : State) : s.KeepsStream (releaseTimeout w s) := by
  have reported : s.KeepsStream (report .armTimeout (winchNumber w) none (s.onChan w fun c => { c with timer := none })) :=
    keepsStream_plannerFrame.reported (keepsStream_plannerFrame.onChan w _ s) _ _ _
  unfold releaseTimeout
  dsimp only
  split
  · next arming => exact reported.trans (.of_elsewhere (ne_stream_of_eq arming nofun) rfl)
  · exact reported

/-- ARMING ends in HOLD, PARKING in PARKED (R53, R57). -/
theorem watchChannels_keepsStream (s : State) : s.KeepsStream (watchChannels s) := by
  unfold watchChannels
  split
  · next h => exact .of_elsewhere (ne_stream_of_eq h.1 nofun) rfl
  · split
    · next h =>
      refine State.KeepsStream.trans (t := s.onFcu fun f => { f with flight := .parked }) ?_ ?_
      · exact .of_elsewhere (ne_stream_of_eq h.1 nofun) rfl
      · exact (keepsStream_plannerFrame.writePose _ _).trans (keepsStream_plannerFrame.notice _ _ _)
    · exact .refl s

/-- CLEAR_FAULTS ends in PARKED from TRIPPED, or in the flight state it found (R194). -/
theorem clearFaultsRecord_keepsStream (seat : Seat) (s : State) : s.KeepsStream (clearFaultsRecord seat s) := by
  have cleared := keepsStream_plannerFrame.sameButFlags (clearFlags_sameButFlags s)
  unfold clearFaultsRecord
  split
  · exact keepsStream_plannerFrame.refuse _ _ _ s
  · refine State.KeepsStream.trans ?_ (keepsStream_plannerFrame.ack _ _ _ _)
    unfold clearFaults returnToParked
    split
    · next h =>
      have tripped : (clearFlags s).fcu.flight = .tripped := h.1
      exact cleared.trans (.of_elsewhere (ne_stream_of_eq tripped nofun) rfl)
    · exact cleared.trans (keepsStream_plannerFrame.frame rfl rfl rfl)

/-- HOLD: a stream in STREAM is cancelled, a PRIMED one by SAFETY alone (R55, R58 to R60, R62). -/
theorem holdEffect_keepsStream (seat : Seat) (s : State) : s.KeepsStream (holdEffect seat s) := by
  unfold holdEffect
  cases hf : s.fcu.flight with
  | hold =>
    dsimp only
    split
    · exact cancelPrimed_keepsStream s
    · exact .refl s
  | track =>
    refine .of_elsewhere (ne_stream_of_eq hf nofun) ?_
    dsimp only [holdInTrack]
    split
    · rfl
    · split <;> rfl
  | stick => exact .of_elsewhere (ne_stream_of_eq hf nofun) rfl
  | stream => exact stopCancelled_keepsStream _ _ s
  | stopping =>
    refine .of_elsewhere (ne_stream_of_eq hf nofun) ?_
    dsimp only [holdInStopping]
    split
    · rfl
    · split <;> rfl
  | parked | arming | parking | tripped => exact .refl s

/-! ## The stick -/

/-- TAKE_STICK cancels a PRIMED stream in HOLD and the stream in STREAM (R96 to R98, R124). -/
theorem takeStick_keepsStream (s : State) : s.KeepsStream (takeStick s) := by
  cases hf : s.fcu.flight with
  | hold =>
    have cancelled : s.KeepsStream { s with pln := { s.pln with stream := s.pln.stream.unprimed } } :=
      cancelPrimed_eq s ▸ cancelPrimed_keepsStream s
    rw [takeStick_hold hf]
    exact cancelled.trans (.of_elsewhere (ne_stream_of_eq hf nofun) rfl)
  | track =>
    rw [takeStick_track hf]
    refine .of_elsewhere (ne_stream_of_eq hf nofun) ?_
    unfold handOverMove
    split
    · rfl
    · split <;> rfl
  | stream =>
    rw [takeStick_stream hf]
    exact .of_emptied rfl (Stream.not_plays_of_idle rfl)
  | parked | arming | stick | stopping | parking | tripped =>
    unfold takeStick
    rw [hf]
    exact .refl s

/-! ## The moves -/

/-- The move RESUME or STEP would begin leaves the hand or the queue (R82). -/
theorem nextMove_keeps {s t : State} {m : Move} (h : nextMove s = some (m, t)) :
    t.fcu = s.fcu ∧ t.pln.stream = s.pln.stream := by
  unfold nextMove at h
  split at h
  · cases h
    exact ⟨rfl, rfl⟩
  · split at h
    · cases h
    · cases h
      exact ⟨rfl, rfl⟩

/-- RESUME and STEP begin a move from HOLD, a PRIMED stream cancelled first (R82, R83, R124). -/
theorem resumeWith_keepsStream (type : BitVec 6) (step : Bool) (seat : Seat) (s : State) :
    s.KeepsStream (resumeWith type step seat s) := by
  have begins : ∀ (m : Move) (u : State), u.fcu.flight = .hold → u.KeepsStream (beginWith (moveEnd step) m step u) :=
    fun m u hold => .of_elsewhere (ne_stream_of_eq hold nofun) (beginWith_stream (moveEnd_stream step) m step u)
  unfold resumeWith
  split
  · exact keepsStream_plannerFrame.refuse _ _ _ s
  · next flight =>
    have hold : s.fcu.flight = .hold := not_not.mp flight
    split
    · exact keepsStream_plannerFrame.refuse _ _ _ s
    · next m t offered =>
      obtain ⟨fcu, stream⟩ := nextMove_keeps offered
      have acked : ∀ n, s.KeepsStream (ack seat type n t) := fun n => .of_stream stream (by rw [ack_fcu, fcu]; exact id)
      have held : t.fcu.flight = .hold := by rw [fcu, hold]
      split
      · refine ((acked 0).trans (cancelPrimed_keepsStream _)).trans (begins m _ ?_)
        rw [cancelPrimed_eq]
        exact held
      · exact (acked 1).trans (begins m _ held)

theorem flushMoves_keepsStream (seat : Seat) (s : State) : s.KeepsStream (flushMoves seat s) := by
  unfold flushMoves
  split
  · exact .of_stream rfl id
  · unfold discardSuspended
    split <;> exact .of_stream rfl id

theorem appendMove_keepsStream (seat : Seat) (p : List Byte) (s : State) : s.KeepsStream (appendMove seat p s) := by
  unfold appendMove
  dsimp only
  split <;> exact .of_stream rfl id

/-! ## The stream -/

/-- An append keeps the order; the overflow's flag and the bands leave the buffer (R111). -/
theorem appendInOrder_keepsStream (positions : List Vec3) (s : State) : s.KeepsStream (appendInOrder positions s) := by
  have appended : s.KeepsStream { s with pln := { s.pln with stream := s.pln.stream.append positions } } :=
    ⟨fun law => law.append positions, id⟩
  rw [appendInOrder_eq]
  refine State.KeepsStream.trans ?_ (evaluateBands_keepsStream _)
  split
  · exact appended.trans (report_keepsStream _ _ _ _)
  · exact appended

theorem takeSamples_keepsStream (j : BitVec 16) (positions : List Vec3) (s : State) :
    s.KeepsStream (takeSamples j positions s) := by
  unfold takeSamples
  dsimp only
  split
  · exact appendInOrder_keepsStream positions s
  · split
    · split
      · exact .refl s
      · exact appendInOrder_keepsStream _ s
    · unfold streamAhead
      dsimp only
      split <;> exact .of_buffer rfl rfl id id

theorem streamRecord_keepsStream (seat : Seat) (p : List Byte) (s : State) : s.KeepsStream (streamRecord seat p s) := by
  have discarded : s.KeepsStream (discardStreamData s) := .of_buffer rfl rfl id id
  unfold streamRecord
  split
  · exact discarded
  · dsimp only
    split
    · exact takeSamples_keepsStream _ _ s
    · exact discarded

/-- A PLAYING stream goes on in ENDING, or ends at once (R121). -/
theorem streamEnd_keepsStream (s : State) : s.KeepsStream (streamEnd s) := by
  cases hs : s.pln.stream.state with
  | primed =>
    rw [streamEnd_primed hs]
    exact .of_emptied rfl (Stream.not_plays_of_idle rfl)
  | playing =>
    by_cases empty : s.pln.stream.samples = []
    · rw [streamEnd_empty hs empty]
      exact .of_ended rfl rfl rfl
    · rw [streamEnd_playing hs empty]
      exact .of_buffer rfl rfl (fun _ => Or.inl hs) id
  | idle | ending =>
    unfold streamEnd
    rw [hs]
    exact .refl s

/-! ## The zones -/

/-- The ZONE_STOP an activation starts stops a flown move, which flies outside STREAM (R29, R30). -/
theorem zoneStopDecision_keepsStream (z : Zone) (s : State) : s.KeepsStream (zoneStopDecision z s) := by
  by_cases hc : ∃ m, s.cutBy z m
  · obtain ⟨m, cut⟩ := hc
    rw [zoneStopDecision_cut cut]
    split
    · exact report_keepsStream _ _ _ s
    · obtain ⟨-, pln, -⟩ := report_sameButFlags (f := .zoneStop) rfl 0 none { s with
        pln := { s.pln with inHand := some { m with phase := .abandoned, stepFlag := false }, queue := [] }
        mrk := { s.mrk with holdPending := false } }
      obtain ⟨⟨-, flies⟩, -⟩ := cut
      rw [startZoneStop_eq]
      refine .of_elsewhere ?_ (by rw [pln])
      rcases flies with ⟨track, -⟩ | ⟨stopping, -⟩
      · exact ne_stream_of_eq track nofun
      · exact ne_stream_of_eq stopping nofun
  · rw [zoneStopDecision_uncut (not_exists.mp hc)]
    exact .refl s

theorem takeZone_keepsStream (slot : Nat) (z : Zone) (s : State) : s.KeepsStream (takeZone slot z s) :=
  State.KeepsStream.trans (t := s.onEnv fun e => e.putZone slot (some z)) (.of_stream rfl id)
    (zoneStopDecision_keepsStream z _)

theorem zonePut_keepsStream (seat : Seat) (p : List Byte) (s : State) : s.KeepsStream (zonePut seat p s) := by
  unfold zonePut
  dsimp only
  split
  · exact keepsStream_plannerFrame.refuse _ _ _ s
  · split
    · exact keepsStream_plannerFrame.refuse _ _ _ s
    · exact keepsStream_plannerFrame.answer fun _ => takeZone_keepsStream _ _ _

theorem zoneSet_keepsStream (seat : Seat) (p : List Byte) (s : State) : s.KeepsStream (zoneSet seat p s) := by
  unfold zoneSet
  dsimp only
  split
  · exact keepsStream_plannerFrame.refuse _ _ _ s
  · split
    · exact keepsStream_plannerFrame.refuse _ _ _ s
    · exact keepsStream_plannerFrame.answer fun _ => takeZone_keepsStream _ _ _

theorem zoneRemove_keepsStream (seat : Seat) (p : List Byte) (s : State) : s.KeepsStream (zoneRemove seat p s) := by
  unfold zoneRemove
  dsimp only
  split
  · exact keepsStream_plannerFrame.refuse _ _ _ s
  · split
    · exact keepsStream_plannerFrame.ack _ _ _ s
    · exact keepsStream_plannerFrame.answer fun _ => .of_stream rfl id

/-! ## The settings and the part reset -/

theorem setAnchor_keepsStream (seat : Seat) (p : List Byte) (s : State) : s.KeepsStream (setAnchor seat p s) := by
  unfold setAnchor
  dsimp only
  split <;> exact .of_stream rfl id

theorem setWorkspace_keepsStream (seat : Seat) (p : List Byte) (s : State) : s.KeepsStream (setWorkspace seat p s) := by
  unfold setWorkspace
  dsimp only
  split <;> exact .of_stream rfl id

/-- A part reset leaves the stream IDLE with an empty buffer (R105). -/
theorem partReset_keepsStream (strap : Strap) (answers : Bool) (s : State) : s.KeepsStream (partReset strap answers s) := by
  have examined : ∀ u : State, s.KeepsStream u → s.KeepsStream (examineLine u) := by
    intro u loaded
    unfold examineLine
    split
    · exact loaded.trans (report_keepsStream _ _ _ u)
    · exact loaded
  exact examined _ (.of_emptied rfl (Stream.not_plays_of_idle rfl))

/-! ## Every command -/

/-- Every command keeps the fourth law, and streams playing in STREAM alone. -/
theorem exec_keepsStream (c : Instr) (s : State) : ∃ t, exec c s = .next t ∧ s.KeepsStream t := by
  have frame := keepsStream_plannerFrame
  cases steers : steersPlanner c with
  | false => exact frame.exec steers s
  | true =>
    cases c with
    | partReset strap answers => exact frame.done (partReset_keepsStream strap answers s)
    | arm =>
      refine frame.decodeCommand (frame.answer fun h => ?_)
      exact .of_elsewhere (ne_stream_of_eq (parked_of_armChecks (s := s.afterDecode) h) nofun) rfl
    | park => exact frame.decodeCommand (frame.answer fun h => startParking_keepsStream (hold_of_parkChecks h))
    | hold seat => exact frame.decodeCommand (frame.answer fun _ => holdEffect_keepsStream seat _)
    | resume seat | step seat => exact frame.decodeCommand (resumeWith_keepsStream _ _ seat _)
    | takeStick => exact frame.decodeCommand (frame.answer fun _ => takeStick_keepsStream _)
    | dropStick =>
      refine frame.decodeCommand (frame.answer fun h => ?_)
      exact .of_elsewhere (ne_stream_of_eq (stick_of_dropChecks h) nofun) rfl
    | clearFaults seat => exact frame.decodeCommand (clearFaultsRecord_keepsStream seat _)
    | flushMoves seat => exact frame.decodeCommand (frame.answer fun _ => flushMoves_keepsStream seat _)
    | appendMove seat p => exact frame.decodeCommand (appendMove_keepsStream seat p _)
    | streamStart =>
      exact frame.decodeCommand (frame.answer fun _ => .of_emptied rfl (by rintro (h | h) <;> cases h))
    | streamData seat p => exact frame.done (frame.decodeRecord (streamRecord_keepsStream seat p _))
    | streamEnd => exact frame.decodeCommand (frame.answer fun _ => streamEnd_keepsStream _)
    | zonePut seat p => exact frame.decodeCommand (zonePut_keepsStream seat p _)
    | zoneSet seat p => exact frame.decodeCommand (zoneSet_keepsStream seat p _)
    | zoneRemove seat p => exact frame.decodeCommand (zoneRemove_keepsStream seat p _)
    | setAnchor seat p => exact frame.decodeCommand (setAnchor_keepsStream seat p _)
    | setWorkspace seat p => exact frame.decodeCommand (setWorkspace_keepsStream seat p _)
    | setLimits => exact frame.decodeCommand (frame.answer fun _ => .of_stream rfl id)
    | servoEvent =>
      refine frame.done ?_
      split
      · exact .refl s
      · exact (frame.advanceTo _ s).trans (frame.raiseServo planSample_keepsStream frame.completePull _ _)
    | referenceEdge t => exact frame.done ((frame.advanceTo t s).trans (frame.referenceEdge planSample_keepsStream _))
    | windowClose =>
      refine frame.done ?_
      split
      · exact frame.atInstant
          (fun u => (frame.onFru _ u).trans (frame.raiseServo planSample_keepsStream frame.closeMiss 0 _)) _ s
      · exact .refl s
    | driveAnswer w bytes => exact frame.done (frame.driveAnswer watchChannels_keepsStream w bytes s)
    | releaseTimeout w => exact frame.done (frame.stateExpiry (releaseTimeout_keepsStream w) w _ s)
    | _ => cases steers

/-- Settles O55: only appends and plays change the buffer, at its two ends, or it is emptied whole; and every command that leaves
STREAM cancels or ends the stream. -/
theorem streamLawKept : Obligations.StreamLawKept := by
  intro s t hstep
  unfold step at hstep
  split at hstep
  · cases hstep
    exact ⟨id, id⟩
  · next c rest hpending =>
    obtain ⟨u, hu, kept, flight⟩ := exec_keepsStream c { s with pending := rest }
    rw [hu] at hstep
    cases hstep
    exact ⟨fun law => (streamLaw_iff t).mpr (kept ((streamLaw_iff s).mp law)), flight⟩

end Sys2Proof.Machine
end

section
/-! The marker unit's own operations (07): the inside test (R130), the edits of a slot (R127, R128), and the examination of a
committed position (R131, R133). -/

namespace Sys2Proof.Machine

open Sys2Proof

/-! ## The inside test -/

/-- The test of R130 in integers: the squared distance from the marker's point against the squared radius, both in µm². -/
theorem insideMarker_iff (m : MarkerSpec) (p : Vec3) :
    insideMarker m p = true ↔
      (p.x - 1000 * m.point.x) ^ 2 + (p.y - 1000 * m.point.y) ^ 2 + (p.z - 1000 * m.point.z) ^ 2 ≤
        (1000 * (m.radius : Int)) ^ 2 := by
  have squares : ((sqDist p (toMicrons m.point) : Nat) : Int) = _ := sqDist_cast p (toMicrons m.point)
  rw [insideMarker, decide_eq_true_iff, ← Int.ofNat_le, squares]
  push_cast
  rfl

/-- How far a legal position can lie from a legal point given in mm, axis by axis (R1). -/
theorem legalPosition_near {p q : Vec3} (hp : legalPosition p = true) (hq : legalPositionMm q = true) :
    (p.x - 1000 * q.x).natAbs ≤ 600000000 ∧ (p.y - 1000 * q.y).natAbs ≤ 600000000 ∧
      (p.z - 1000 * q.z).natAbs ≤ 160000000 := by
  simp only [legalPosition, legalPositionMm, Bool.and_eq_true, decide_eq_true_eq] at hp hq
  omega

theorem sq_le_of_natAbs_le {a : Int} {n : Nat} (h : a.natAbs ≤ n) : a ^ 2 ≤ (n : Int) ^ 2 := by
  rw [← Int.natAbs_sq a]
  exact_mod_cast Nat.pow_le_pow_left h 2

/-- Settles O33: the test in integers, and the sum from the three differences. -/
theorem markerInsideTest : Obligations.MarkerInsideTest := by
  refine ⟨insideMarker_iff, fun m p hp hm => ?_⟩
  obtain ⟨hx, hy, hz⟩ := legalPosition_near hp hm
  refine ⟨hx, hy, by omega, ?_⟩
  have sx := sq_le_of_natAbs_le hx
  have sy := sq_le_of_natAbs_le hy
  have sz := sq_le_of_natAbs_le hz
  norm_num at sx sy sz ⊢
  linarith

/-! ## MARKER_SET and MARKER_CLEAR -/

theorem slotOf_of_lt {n : Nat} (h : n < 4) : slotOf n = some ⟨n, h⟩ := dif_pos h

theorem slotOf_of_ge {n : Nat} (h : 4 ≤ n) : slotOf n = none := dif_neg (Nat.not_lt.mpr h)

section
variable {s : State} {seat : Seat} {p : List Byte} {d0 : Byte}

/-- A number above 3, looked at before the fields (R127; log 27). -/
theorem markerSet_noSlot (h : 4 ≤ unsignedAt p 0 1) : markerSet seat p s = refuse seat .noSuchMarker 0 s := by
  simp only [markerSet, slotOf_of_ge h]

theorem markerSet_badValue (h : unsignedAt p 0 1 < 4) (hm : markerOf p = none) :
    markerSet seat p s = refuse seat .badValue 0 s := by
  simp only [markerSet, slotOf_of_lt h, hm]

/-- The slot written whole, its inside flag at the present commanded position (R127, R132). -/
theorem markerSet_taken (h : unsignedAt p 0 1 < 4) {m : MarkerSpec} (hm : markerOf p = some m) :
    markerSet seat p s =
      putMarker ⟨unsignedAt p 0 1, h⟩ (some ⟨m, insideMarker m (commandedPosition s)⟩) (ack seat 0x27 0 s) := by
  simp only [markerSet, slotOf_of_lt h, hm]

theorem markerClear_noSlot (h : 4 ≤ d0.toNat) : markerClear seat d0 s = refuse seat .noSuchMarker 0 s := by
  simp only [markerClear, slotOf_of_ge h]

/-- A slot that was empty already (R128). -/
theorem markerClear_empty (h : d0.toNat < 4) (hm : s.mrk.markers.get ⟨d0.toNat, h⟩ = none) :
    markerClear seat d0 s = ack seat 0x1A 1 s := by
  simp only [markerClear, slotOf_of_lt h, if_pos hm]

/-- A slot emptied (R128). -/
theorem markerClear_taken (h : d0.toNat < 4) (hm : s.mrk.markers.get ⟨d0.toNat, h⟩ ≠ none) :
    markerClear seat d0 s = putMarker ⟨d0.toNat, h⟩ none (ack seat 0x1A 0 s) := by
  simp only [markerClear, slotOf_of_lt h, if_neg hm]

end

/-- Settles O32: the number, then the fields, then the slot. -/
theorem markerEdits : Obligations.MarkerEdits := by
  refine ⟨fun s seat p ht => ⟨fun high => ?_, fun low => ⟨fun bad => ?_, fun m good => ?_⟩⟩,
    fun s seat d0 d1 ht => ⟨fun high => ?_, fun low => ⟨fun empty => ?_, fun full => ?_⟩⟩⟩
  · exact done_decode_refused ht (markerSet_noSlot high)
  · exact done_decode_refused ht (markerSet_badValue low bad)
  · exact done_decode_taken ht (markerSet_taken low good) rfl
  · exact done_decode_refused ht (markerClear_noSlot high)
  · exact done_decode_taken ht (markerClear_empty low empty) rfl
  · exact done_decode_taken ht (markerClear_taken low full) rfl

/-! ## The examination of a committed position -/

/-- The states whose samples are examined (R131). -/
theorem examines_iff (f : FlightState) :
    examines f = true ↔ f = .hold ∨ f = .track ∨ f = .stick ∨ f = .stream ∨ f = .stopping := by
  simp [examines, or_assoc]

/-- A marker with its inside flag taken at a position (R130). -/
def Marker.seenFrom (p : Vec3) (m : Marker) : Marker := { m with inside := insideMarker m.spec p }

/-- A slot's armed marker is entered at a position: it was outside and is inside (R131). -/
def Mrk.enters (k : Mrk) (p : Vec3) (i : Fin 4) : Bool :=
  (k.markers.get i).any fun m => m.spec.armed && !m.inside && insideMarker m.spec p

/-- A slot's marker asks for a hold at the end of the move (R133). -/
def Mrk.holdsAtEnd (k : Mrk) (i : Fin 4) : Bool := (k.markers.get i).any fun m => m.spec.holdAtEnd

/-- Some HOLD_AT_END marker is entered at a position (R133). -/
def Mrk.asksHold (k : Mrk) (p : Vec3) (slots : List (Fin 4)) : Bool := slots.any fun i => k.enters p i && k.holdsAtEnd i

/-- MARKER_ENTERED of a slot, as it is handed to LINK (R133). -/
def entryNotice (i : Fin 4) : Handed := ⟨.subscribers .cue, .notice .markerEntered (BitVec.ofNat 8 i.val)⟩

/-- The notices of the markers entered at a position, in slot order (R131, R133). -/
def Mrk.entryNotices (k : Mrk) (p : Vec3) (slots : List (Fin 4)) : List Handed := (slots.filter (k.enters p)).map entryNotice

/-- One slot of the table with its inside flag taken at a position. -/
def seeSlot (p : Vec3) (q : Quad (Option Marker)) (i : Fin 4) : Quad (Option Marker) :=
  q.set i ((q.get i).map (Marker.seenFrom p))

/-- The four slots seen one after another are the whole table seen. -/
theorem seeSlots_all (p : Vec3) (q : Quad (Option Marker)) :
    markerSlots.foldl (seeSlot p) q = q.map (Option.map (Marker.seenFrom p)) := rfl

/-- MRK acts on an entry: MARKER_ENTERED, and the hold of a HOLD_AT_END marker entered by a TRACK sample (R133). -/
theorem actOnEntry_eq (flight : FlightState) (i : Fin 4) (m : Marker) (s : State) :
    actOnEntry flight i m s =
      { s with
        mrk := { s.mrk with holdPending := s.mrk.holdPending || (decide (flight = .track) && m.spec.holdAtEnd) }
        link := { s.link with handed := s.link.handed ++ [entryNotice i] } } := by
  have pending : (if m.spec.holdAtEnd = true ∧ flight = .track then s.onMrk fun k => { k with holdPending := true } else s) =
      s.onMrk fun k => { k with holdPending := k.holdPending || (decide (flight = .track) && m.spec.holdAtEnd) } := by
    cases m.spec.holdAtEnd with
    | false => simp [State.onMrk]
    | true => by_cases sample : flight = .track <;> simp [State.onMrk, sample]
  unfold actOnEntry
  rw [pending]
  rfl

/-- One slot examined (R131, R133). -/
theorem examineMarker_eq (flight : FlightState) (p : Vec3) (s : State) (i : Fin 4) :
    examineMarker flight p s i =
      { s with
        mrk :=
          ⟨seeSlot p s.mrk.markers i, s.mrk.holdPending || (decide (flight = .track) && s.mrk.asksHold p [i])⟩
        link := { s.link with handed := s.link.handed ++ s.mrk.entryNotices p [i] } } := by
  cases hi : s.mrk.markers.get i with
  | none =>
    have same : s.mrk.markers.set i none = s.mrk.markers := Quad.ext_get fun j => by
      rw [Quad.get_set]
      split
      · next hj => rw [hj, hi]
      · rfl
    simp [examineMarker, seeSlot, Mrk.asksHold, Mrk.entryNotices, Mrk.enters, hi, same]
  | some m =>
    have acts : (insideMarker m.spec p && !m.inside && m.spec.armed) = s.mrk.enters p i := by
      simp [Mrk.enters, hi, Bool.and_comm, Bool.and_assoc]
    have holds : s.mrk.holdsAtEnd i = m.spec.holdAtEnd := by simp [Mrk.holdsAtEnd, hi]
    unfold examineMarker
    simp only [hi, acts]
    cases entered : s.mrk.enters p i with
    | false => simp [putMarker, State.onMrk, seeSlot, Marker.seenFrom, Mrk.asksHold, Mrk.entryNotices, entered, hi]
    | true =>
      simp [actOnEntry_eq, putMarker, State.onMrk, seeSlot, Marker.seenFrom, Mrk.asksHold, Mrk.entryNotices, entered, holds,
        hi]

/-- The examination of one slot leaves the entry of another to be decided as it stood. -/
theorem enters_of_seeSlot {p : Vec3} {k : Mrk} {i j : Fin 4} (h : j ≠ i) (pending : Bool) :
    Mrk.enters ⟨seeSlot p k.markers i, pending⟩ p j = k.enters p j := by
  simp only [Mrk.enters, seeSlot, Quad.get_set, if_neg h]

theorem holdsAtEnd_of_seeSlot (p : Vec3) (k : Mrk) {i j : Fin 4} (h : j ≠ i) (pending : Bool) :
    Mrk.holdsAtEnd ⟨seeSlot p k.markers i, pending⟩ j = k.holdsAtEnd j := by
  simp only [Mrk.holdsAtEnd, seeSlot, Quad.get_set, if_neg h]

theorem asksHold_cons (k : Mrk) (p : Vec3) (i : Fin 4) (rest : List (Fin 4)) :
    k.asksHold p (i :: rest) = (k.asksHold p [i] || k.asksHold p rest) := by
  simp [Mrk.asksHold]

theorem entryNotices_cons (k : Mrk) (p : Vec3) (i : Fin 4) (rest : List (Fin 4)) :
    k.entryNotices p (i :: rest) = k.entryNotices p [i] ++ k.entryNotices p rest := by
  rw [← List.singleton_append, Mrk.entryNotices, List.filter_append, List.map_append]
  rfl

/-- Slots examined one after another, none of them twice (R131, R133). -/
theorem examineSlots_eq (flight : FlightState) (p : Vec3) (slots : List (Fin 4)) (distinct : slots.Nodup) (s : State) :
    slots.foldl (examineMarker flight p) s =
      { s with
        mrk :=
          ⟨slots.foldl (seeSlot p) s.mrk.markers,
            s.mrk.holdPending || (decide (flight = .track) && s.mrk.asksHold p slots)⟩
        link := { s.link with handed := s.link.handed ++ s.mrk.entryNotices p slots } } := by
  induction slots generalizing s with
  | nil => simp [Mrk.asksHold, Mrk.entryNotices]
  | cons i rest ih =>
    obtain ⟨fresh, distinct⟩ := List.nodup_cons.mp distinct
    have other : ∀ j ∈ rest, j ≠ i := fun j hj hi => fresh (hi ▸ hj)
    have entries (pending : Bool) :
        Mrk.entryNotices ⟨seeSlot p s.mrk.markers i, pending⟩ p rest = s.mrk.entryNotices p rest :=
      congrArg (List.map entryNotice) (List.filter_congr fun j hj => enters_of_seeSlot (other j hj) pending)
    have asks (pending : Bool) : Mrk.asksHold ⟨seeSlot p s.mrk.markers i, pending⟩ p rest = s.mrk.asksHold p rest := by
      rw [Bool.eq_iff_iff]
      simp only [Mrk.asksHold, List.any_eq_true]
      refine exists_congr fun j => and_congr_right fun hj => ?_
      rw [enters_of_seeSlot (other j hj), holdsAtEnd_of_seeSlot p s.mrk (other j hj)]
    rw [List.foldl_cons, ih distinct, examineMarker_eq]
    dsimp only
    rw [entries, asks, asksHold_cons s.mrk p i rest, entryNotices_cons s.mrk p i rest, Bool.and_or_distrib_left,
      Bool.or_assoc, List.append_assoc]
    rfl

/-- The marker table after the examination of a position (R131, R133). -/
def Mrk.examined (flight : FlightState) (p : Vec3) (k : Mrk) : Mrk :=
  if examines flight then
    ⟨k.markers.map (Option.map (Marker.seenFrom p)),
      k.holdPending || (decide (flight = .track) && k.asksHold p markerSlots)⟩
  else k

/-- The notices of the examination of a position (R131, R133). -/
def Mrk.told (flight : FlightState) (p : Vec3) (k : Mrk) : List Handed :=
  if examines flight then k.entryNotices p markerSlots else []

/-- The examination of a position, whole (R131, R133). -/
theorem examineMarkers_eq (flight : FlightState) (p : Vec3) (s : State) :
    examineMarkers flight p s =
      { s with
        mrk := s.mrk.examined flight p
        link := { s.link with handed := s.link.handed ++ s.mrk.told flight p } } := by
  unfold examineMarkers Mrk.examined Mrk.told
  cases examines flight with
  | false => simp
  | true =>
    simp only [if_true]
    rw [examineSlots_eq flight p markerSlots (by decide) s, seeSlots_all]

theorem examined_of_examines {flight : FlightState} (h : examines flight = true) (p : Vec3) (k : Mrk) :
    k.examined flight p =
      ⟨k.markers.map (Option.map (Marker.seenFrom p)),
        k.holdPending || (decide (flight = .track) && k.asksHold p markerSlots)⟩ := if_pos h

theorem examined_of_not_examines {flight : FlightState} (h : ¬ examines flight = true) (p : Vec3) (k : Mrk) :
    k.examined flight p = k := if_neg h

theorem told_of_examines {flight : FlightState} (h : examines flight = true) (p : Vec3) (k : Mrk) :
    k.told flight p = k.entryNotices p markerSlots := if_pos h

theorem told_of_not_examines {flight : FlightState} (h : ¬ examines flight = true) (p : Vec3) (k : Mrk) :
    k.told flight p = [] := if_neg h

/-- Hold-pending is raised by a TRACK sample (R133). -/
theorem examined_track_holdPending (p : Vec3) (k : Mrk) :
    (k.examined .track p).holdPending = (k.holdPending || k.asksHold p markerSlots) := rfl

/-- No other sample raises it (R133). -/
theorem examined_holdPending_of_ne_track {flight : FlightState} (h : flight ≠ .track) (p : Vec3) (k : Mrk) :
    (k.examined flight p).holdPending = k.holdPending := by
  unfold Mrk.examined
  split
  · simp [h]
  · rfl

end Sys2Proof.Machine
end

section
/-! What leaves the marker table, hold-pending and the MARKER_ENTERED notices as they stand: the notices and flags of the other
blocks, and all that a servo event does around the commitment of its sample. -/

namespace Sys2Proof.Machine

open Sys2Proof

/-! ## The relation -/

/-- A notice handed over is a MARKER_ENTERED. -/
def Handed.isEntry (h : Handed) : Bool :=
  match h.msg with
  | .notice .markerEntered _ => true
  | _ => false

/-- The MARKER_ENTERED notices among those handed over in a step. -/
def State.entries (s : State) : List Handed := s.link.handed.filter Handed.isEntry

/-- The states that agree in MRK and in the MARKER_ENTERED notices handed over. -/
structure State.SameMarks (s t : State) : Prop where
  mrk : t.mrk = s.mrk
  entries : t.entries = s.entries

namespace State.SameMarks

variable {s t u : State}

theorem refl (s : State) : s.SameMarks s := ⟨rfl, rfl⟩

theorem trans (h : s.SameMarks t) (k : t.SameMarks u) : s.SameMarks u := ⟨k.mrk.trans h.mrk, k.entries.trans h.entries⟩

end State.SameMarks

/-- The examination's own notices are MARKER_ENTERED notices (R133). -/
theorem told_filter (flight : FlightState) (p : Vec3) (k : Mrk) :
    (k.told flight p).filter Handed.isEntry = k.told flight p := by
  refine List.filter_eq_self.mpr fun h hh => ?_
  unfold Mrk.told at hh
  split at hh
  · obtain ⟨i, -, rfl⟩ := List.mem_map.mp hh
    rfl
  · cases hh

/-! ## Notices -/

theorem handOver_sameMarks {audience : Audience} {msg : Message} (h : Handed.isEntry ⟨audience, msg⟩ = false) (s : State) :
    s.SameMarks (handOver audience msg s) := by
  refine ⟨rfl, ?_⟩
  rw [State.entries, handOver_handed, List.filter_append, List.filter_cons_of_neg (by rw [h]; decide)]
  exact List.append_nil _

theorem notice_sameMarks {code : NoticeCode} (h : code ≠ .markerEntered) (detail : Nat) (s : State) :
    s.SameMarks (notice code detail s) := by
  refine handOver_sameMarks ?_ s
  unfold Handed.isEntry
  split
  · next told => exact absurd (Message.notice.inj told).1 h
  · rfl

theorem moveNotice_sameMarks (code : NoticeCode) (m : Move) (s : State) : s.SameMarks (moveNotice code m s) :=
  handOver_sameMarks rfl s

/-- A MOVE_NOTICE after what left the marks alone. -/
theorem State.SameMarks.moveNotice {s t : State} {code : NoticeCode} {m : Move} (h : s.SameMarks t) :
    s.SameMarks (moveNotice code m t) := h.trans (moveNotice_sameMarks code m t)

theorem bandNotice_sameMarks {code : NoticeCode} (h : code ≠ .markerEntered) (sends was now : Bool) (n : Nat) (s : State) :
    s.SameMarks (bandNotice code sends was now n s) := by
  unfold bandNotice
  split
  · exact notice_sameMarks h n s
  · exact .refl s

theorem evaluateBands_sameMarks (s : State) : s.SameMarks (evaluateBands s) := by
  unfold evaluateBands
  dsimp only
  split
  · exact .refl s
  · exact State.SameMarks.trans (t := s.onPln _) ⟨rfl, rfl⟩
      (((bandNotice_sameMarks (by decide) _ _ _ _ _).trans (bandNotice_sameMarks (by decide) _ _ _ _ _)).trans
        (bandNotice_sameMarks (by decide) _ _ _ _ _))

/-- No flag's notice is MARKER_ENTERED (R184). -/
theorem noticeCode_ne_markerEntered {f : Flag} {code : NoticeCode} (h : f.noticeCode = some code) :
    code ≠ .markerEntered := by
  rintro rfl
  cases f <;> cases h

theorem report_sameMarks {f : Flag} (h : f.isTrip = false) (channel : Nat) (seat : Option Seat) (s : State) :
    s.SameMarks (report f channel seat s) := by
  have occurred : s.SameMarks (s.setFlag f ((s.flag f).occur channel)) := ⟨rfl, rfl⟩
  cases hn : f.noticeCode with
  | none => exact absurd ((Flag.isTrip_iff f).mpr hn) (by rw [h]; decide)
  | some code =>
    simp only [report, hn]
    split
    · exact occurred
    · exact occurred.trans (notice_sameMarks (noticeCode_ne_markerEntered hn) channel _)

theorem tripNotice_sameMarks (f : Flag) (first : Bool) (channel : Nat) (seat : Option Seat) (s : State) :
    s.SameMarks (tripNotice f first channel seat s) := handOver_sameMarks rfl s

/-- In TRIPPED a TRIP flag tells no entry either (R189). -/
theorem report_tripped_sameMarks {f : Flag} (hf : f.isTrip = true) (channel : Nat) (seat : Option Seat) {s : State}
    (hs : s.fcu.flight = .tripped) : s.SameMarks (report f channel seat s) := by
  have occurred : s.SameMarks (s.setFlag f ((s.flag f).occur channel)) := ⟨rfl, rfl⟩
  rw [report_tripped hf channel seat hs]
  split
  · exact occurred
  · exact occurred.trans (tripNotice_sameMarks _ _ _ _ _)

theorem State.SameMarks.cancelStream {s t : State} (h : s.SameMarks t) : s.SameMarks (cancelStream t) := ⟨h.mrk, h.entries⟩

/-! ## What a sample concludes -/

/-- The markers and their notices stand, and hold-pending too unless HOLD is entered, which clears it (R44, R134). -/
structure State.KeepsMarks (s t : State) : Prop where
  markers : t.mrk.markers = s.mrk.markers
  entries : t.entries = s.entries
  pending : t.mrk.holdPending = if t.fcu.flight = .hold then false else s.mrk.holdPending

namespace State.SameMarks

variable {s t u : State}

theorem keepsMarks (h : s.SameMarks t) (flight : t.fcu.flight ≠ .hold) : s.KeepsMarks t :=
  ⟨by rw [h.mrk], h.entries, by rw [if_neg flight, h.mrk]⟩

theorem andKeeps (h : s.SameMarks t) (k : t.KeepsMarks u) : s.KeepsMarks u :=
  ⟨by rw [k.markers, h.mrk], k.entries.trans h.entries, by rw [k.pending, h.mrk]⟩

end State.SameMarks

/-- Entry into HOLD, whatever has become of hold-pending before it (R44). -/
theorem enterHold_keepsMarks {s u : State} {cause : StopCause} (markers : u.mrk.markers = s.mrk.markers)
    (entries : u.entries = s.entries) : s.KeepsMarks (enterHold cause u) := by
  rw [enterHold_eq]
  exact ⟨markers, (notice_sameMarks (by decide) _ _).entries.trans entries, rfl⟩

theorem rejectPath_keepsMarks (s : State) : s.KeepsMarks (rejectPath s) := by
  have told := report_sameMarks (f := .pathRejected) rfl 0 none (flushQueue (emptyHand s))
  exact enterHold_keepsMarks (congrArg Mrk.markers told.mrk :) told.entries

theorem startMove_sameMarks (m : Move) (step : Bool) (s : State) : s.SameMarks (startMove m step s) := by
  unfold startMove
  dsimp only
  split
  · exact State.SameMarks.moveNotice ⟨rfl, rfl⟩
  · exact ⟨rfl, rfl⟩

theorem startMove_flight (m : Move) (step : Bool) (s : State) : (startMove m step s).fcu.flight = .track := by
  unfold startMove
  dsimp only
  split <;> rfl

theorem arrived_sameMarks (s : State) (m : MoveInHand) : s.SameMarks (s.arrived m) := by
  unfold State.arrived
  dsimp only
  split
  · exact State.SameMarks.moveNotice ⟨rfl, rfl⟩
  · exact ⟨rfl, rfl⟩

/-- An arrival keeps what its move-end decision keeps (R79). -/
theorem arriveWith_keepsMarks {onEnd : State → State} (h : ∀ u : State, u.KeepsMarks (onEnd u)) (m : MoveInHand)
    {s : State} (flight : s.fcu.flight ≠ .hold) : s.KeepsMarks (arriveWith onEnd m s) := by
  have same := arrived_sameMarks s m
  obtain ⟨handed, arrived⟩ := s.arrived_keeps m
  cases dwell : m.move.dwell with
  | none =>
    rw [arriveWith_ends _ _ (Or.inl dwell)]
    exact same.andKeeps (h _)
  | some ms =>
    by_cases hms : ms = 0
    · subst hms
      rw [arriveWith_ends _ _ (Or.inr dwell)]
      exact same.andKeeps (h _)
    · rw [arriveWith_dwells _ _ dwell hms]
      exact State.SameMarks.keepsMarks ⟨same.mrk, same.entries⟩ (by rw [arrived]; exact flight)

/-- A begin keeps what its move-end decision keeps (R76). -/
theorem beginWith_keepsMarks {onEnd : State → State} (h : ∀ u : State, u.KeepsMarks (onEnd u)) (m : Move) (step : Bool)
    (s : State) : s.KeepsMarks (beginWith onEnd m step s) := by
  have same := startMove_sameMarks m step s
  have flies : (startMove m step s).fcu.flight ≠ .hold := by rw [startMove_flight]; decide
  cases passes : beginPasses m s with
  | false => rw [beginWith_of_fails onEnd step passes]; exact rejectPath_keepsMarks s
  | true =>
    rw [beginWith_of_passes onEnd step passes]
    split
    · exact same.andKeeps (arriveWith_keepsMarks h _ flies)
    · exact same.keepsMarks flies

theorem earlyEnd_keepsMarks {step : Bool} {s t : State} (h : earlyEnd step s = some t) : s.KeepsMarks t := by
  unfold earlyEnd at h
  split at h
  · cases h
    exact enterHold_keepsMarks rfl rfl
  · split at h
    · cases h
      exact enterHold_keepsMarks rfl rfl
    · cases h

/-- The move-end decision clears hold-pending where it enters HOLD alone (R81, R134). -/
theorem moveEndFrom_keepsMarks (queue : List Move) : ∀ (step : Bool) (s : State), s.KeepsMarks (moveEndFrom queue step s) := by
  induction queue with
  | nil =>
    intro step s
    refine State.SameMarks.andKeeps (t := emptyHand s) ⟨rfl, rfl⟩ ?_
    unfold moveEndFrom
    dsimp only
    split
    · next h => exact earlyEnd_keepsMarks h
    · exact enterHold_keepsMarks rfl (notice_sameMarks (by decide) _ _).entries
  | cons head rest ih =>
    intro step s
    refine State.SameMarks.andKeeps (t := emptyHand s) ⟨rfl, rfl⟩ ?_
    unfold moveEndFrom
    dsimp only
    split
    · next h => exact earlyEnd_keepsMarks h
    · split
      · exact enterHold_keepsMarks rfl (moveNotice_sameMarks .cueReached head (emptyHand s)).entries
      · exact State.SameMarks.andKeeps (t := (emptyHand s).onPln _) ⟨rfl, rfl⟩ (beginWith_keepsMarks (ih false) head false _)

theorem moveEnd_keepsMarks (step : Bool) (s : State) : s.KeepsMarks (moveEnd step s) := moveEndFrom_keepsMarks _ step s

/-- What a path sample concludes (R79, R80, R84). -/
theorem concludePath_keepsMarks (kind : SampleKind) (m : MoveInHand) {s : State} (flight : s.fcu.flight ≠ .hold) :
    s.KeepsMarks (concludePath kind m s) := by
  have goesOn : s.KeepsMarks s := (State.SameMarks.refl s).keepsMarks flight
  unfold concludePath
  split
  · split
    · exact arriveWith_keepsMarks (moveEnd_keepsMarks _) m flight
    · exact goesOn
  · split
    · exact moveEnd_keepsMarks _ s
    · exact goesOn
  · split
    · unfold stopRested
      split <;> exact enterHold_keepsMarks rfl rfl
    · split
      · unfold stopArrived
        dsimp only
        split
        · exact enterHold_keepsMarks rfl (moveNotice_sameMarks .moveDone m.move s).entries
        · exact enterHold_keepsMarks rfl rfl
      · exact goesOn
  · exact goesOn

/-- What a sample that may end in HOLD concludes (R41, R61, R79 to R81, R84). -/
theorem conclude_keepsMarks {kind : SampleKind} (hk : kind.mayHold) (struck : Bool) {s : State}
    (flight : s.fcu.flight ≠ .hold) : s.KeepsMarks (conclude kind struck s) := by
  have path : ∀ k, s.KeepsMarks
      (if struck = true then strikeEnd s else s.pln.inHand.elim s fun m => concludePath k m s) := by
    intro k
    split
    · exact enterHold_keepsMarks rfl rfl
    · cases s.pln.inHand with
      | none => exact (State.SameMarks.refl s).keepsMarks flight
      | some m => exact concludePath_keepsMarks k m flight
  cases kind with
  | moving | dwelling | pathStop => exact path _
  | axisStop =>
    unfold conclude endAxisStop
    dsimp only
    split
    · split
      · exact enterHold_keepsMarks rfl (notice_sameMarks (by decide) _ _).entries
      · exact enterHold_keepsMarks rfl rfl
    · exact (State.SameMarks.refl s).keepsMarks flight
  | rest | stick | follow => rcases hk with path | axis <;> contradiction

/-- What the other samples conclude: a follower's may end in a stop, and none in HOLD (R116, R118, R119, R122). -/
theorem conclude_sameMarks {kind : SampleKind} (hk : ¬ kind.mayHold) (struck : Bool) (s : State) :
    s.SameMarks (conclude kind struck s) ∧ ((conclude kind struck s).fcu.flight = .hold → s.fcu.flight = .hold) := by
  cases kind with
  | rest | stick => exact ⟨.refl s, id⟩
  | follow played first =>
    have goesOn : ∀ n : State,
        let c := if 1000 * n.env.limits.lagLimit < chebyshev played n.pln.pos then lagEnd n
          else if n.pln.stream.state = .ending ∧ n.pln.stream.samples = [] then endStream n else n
        n.SameMarks c ∧ (c.fcu.flight = .hold → n.fcu.flight = .hold) := by
      intro n
      dsimp only
      split
      · have lag := report_sameMarks (f := .streamLag) rfl 0 none n
        exact ⟨⟨lag.mrk, lag.entries⟩, fun held => by cases held⟩
      · split
        · exact ⟨⟨rfl, rfl⟩, fun held => by cases held⟩
        · exact ⟨.refl n, id⟩
    cases first with
    | false => exact goesOn s
    | true =>
      obtain ⟨same, held⟩ := goesOn (notice .streamPlaying 0 s)
      exact ⟨(notice_sameMarks (by decide) 0 s).trans same, held⟩
  | moving | dwelling | pathStop => exact absurd (Or.inl rfl) hk
  | axisStop => exact absurd (Or.inr rfl) hk

end Sys2Proof.Machine
end

section
/-! The markers over a whole servo event (R131, R133, R134): the sample's preparation, its commitment with the examination,
what it concludes, and what follows it. -/

namespace Sys2Proof.Machine

open Sys2Proof

/-! ## Preparation -/

/-- The flight state a sample is produced in, from that before the event: the same, but that play begins from HOLD and that an
emptied stream is stopped (R115, R120, R122). -/
def FlightState.samplesIn (before sample : FlightState) : Prop :=
  sample = before ∨ (before = .hold ∧ sample = .stream) ∨ (before = .stream ∧ sample = .stopping)

theorem FlightState.samplesIn.hold {before sample : FlightState} (h : before.samplesIn sample) (held : sample = .hold) :
    before = .hold := by
  subst held
  rcases h with same | ⟨-, stream⟩ | ⟨-, stopping⟩
  · exact same.symm
  · cases stream
  · cases stopping

/-- The examination does not tell the flight state before the event from that of the sample (R131, R133). -/
theorem FlightState.samplesIn.examined {before sample : FlightState} (h : before.samplesIn sample) (p : Vec3) (k : Mrk) :
    k.examined sample p = k.examined before p := by
  rcases h with rfl | ⟨rfl, rfl⟩ | ⟨rfl, rfl⟩ <;> rfl

theorem FlightState.samplesIn.told {before sample : FlightState} (h : before.samplesIn sample) (p : Vec3) (k : Mrk) :
    k.told sample p = k.told before p := by
  rcases h with rfl | ⟨rfl, rfl⟩ | ⟨rfl, rfl⟩ <;> rfl

/-- A sample prepared with the marks as they stand; where it may end in HOLD it is not prepared from HOLD. -/
structure Prepared.Marks (s : State) (p : Prepared) : Prop where
  same : s.SameMarks p.state
  flight : s.fcu.flight.samplesIn p.state.fcu.flight
  away : p.kind.mayHold → s.fcu.flight ≠ .hold

/-- A sample prepared away from HOLD that leaves the flight state and the marks alone. -/
theorem Prepared.Marks.of_away {s : State} {p : Prepared} (away : s.fcu.flight ≠ .hold) (flight : p.state.fcu = s.fcu)
    (same : s.SameMarks p.state) : p.Marks s := ⟨same, Or.inl (by rw [flight]), fun _ => away⟩

/-- The hold sample (R44). -/
theorem prepareRest_marks {s t : State} (same : s.SameMarks t) (flight : t.fcu = s.fcu) : (prepareRest t).Marks s :=
  ⟨⟨same.mrk, same.entries⟩, Or.inl (congrArg Fcu.flight flight), by rintro (path | axis) <;> contradiction⟩

/-- A follower sample (R117). -/
theorem prepareFollow_marks (first : Bool) (head : Sample) (rest : List Sample) {s t : State} (same : s.SameMarks t)
    (flight : s.fcu.flight.samplesIn t.fcu.flight) : (prepareFollow first head rest t).Marks s := by
  have banded := evaluateBands_sameMarks (t.onPln fun p => { p with stream := { p.stream with samples := rest } })
  refine ⟨⟨banded.mrk.trans same.mrk, banded.entries.trans same.entries⟩, ?_, by rintro (path | axis) <;> contradiction⟩
  obtain ⟨low, critical, high, handed, bands⟩ :=
    evaluateBands_keeps (t.onPln fun p => { p with stream := { p.stream with samples := rest } })
  unfold prepareFollow
  rw [bands]
  exact flight

/-- A sample in STREAM (R117, R120, R122). -/
theorem prepareStream_marks {s : State} (h : s.fcu.flight = .stream) : (prepareStream s).Marks s := by
  have away : s.fcu.flight ≠ .hold := by rw [h]; decide
  unfold prepareStream
  split
  · exact prepareFollow_marks _ _ _ (.refl s) (Or.inl rfl)
  · split
    · have told := report_sameMarks (f := .streamUnderrun) rfl 0 none s
      exact ⟨⟨told.mrk, told.entries⟩, Or.inr (Or.inr ⟨h, rfl⟩), fun _ => away⟩
    · exact ⟨⟨rfl, rfl⟩, Or.inr (Or.inr ⟨h, rfl⟩), fun _ => away⟩

/-- A start of play, taken or refused (R115, R116). -/
theorem prepareStartOfPlay_marks {s : State} (h : s.fcu.flight = .hold) : (prepareStartOfPlay s).Marks s := by
  unfold prepareStartOfPlay
  dsimp only
  split
  · obtain ⟨fcu, -⟩ := report_sameButFlags (f := .streamUnderrun) rfl 0 none s
    exact prepareRest_marks (report_sameMarks rfl 0 none s).cancelStream fcu
  · split
    · exact prepareRest_marks (notice_sameMarks (by decide) _ s).cancelStream rfl
    · exact prepareFollow_marks _ _ _ ⟨rfl, rfl⟩ (Or.inr (Or.inl ⟨h, rfl⟩))

theorem prepareTrack_sameMarks (s : State) : s.SameMarks (prepareTrack s).state := by
  unfold prepareTrack
  split
  · exact .refl s
  · split <;> exact ⟨rfl, rfl⟩

theorem prepareStopping_sameMarks (s : State) : s.SameMarks (prepareStopping s).state := by
  unfold prepareStopping
  split <;> exact ⟨rfl, rfl⟩

/-- Every sample is prepared with the marks as they stand (R43). -/
theorem prepareSample_marks {start : Bool} {s : State} : ∀ p, prepareSample start s = some p → p.Marks s := by
  have given : ∀ q : Prepared, q.Marks s → ∀ p, some q = some p → p.Marks s := fun q hq p h => Option.some.inj h ▸ hq
  unfold prepareSample
  cases hf : s.fcu.flight with
  | parked | parking | tripped => exact fun _ h => nomatch h
  | arming => exact given _ (prepareRest_marks (.refl s) rfl)
  | hold =>
    refine given _ ?_
    split
    · exact prepareStartOfPlay_marks hf
    · exact prepareRest_marks (.refl s) rfl
  | track => exact given _ (.of_away (by rw [hf]; decide) (prepareTrack_fcu s) (prepareTrack_sameMarks s))
  | stick => exact given _ (.of_away (by rw [hf]; decide) rfl ⟨rfl, rfl⟩)
  | stream => exact given _ (prepareStream_marks hf)
  | stopping => exact given _ (.of_away (by rw [hf]; decide) (prepareStopping_fcu s) (prepareStopping_sameMarks s))

/-! ## Commitment -/

/-- A commitment examines the markers at the position committed, for the flight state the sample was produced in (R131). -/
theorem commit_marks (p : Prepared) :
    p.commit.mrk = p.state.mrk.examined p.state.fcu.flight p.committed ∧
      p.commit.entries = p.state.entries ++ p.state.mrk.told p.state.fcu.flight p.committed := by
  have struck : ∀ e : State, e.SameMarks (if p.struck = true then report .wallStrike 0 none e else e) := by
    intro e
    split
    · exact report_sameMarks rfl 0 none e
    · exact .refl e
  obtain ⟨mrk, entries⟩ := struck
    (p.state.onPln fun n => { n with pos := p.committed, vel := restClamped p.cand p.committed n.vel })
  unfold Prepared.commit
  dsimp only
  rw [examineMarkers_eq]
  refine ⟨congrArg (Mrk.examined _ _) mrk, ?_⟩
  refine (List.filter_append _ _).trans (congrArg₂ (· ++ ·) entries ?_)
  rw [told_filter]
  exact congrArg (Mrk.told _ _) mrk

/-! ## The whole sample -/

/-- What a sample leaves of the marks: the examination at the place it commits, and then hold-pending cleared where HOLD is
entered (R44, R131, R133). -/
structure State.SampleMarks (s t : State) : Prop where
  markers : t.mrk.markers = (s.mrk.examined s.fcu.flight t.pln.pos).markers
  entries : t.entries = s.entries ++ s.mrk.told s.fcu.flight t.pln.pos
  pending : t.mrk.holdPending =
    if t.fcu.flight = .hold ∧ s.fcu.flight ≠ .hold then false
    else (s.mrk.examined s.fcu.flight t.pln.pos).holdPending

/-- In the states that produce no sample nothing is examined (R43, R131). -/
theorem not_examines_of_rest {flight : FlightState} (h : producesSamples flight = false) : ¬ examines flight = true := by
  intro examined
  rcases (examines_iff flight).mp examined with rfl | rfl | rfl | rfl | rfl <;> cases h

/-- The planner's part of a servo event (R43, R44, R131). -/
theorem planSample_marks (start : Bool) (s : State) : s.SampleMarks (planSample start s) := by
  unfold planSample
  cases hp : prepareSample start s with
  | none =>
    have kept := prepareSample_keptByPlanner start s
    rw [hp] at kept
    have rests := not_examines_of_rest kept
    dsimp only
    refine ⟨?_, ?_, ?_⟩
    · rw [examined_of_not_examines rests]
    · rw [told_of_not_examines rests, List.append_nil]
    · rw [examined_of_not_examines rests, if_neg fun both => both.2 both.1]
  | some p =>
    obtain ⟨same, flight, away⟩ := prepareSample_marks p hp
    obtain ⟨mrk, entries⟩ := commit_marks p
    rw [same.mrk, flight.examined] at mrk
    rw [same.mrk, same.entries, flight.told] at entries
    obtain ⟨flt, examined, handed, committed⟩ := commit_keeps p
    have inFlight : p.commit.fcu = p.state.fcu := by rw [committed]
    have place : p.commit.pln.pos = p.committed := by rw [committed]
    obtain ⟨-, -, -, -, -, -, pos, -⟩ := conclude_keptByPlanner p.kind p.struck p.commit
    rw [place] at pos
    dsimp only
    rw [← pos] at mrk entries
    by_cases hk : p.kind.mayHold
    · have left : s.fcu.flight ≠ .hold := away hk
      obtain ⟨markers, told, pending⟩ := conclude_keepsMarks hk p.struck (s := p.commit)
        (by rw [inFlight]; exact fun held => left (flight.hold held))
      refine ⟨by rw [markers, mrk], told.trans entries, ?_⟩
      simp only [pending, mrk, left, ne_eq, not_false_eq_true, and_true]
    · obtain ⟨kept, held⟩ := conclude_sameMarks hk p.struck p.commit
      rw [inFlight] at held
      refine ⟨by rw [kept.mrk, mrk], kept.entries.trans entries, ?_⟩
      rw [kept.mrk, mrk, if_neg fun both => both.2 (flight.hold (held both.1))]

/-! ## After the sample -/

/-- The markers and their notices stand, and the flight state and hold-pending too unless a trip is taken, which clears it
(R63, R187). -/
structure State.TripMarks (s t : State) : Prop where
  markers : t.mrk.markers = s.mrk.markers
  entries : t.entries = s.entries
  outcome : (t.fcu.flight = s.fcu.flight ∧ t.mrk.holdPending = s.mrk.holdPending) ∨
    (s.fcu.flight ≠ .tripped ∧ t.fcu.flight = .tripped ∧ t.mrk.holdPending = false)

theorem State.SameMarks.tripMarks {s t : State} (h : s.SameMarks t) (flight : t.fcu.flight = s.fcu.flight) : s.TripMarks t :=
  ⟨by rw [h.mrk], h.entries, Or.inl ⟨flight, by rw [h.mrk]⟩⟩

theorem State.TripMarks.trans {s t u : State} (h : s.TripMarks t) (k : t.TripMarks u) : s.TripMarks u := by
  refine ⟨k.markers.trans h.markers, k.entries.trans h.entries, ?_⟩
  rcases h.outcome with ⟨flight, pending⟩ | ⟨untripped, trips, cleared⟩
  · rw [← flight, ← pending]
    exact k.outcome
  · rcases k.outcome with ⟨flight, pending⟩ | ⟨again, -⟩
    · exact Or.inr ⟨untripped, flight.trans trips, pending.trans cleared⟩
    · exact absurd trips again

/-- A trip hands over no MARKER_ENTERED (R189). -/
theorem tripEffect_tripMarks (f : Flag) (channel : Nat) (seat : Option Seat) {s : State} (h : s.fcu.flight ≠ .tripped) :
    s.TripMarks (tripEffect f channel seat s) := by
  refine ⟨rfl, ?_, Or.inr ⟨h, rfl, rfl⟩⟩
  refine (List.filter_append _ _).trans ((congrArg _ ?_).trans (List.append_nil _))
  rw [List.filter_append]
  split <;> split <;> rfl

theorem reportThirdMiss_tripMarks (w : Winch) (c : Channel) (s : State) : s.TripMarks (reportThirdMiss w c s) := by
  rw [reportThirdMiss_cases]
  split
  · exact (State.SameMarks.refl s).tripMarks rfl
  · split
    · exact (notice_sameMarks (by decide) _ s).tripMarks rfl
    · split
      · next tripped =>
        obtain ⟨fcu, -⟩ := report_tripped_sameButFlags (f := .channelLost) rfl (winchNumber w) none tripped
        exact (report_tripped_sameMarks rfl _ _ tripped).tripMarks (by rw [fcu])
      · next untripped => exact tripEffect_tripMarks _ _ _ untripped

/-- The channels' part of a servo event (R157, R166). -/
theorem runChannels_tripMarks (s : State) : s.TripMarks (runChannels s) := by
  refine State.TripMarks.trans (t := onAllChans (fun c => c.close.send) s) (State.SameMarks.tripMarks ⟨rfl, rfl⟩ rfl) ?_
  exact (((reportThirdMiss_tripMarks .w1 _ _).trans (reportThirdMiss_tripMarks .w2 _ _)).trans
    (reportThirdMiss_tripMarks .w3 _ _)).trans (reportThirdMiss_tripMarks .w4 _ _)

theorem finishServo_entries (index : Nat) (stale : Quad Bool) (s : State) :
    (finishServo index stale completePull s).entries = (runChannels s).entries := by
  have whole := finishServo_completePull index stale s
  dsimp only at whole
  rw [whole]
  split
  · exact (notice_sameMarks (by decide) 1 (runChannels s)).entries
  · rfl

/-- FRAME_POSE goes among the notices handed over, wherever its place is (R150; log 6). -/
theorem handFramePose_entries (s : State) : (handFramePose s).entries = s.entries := by
  have among : ∀ (handed : List Handed) (place : Nat),
      (handed.take place ++ ⟨.framePose, .framePose s.fru.snapshot⟩ :: handed.drop place).filter Handed.isEntry =
        handed.filter Handed.isEntry := by
    intro handed place
    rw [List.filter_append, List.filter_cons_of_neg Bool.false_ne_true, ← List.filter_append, List.take_append_drop]
  unfold handFramePose
  dsimp only
  split
  · exact among _ _
  · exact (handOver_sameMarks (audience := .framePose) rfl s).entries

/-- A servo event is its sample's marks, and then what the channels' turn leaves of them. -/
theorem raiseServo_entries (index : Nat) (s : State) :
    (raiseServo index completePull s).entries =
      (runChannels (planSample (decide (index = 0)) (countFrame (decide (index = 0)) s))).entries := by
  unfold raiseServo
  dsimp only
  split
  · rw [handFramePose_entries, finishServo_entries]
  · rw [finishServo_entries]

/-! ## The whole event -/

/-- What a servo event leaves of the marks, before its notices are copied: the examination at the place it commits, hold-pending
kept while the flight state stands, and cleared where HOLD is entered or a trip is taken (R44, R131, R133, R187). -/
structure State.EventMarks (s t : State) : Prop where
  markers : t.mrk.markers = (s.mrk.examined s.fcu.flight t.pln.pos).markers
  entries : t.entries = s.entries ++ s.mrk.told s.fcu.flight t.pln.pos
  stands : t.fcu.flight = s.fcu.flight → t.mrk.holdPending = (s.mrk.examined s.fcu.flight t.pln.pos).holdPending
  cleared : t.fcu.flight ≠ s.fcu.flight → t.fcu.flight = .hold ∨ t.fcu.flight = .tripped → t.mrk.holdPending = false

/-- A sample that trips nothing, and then the channels' turn. -/
theorem State.SampleMarks.event {s t u : State} (h : s.SampleMarks t) (k : t.TripMarks u) (place : u.pln.pos = t.pln.pos)
    (untripped : t.fcu.flight = .tripped ↔ s.fcu.flight = .tripped) : s.EventMarks u := by
  refine ⟨by rw [k.markers, h.markers, place], by rw [k.entries, h.entries, place], fun flight => ?_, fun flight ends => ?_⟩
  · rcases k.outcome with ⟨same, pending⟩ | ⟨before, trips, -⟩
    · rw [pending, h.pending, place, ← same, flight, if_neg fun both => both.2 both.1]
    · exact absurd (untripped.mpr (flight ▸ trips)) before
  · rcases k.outcome with ⟨same, pending⟩ | ⟨-, -, cleared⟩
    · rw [same] at flight ends
      rcases ends with held | tripped
      · rw [pending, h.pending, if_pos ⟨held, fun was => flight (held.trans was.symm)⟩]
      · exact absurd (tripped.trans (untripped.mp tripped).symm) flight
    · exact cleared

/-- The relation looks at the marks, the flight state and the place alone. -/
theorem State.EventMarks.congr {s c w u : State} (h : c.EventMarks w) (before : s.SameMarks c) (flight : c.fcu = s.fcu)
    (after : w.SameMarks u) (fcu : u.fcu = w.fcu) (pln : u.pln = w.pln) : s.EventMarks u := by
  obtain ⟨markers, entries, stands, cleared⟩ := h
  rw [before.mrk, flight, ← pln] at markers stands
  rw [before.mrk, before.entries, flight, ← pln] at entries
  rw [flight] at cleared
  refine ⟨by rw [after.mrk, markers], after.entries.trans entries, ?_, ?_⟩
  · rw [after.mrk, fcu]
    exact stands
  · rw [after.mrk, fcu]
    exact cleared

/-- A servo event at its time (R131, R133, R134). -/
theorem servoEvent_marks {s : State} (hn : s.fru.nextEvent ≠ none) :
    ∃ u, exec .servoEvent s = .next (deliver u) ∧ s.EventMarks u := by
  obtain ⟨due, hdue⟩ := Option.ne_none_iff_exists'.mp hn
  refine ⟨_, exec_servoEvent hdue, ?_⟩
  have counted : ∀ start, s.SameMarks (countFrame start (advanceTo due s)) := by
    intro start
    rw [countFrame_eq]
    split <;> exact ⟨rfl, rfl⟩
  have flight : ∀ start, (countFrame start (advanceTo due s)).fcu = s.fcu := fun start =>
    (countFrame_samePlan (advanceTo_samePlan due s) start).fcu
  have sampled : ∀ (start : Bool) (c : State), c.EventMarks (runChannels (planSample start c)) := by
    intro start c
    obtain ⟨-, -, -, -, -, trips, tripped, -⟩ := planSample_keeps start c
    exact (planSample_marks start c).event (runChannels_tripMarks _) (runChannels_keepsOutcome _).pos
      ⟨fun now => not_not.mp fun was => trips was now, tripped⟩
  have blocks := raiseServo_sameBlocks s.fru.frameIndex (advanceTo due s)
  exact (sampled _ _).congr (counted _) (flight _) ⟨blocks.mrk, raiseServo_entries _ _⟩ blocks.fcu blocks.pln

/-- Settles O46: the examination slot by slot, and what a servo event does around it. -/
theorem markersExamined : Obligations.MarkersExamined := by
  unfold Obligations.MarkersExamined
  intro examined entered holdsAtEnd slots pends notices tells
  have enters : ∀ (s : State) (p : Vec3), entered s p = s.mrk.enters p := fun s p => funext fun i => by
    simp only [entered, Mrk.enters]
    cases s.mrk.markers.get i <;> rfl
  have holds : ∀ s : State, holdsAtEnd s = s.mrk.holdsAtEnd := fun s => funext fun i => by
    simp only [holdsAtEnd, Mrk.holdsAtEnd]
    cases s.mrk.markers.get i <;> rfl
  have asks : ∀ (s : State) (p : Vec3), pends s p = s.mrk.asksHold p markerSlots := fun s p => by
    simp only [pends, enters, holds]
    rfl
  have tellings : ∀ (s : State) (p : Vec3), notices s p = s.mrk.entryNotices p markerSlots := fun s p => by
    simp only [notices, enters]
    rfl
  refine ⟨fun flight p s => ⟨fun h => ?_, fun h => ?_⟩, fun s none_handed hn => ?_⟩
  · rw [examineMarkers, if_neg fun k => h ((examines_iff flight).mp k)]
  · have examine := (examines_iff flight).mpr h
    rw [examineMarkers_eq, examined_of_examines examine, told_of_examines examine, asks, tellings]
    rfl
  · obtain ⟨u, ran, markers, entries, stands, cleared⟩ := servoEvent_marks hn
    have unhanded : s.entries = [] := by rw [State.entries, none_handed, List.filter_nil]
    rw [unhanded, List.nil_append] at entries
    refine ⟨u, deliver u, ran, rfl, fun h => ?_, fun h => ?_, fun before after => ?_, fun before after => ?_, cleared⟩
    · have idle : ¬ examines s.fcu.flight = true := fun k => h ((examines_iff _).mp k)
      rw [examined_of_not_examines idle] at markers
      rw [told_of_not_examines idle] at entries
      exact ⟨markers, entries⟩
    · have examine := (examines_iff _).mpr h
      rw [examined_of_examines examine] at markers
      rw [told_of_examines examine] at entries
      exact ⟨markers, entries.trans (tellings s _).symm⟩
    · have pending := stands (after.trans before.symm)
      rw [before, examined_track_holdPending, ← asks] at pending
      exact pending
    · have pending := stands after
      rw [examined_holdPending_of_ne_track before] at pending
      exact pending

end Sys2Proof.Machine
end

section
/-! What a servo event asks of FRU and tells LINK before FRU's own turn (R43, R139, R155): the planner's sample and the channels'
turn read the timing settings and the frame count alone of FRU, change LINK by notices alone, none of them a FRAME_POSE, and
leave the flag REFERENCE_LOST as it stands. -/

namespace Sys2Proof.Machine

open Sys2Proof

/-! ## Operations blind to the reference -/

/-- The state with FRU's record replaced, but for the timing settings and the frame count. -/
def State.refit (s : State) (f : Fru) : State :=
  { s with fru := { f with timing := s.fru.timing, frames := s.fru.frames } }

/-- Of LINK the notices handed over alone may differ, what is new among them is no FRAME_POSE, and REFERENCE_LOST stands. -/
structure State.Tells (s t : State) : Prop where
  link : t.link = { s.link with handed := t.link.handed }
  news : ∀ h ∈ t.link.handed, h ∈ s.link.handed ∨ h.audience ≠ .framePose
  flag : t.flag .referenceLost = s.flag .referenceLost

namespace State.Tells

variable {s t u : State}

theorem of_blocks (link : t.link = s.link) (flt : t.flt = s.flt) : s.Tells t := by
  refine ⟨by rw [link], fun h told => Or.inl (by rwa [link] at told), ?_⟩
  unfold State.flag
  rw [flt]

theorem refl (s : State) : s.Tells s := .of_blocks rfl rfl

theorem trans (h : s.Tells t) (k : t.Tells u) : s.Tells u := by
  refine ⟨?_, fun x told => (k.news x told).elim (h.news x) Or.inr, k.flag.trans h.flag⟩
  rw [k.link, h.link]

end State.Tells

/-- An operation that reads the timing settings and the frame count alone of FRU, and tells LINK notices that are no
FRAME_POSE. -/
structure FruBlind (op : State → State) : Prop where
  refit : ∀ (s : State) (f : Fru), op (s.refit f) = (op s).refit f
  tells : ∀ s : State, s.Tells (op s)

namespace FruBlind

variable {a b : State → State}

/-- An operation that touches neither LINK nor the flags. -/
theorem of_quiet (refit : ∀ (s : State) (f : Fru), a (s.refit f) = (a s).refit f) (link : ∀ s : State, (a s).link = s.link)
    (flt : ∀ s : State, (a s).flt = s.flt) : FruBlind a := ⟨refit, fun s => .of_blocks (link s) (flt s)⟩

theorem still : FruBlind fun s => s := of_quiet (fun _ _ => rfl) (fun _ => rfl) fun _ => rfl

theorem comp (hb : FruBlind b) (ha : FruBlind a) : FruBlind fun s => b (a s) :=
  ⟨fun s f => by rw [ha.refit, hb.refit], fun s => (ha.tells s).trans (hb.tells _)⟩

/-- A choice among operations by something that is not FRU's. -/
theorem choose {α : Type} {op : α → State → State} (h : ∀ x, FruBlind (op x)) {d : State → α}
    (hd : ∀ (s : State) (f : Fru), d (s.refit f) = d s) : FruBlind fun s => op (d s) s :=
  ⟨fun s f => by rw [hd, (h _).refit], fun s => (h _).tells s⟩

/-- An operation that takes its course, whatever FRU reads, by a blind one. -/
theorem picks (h : ∀ s : State, ∃ p, FruBlind p ∧ ∀ f, a (s.refit f) = p (s.refit f)) : FruBlind a := by
  refine ⟨fun s f => ?_, fun s => ?_⟩
  all_goals
    obtain ⟨p, blind, course⟩ := h s
    have here : a s = p s := course s.fru
    rw [here]
  · rw [course, blind.refit]
  · exact blind.tells s

theorem ite {c : State → Prop} [DecidablePred c] (ha : FruBlind a) (hb : FruBlind b)
    (hc : ∀ (s : State) (f : Fru), c (s.refit f) ↔ c s) : FruBlind fun s => if c s then a s else b s := by
  refine ⟨fun s f => ?_, fun s => ?_⟩
  · rw [ha.refit, hb.refit, ← apply_ite (State.refit · f)]
    simp only [hc]
  · split
    · exact ha.tells s
    · exact hb.tells s

end FruBlind

/-! ## Notices and flags -/

theorem handOver_blind {audience : Audience} (h : audience ≠ .framePose) (msg : Message) :
    FruBlind (handOver audience msg) := by
  refine ⟨fun _ _ => rfl, fun s => ⟨rfl, fun x told => ?_, rfl⟩⟩
  rw [handOver_handed, List.mem_append, List.mem_singleton] at told
  exact told.imp_right fun new => by rw [new]; exact h

theorem notice_blind (code : NoticeCode) (n : Nat) : FruBlind (notice code n) :=
  handOver_blind (audience := .subscribers code.category) (by simp) _

theorem moveNotice_blind (code : NoticeCode) (m : Move) : FruBlind (moveNotice code m) :=
  FruBlind.choose (op := fun n => handOver (.subscribers code.category) (.moveNotice code m.id m.origin m.target n))
    (fun _ => handOver_blind (by simp) _) (d := fun s => s.pln.queue.length) fun _ _ => rfl

theorem setFlag_blind {f : Flag} (hf : f ≠ .referenceLost) (e : State → FlagEntry)
    (he : ∀ (s : State) (g : Fru), e (s.refit g) = e s) : FruBlind fun s => s.setFlag f (e s) := by
  refine ⟨fun s g => ?_, fun s => ⟨rfl, fun x told => Or.inl told, ?_⟩⟩
  · rw [he]
    rfl
  · rw [State.flag_setFlag, if_neg hf.symm]

/-- An occurrence of a flag that is no TRIP flag (R183, R184). -/
theorem report_blind {f : Flag} (trip : f.isTrip = false) (hf : f ≠ .referenceLost) (channel : Nat) (seat : Option Seat) :
    FruBlind (report f channel seat) := by
  have sets := setFlag_blind hf (fun s => (s.flag f).occur channel) fun _ _ => rfl
  cases code : f.noticeCode with
  | none => rw [(Flag.isTrip_iff f).mpr code] at trip; cases trip
  | some n =>
    have reports : report f channel seat = fun s =>
        if (s.flag f).set = true then s.setFlag f ((s.flag f).occur channel)
        else notice n channel (s.setFlag f ((s.flag f).occur channel)) := by
      funext s
      simp only [report, code]
    rw [reports]
    exact .ite sets ((notice_blind n channel).comp sets) fun _ _ => Iff.rfl

theorem tripNotice_blind (f : Flag) (first : Bool) (channel : Nat) (seat : Option Seat) :
    FruBlind (tripNotice f first channel seat) :=
  FruBlind.choose
    (op := fun trip : TripRecord => handOver .everySeat (.tripNotice f first channel seat trip.left trip.pos trip.frames))
    (fun _ => handOver_blind (by simp) _) (d := fun s => s.flt.trip) fun _ _ => rfl

/-- A trip reads the frame count for its record (R186). -/
theorem tripEffect_blind {f : Flag} (hf : f ≠ .referenceLost) (channel : Nat) (seat : Option Seat) :
    FruBlind (tripEffect f channel seat) := by
  refine ⟨fun _ _ => rfl, fun s => ⟨rfl, fun x told => ?_, ?_⟩⟩
  · refine (List.mem_append.mp told).imp_right fun new => ?_
    rcases List.mem_append.mp new with noticed | failed
    · split at noticed
      · cases noticed
      · rw [List.mem_singleton.mp noticed]
        simp
    · split at failed
      · rw [List.mem_singleton.mp failed]
        simp
      · cases failed
  · exact (State.flag_setFlag s f .referenceLost _).trans (if_neg hf.symm)

/-- An occurrence of a TRIP flag: a trip outside TRIPPED, the flag and its TRIP_NOTICE there (R186, R189). -/
theorem report_trip_blind {f : Flag} (trip : f.isTrip = true) (hf : f ≠ .referenceLost) (channel : Nat) (seat : Option Seat) :
    FruBlind (report f channel seat) := by
  have sets := setFlag_blind hf (fun s => (s.flag f).occur channel) fun _ _ => rfl
  have reports : report f channel seat = fun s =>
      if s.fcu.flight = .tripped then
        if (s.flag f).set = true then s.setFlag f ((s.flag f).occur channel)
        else tripNotice f false channel seat (s.setFlag f ((s.flag f).occur channel))
      else tripEffect f channel seat s := by
    funext s
    split
    · next tripped => exact report_tripped trip channel seat tripped
    · next untripped => exact report_trip trip channel seat untripped
  rw [reports]
  exact .ite (.ite sets ((tripNotice_blind f false channel seat).comp sets) fun _ _ => Iff.rfl)
    (tripEffect_blind hf channel seat) fun _ _ => Iff.rfl

/-! ## The planner's operations -/

@[simp] theorem State.refit_fcu (s : State) (f : Fru) : (s.refit f).fcu = s.fcu := rfl
@[simp] theorem State.refit_pln (s : State) (f : Fru) : (s.refit f).pln = s.pln := rfl
@[simp] theorem State.refit_env (s : State) (f : Fru) : (s.refit f).env = s.env := rfl
@[simp] theorem State.refit_mrk (s : State) (f : Fru) : (s.refit f).mrk = s.mrk := rfl

theorem onPln_blind (f : Pln → Pln) : FruBlind fun s => s.onPln f := .of_quiet (fun _ _ => rfl) (fun _ => rfl) fun _ => rfl

theorem cancelStream_blind : FruBlind cancelStream := .of_quiet (fun _ _ => rfl) (fun _ => rfl) fun _ => rfl

theorem startStop_blind (kind : StopKind) (rate : Nat) (cause : StopCause) : FruBlind (startStop kind rate cause) :=
  .of_quiet (fun _ _ => rfl) (fun _ => rfl) fun _ => rfl

theorem enterHold_blind (cause : StopCause) : FruBlind (enterHold cause) :=
  (notice_blind .holding _).comp (.of_quiet (fun _ _ => rfl) (fun _ => rfl) fun _ => rfl)

theorem emptyHand_blind : FruBlind emptyHand := onPln_blind _

theorem flushQueue_blind : FruBlind flushQueue := .of_quiet (fun _ _ => rfl) (fun _ => rfl) fun _ => rfl

theorem endStream_blind : FruBlind endStream := .of_quiet (fun _ _ => rfl) (fun _ => rfl) fun _ => rfl

theorem bandNotice_blind (code : NoticeCode) (sends was now : Bool) (n : Nat) : FruBlind (bandNotice code sends was now n) :=
  .ite (c := fun _ => (sends && !was && now) = true) (notice_blind code n) .still fun _ _ => Iff.rfl

/-- The evaluation of the bands, at the stream and the limits it finds (R114). -/
theorem evaluateBands_blind : FruBlind evaluateBands := by
  have bands : ∀ x : Stream × Limits, FruBlind fun s =>
      let sends : Bool := x.1.state = .primed ∨ x.1.state = .playing
      if x.1.state = .idle then s
      else bandNotice .streamHigh sends x.1.inHigh (bandHigh x.1.samples.length) x.1.samples.length
        (bandNotice .streamCritical sends x.1.inCritical (bandCritical x.1.samples.length) x.1.samples.length
          (bandNotice .streamLow sends x.1.inLow (bandLow x.2 x.1.samples.length) x.1.samples.length
            (s.onPln fun p => { p with stream := p.stream.banded x.2 }))) := fun x =>
    .ite (c := fun _ => x.1.state = .idle) .still
      ((bandNotice_blind ..).comp ((bandNotice_blind ..).comp ((bandNotice_blind ..).comp (onPln_blind _)))) fun _ _ => Iff.rfl
  exact .choose bands (d := fun s => (s.pln.stream, s.env.limits)) fun _ _ => rfl

/-- A stop of a stream that one of its flags ends: the stream cancelled, an axis stop at Δv_st (R119, R120). -/
theorem streamStop_blind {f : Flag} (trip : f.isTrip = false) (hf : f ≠ .referenceLost) (cause : StopCause) :
    FruBlind fun s => startStop .axis (stepStream s) cause (cancelStream (report f 0 none s)) :=
  .choose (op := fun rate s => startStop .axis rate cause (cancelStream (report f 0 none s)))
    (fun _ => (startStop_blind ..).comp (cancelStream_blind.comp (report_blind trip hf 0 none))) (d := stepStream)
    fun _ _ => rfl

theorem underrun_blind : FruBlind underrun := streamStop_blind rfl (by decide) .streamUnderrun

theorem lagEnd_blind : FruBlind lagEnd := streamStop_blind rfl (by decide) .streamLag

/-! ## Preparation -/

/-- A sample prepared over a refitted state. -/
def Prepared.refit (p : Prepared) (f : Fru) : Prepared := { p with state := p.state.refit f }

/-- A preparation that reads and tells no more than a blind operation. -/
structure PreparesBlind (prep : State → Prepared) : Prop where
  refit : ∀ (s : State) (f : Fru), prep (s.refit f) = (prep s).refit f
  tells : ∀ s : State, s.Tells (prep s).state

namespace PreparesBlind

variable {prep : State → Prepared}

theorem of_quiet (refit : ∀ (s : State) (f : Fru), prep (s.refit f) = (prep s).refit f)
    (link : ∀ s, (prep s).state.link = s.link) (flt : ∀ s, (prep s).state.flt = s.flt) : PreparesBlind prep :=
  ⟨refit, fun s => .of_blocks (link s) (flt s)⟩

/-- A preparation that takes its course, whatever FRU reads, by a blind one. -/
theorem picks (h : ∀ s : State, ∃ p, PreparesBlind p ∧ ∀ f, prep (s.refit f) = p (s.refit f)) : PreparesBlind prep := by
  refine ⟨fun s f => ?_, fun s => ?_⟩
  all_goals
    obtain ⟨p, blind, course⟩ := h s
    have here : prep s = p s := course s.fru
    rw [here]
  · rw [course, blind.refit]
  · exact blind.tells s

theorem after (h : PreparesBlind prep) {a : State → State} (ha : FruBlind a) : PreparesBlind fun s => prep (a s) :=
  ⟨fun s f => by rw [ha.refit, h.refit], fun s => (ha.tells s).trans (h.tells _)⟩

end PreparesBlind

theorem prepareRest_blind : PreparesBlind prepareRest := .of_quiet (fun _ _ => rfl) (fun _ => rfl) fun _ => rfl

theorem prepareAxisStop_blind (rate : Nat) : PreparesBlind (prepareAxisStop rate) :=
  .of_quiet (fun _ _ => rfl) (fun _ => rfl) fun _ => rfl

/-- An axis stop after what the state before gives its rate. -/
theorem prepareAxisStop_blind_after {a : State → State} (ha : FruBlind a) {rate : State → Nat}
    (hr : ∀ (s : State) (f : Fru), rate (s.refit f) = rate s) : PreparesBlind fun s => prepareAxisStop (rate s) (a s) :=
  ⟨fun s f => by rw [hr, ha.refit, (prepareAxisStop_blind _).refit],
    fun s => (ha.tells s).trans ((prepareAxisStop_blind _).tells _)⟩

theorem prepareStick_blind : PreparesBlind prepareStick := .of_quiet (fun _ _ => rfl) (fun _ => rfl) fun _ => rfl

theorem prepareMoving_blind (m : MoveInHand) : PreparesBlind (prepareMoving m) :=
  .of_quiet (fun _ _ => rfl) (fun _ => rfl) fun _ => rfl

theorem prepareDwelling_blind (m : MoveInHand) : PreparesBlind (prepareDwelling m) :=
  .of_quiet (fun _ _ => rfl) (fun _ => rfl) fun _ => rfl

theorem preparePathStop_blind (rate : Nat) (m : MoveInHand) : PreparesBlind (preparePathStop rate m) :=
  .of_quiet (fun _ _ => rfl) (fun _ => rfl) fun _ => rfl

/-- The last position again, in a state no run reaches (log 16). -/
theorem prepareAgain_blind (kind : SampleKind) : PreparesBlind fun s => ⟨kind, s.pln.pos, s⟩ :=
  .of_quiet (fun _ _ => rfl) (fun _ => rfl) fun _ => rfl

theorem prepareTrack_blind : PreparesBlind prepareTrack := by
  refine .picks fun s => ?_
  cases hand : s.pln.inHand with
  | none => exact ⟨_, prepareAgain_blind .rest, fun f => by simp only [prepareTrack, State.refit_pln, hand]⟩
  | some m =>
    cases phase : m.phase with
    | moving => exact ⟨_, prepareMoving_blind m, fun f => by simp only [prepareTrack, State.refit_pln, hand, phase]⟩
    | dwelling => exact ⟨_, prepareDwelling_blind m, fun f => by simp only [prepareTrack, State.refit_pln, hand, phase]⟩
    | suspended | abandoned =>
      exact ⟨_, prepareAgain_blind .rest, fun f => by simp only [prepareTrack, State.refit_pln, hand, phase]⟩

theorem prepareFollow_blind (first : Bool) (head : Sample) (rest : List Sample) :
    PreparesBlind (prepareFollow first head rest) :=
  PreparesBlind.after
    (prep := fun s =>
      let s := computeCeiling s
      let target := limitTo s.env.ceiling (followTarget s.fru.timing.ts s.pln.pos head.pos)
      prepareAxes (.follow head.pos first) (approachAxes (stepStream s) s.pln.vel target) s)
    (.of_quiet (fun _ _ => rfl) (fun _ => rfl) fun _ => rfl) (evaluateBands_blind.comp (onPln_blind _))

theorem prepareStream_blind : PreparesBlind prepareStream := by
  refine .picks fun s => ?_
  cases samples : s.pln.stream.samples with
  | cons head rest =>
    exact ⟨_, prepareFollow_blind false head rest, fun f => by simp only [prepareStream, State.refit_pln, samples]⟩
  | nil =>
    by_cases playing : s.pln.stream.state = .playing
    · exact ⟨_, prepareAxisStop_blind_after underrun_blind (rate := stepStream) fun _ _ => rfl,
        fun f => by
          simp only [prepareStream, State.refit_pln, samples]
          exact if_pos playing⟩
    · exact ⟨_, prepareAxisStop_blind_after endStream_blind (rate := stepStream) fun _ _ => rfl,
        fun f => by
          simp only [prepareStream, State.refit_pln, samples]
          exact if_neg playing⟩

theorem prepareStartOfPlay_blind : PreparesBlind prepareStartOfPlay := by
  refine .picks fun s => ?_
  cases samples : s.pln.stream.samples with
  | nil =>
    exact ⟨_, prepareRest_blind.after (cancelStream_blind.comp (report_blind (f := .streamUnderrun) rfl (by decide) 0 none)),
      fun f => by simp only [prepareStartOfPlay, State.refit_pln, samples]⟩
  | cons head rest =>
    by_cases far : 1000 * s.env.limits.joinTol < chebyshev head.pos s.pln.holdPos
    · exact ⟨_, prepareRest_blind.after (cancelStream_blind.comp (notice_blind .joinRefused
          (joinAxis (1000 * s.env.limits.joinTol) head.pos s.pln.holdPos))),
        fun f => by
          simp only [prepareStartOfPlay, State.refit_pln, State.refit_env, samples]
          exact if_pos far⟩
    · exact ⟨_, (prepareFollow_blind true head rest).after (a := fun s =>
          (s.onFcu fun f => { f with flight := .stream }).onPln fun p =>
            { p with vel := Vec3.zero, stream := { p.stream with state := .playing } })
          (.of_quiet (fun _ _ => rfl) (fun _ => rfl) fun _ => rfl),
        fun f => by
          simp only [prepareStartOfPlay, State.refit_pln, State.refit_env, samples]
          exact if_neg far⟩

theorem prepareStopping_blind : PreparesBlind prepareStopping := by
  refine .picks fun s => ?_
  match stop : s.pln.stop, hand : s.pln.inHand with
  | some ⟨.path, rate⟩, some m =>
    exact ⟨_, preparePathStop_blind rate m, fun f => by simp only [prepareStopping, State.refit_pln, stop, hand]⟩
  | some ⟨.path, rate⟩, none =>
    exact ⟨_, prepareAgain_blind .axisStop, fun f => by simp only [prepareStopping, State.refit_pln, stop, hand]⟩
  | some ⟨.axis, rate⟩, _ =>
    exact ⟨_, prepareAxisStop_blind rate, fun f => by simp only [prepareStopping, State.refit_pln, stop]⟩
  | none, _ =>
    exact ⟨_, prepareAxisStop_blind_after .still (rate := stepEmergency) fun _ _ => rfl,
      fun f => by simp only [prepareStopping, State.refit_pln, stop]⟩

/-- The sample of each flight state; a start of play reads the frame count (R43, R115). -/
theorem prepareSample_blind (start : Bool) (s : State) :
    (∃ p, PreparesBlind p ∧ ∀ f, prepareSample start (s.refit f) = some (p (s.refit f))) ∨
      ∀ f, prepareSample start (s.refit f) = none := by
  cases flight : s.fcu.flight with
  | parked | parking | tripped => exact Or.inr fun f => by simp only [prepareSample, State.refit_fcu, flight]
  | arming => exact Or.inl ⟨_, prepareRest_blind, fun f => by simp only [prepareSample, State.refit_fcu, flight]⟩
  | track => exact Or.inl ⟨_, prepareTrack_blind, fun f => by simp only [prepareSample, State.refit_fcu, flight]⟩
  | stick => exact Or.inl ⟨_, prepareStick_blind, fun f => by simp only [prepareSample, State.refit_fcu, flight]⟩
  | stream => exact Or.inl ⟨_, prepareStream_blind, fun f => by simp only [prepareSample, State.refit_fcu, flight]⟩
  | stopping => exact Or.inl ⟨_, prepareStopping_blind, fun f => by simp only [prepareSample, State.refit_fcu, flight]⟩
  | hold =>
    have plays : ∀ f, startsPlay start (s.refit f) = startsPlay start s := fun _ => rfl
    by_cases starts : startsPlay start s = true
    · exact Or.inl ⟨_, prepareStartOfPlay_blind,
        fun f => by simp only [prepareSample, State.refit_fcu, flight, plays, if_pos starts]⟩
    · exact Or.inl ⟨_, prepareRest_blind,
        fun f => by simp only [prepareSample, State.refit_fcu, flight, plays, if_neg starts]⟩

/-! ## Commitment -/

theorem putMarker_blind (i : Fin 4) (m : Option Marker) : FruBlind (putMarker i m) :=
  .of_quiet (fun _ _ => rfl) (fun _ => rfl) fun _ => rfl

theorem actOnEntry_blind (flight : FlightState) (i : Fin 4) (m : Marker) : FruBlind (actOnEntry flight i m) :=
  (notice_blind .markerEntered i.val).comp
    (.ite (c := fun _ => m.spec.holdAtEnd = true ∧ flight = .track)
      (.of_quiet (fun _ _ => rfl) (fun _ => rfl) fun _ => rfl) .still fun _ _ => Iff.rfl)

theorem examineMarker_blind (flight : FlightState) (p : Vec3) (i : Fin 4) :
    FruBlind fun s => examineMarker flight p s i := by
  refine .picks fun s => ?_
  cases slot : s.mrk.markers.get i with
  | none => exact ⟨_, .still, fun f => by simp only [examineMarker, State.refit_mrk, slot]⟩
  | some m =>
    by_cases enters : (insideMarker m.spec p && !m.inside && m.spec.armed) = true
    · exact ⟨_, (actOnEntry_blind flight i m).comp (putMarker_blind i (some { m with inside := insideMarker m.spec p })),
        fun f => by simp only [examineMarker, State.refit_mrk, slot, if_pos enters]⟩
    · exact ⟨_, putMarker_blind i (some { m with inside := insideMarker m.spec p }),
        fun f => by simp only [examineMarker, State.refit_mrk, slot, if_neg enters]⟩

theorem examineMarkers_blind (flight : FlightState) (p : Vec3) : FruBlind (examineMarkers flight p) :=
  .ite (c := fun _ => examines flight = true)
    ((examineMarker_blind flight p 3).comp ((examineMarker_blind flight p 2).comp
      ((examineMarker_blind flight p 1).comp (examineMarker_blind flight p 0)))) .still fun _ _ => Iff.rfl

/-- A candidate committed, over what its preparation leaves (R40, R41, R131). -/
theorem commit_blind (p : Prepared) :
    (∀ f, (p.refit f).commit = p.commit.refit f) ∧ p.state.Tells p.commit := by
  have commits : FruBlind fun s =>
      examineMarkers p.state.fcu.flight p.committed (handSetpoints
        (if p.struck = true then report .wallStrike 0 none (s.onPln fun n =>
            { n with pos := p.committed, vel := restClamped p.cand p.committed n.vel })
          else s.onPln fun n => { n with pos := p.committed, vel := restClamped p.cand p.committed n.vel })) :=
    (examineMarkers_blind _ _).comp (FruBlind.comp (b := handSetpoints)
      (.of_quiet (fun _ _ => rfl) (fun _ => rfl) fun _ => rfl)
      (.ite (c := fun _ => p.struck = true)
        ((report_blind (f := .wallStrike) rfl (by decide) 0 none).comp (onPln_blind _)) (onPln_blind _) fun _ _ => Iff.rfl))
  exact ⟨fun f => commits.refit p.state f, commits.tells p.state⟩

/-! ## Moves -/

theorem rejectPath_blind : FruBlind rejectPath :=
  (enterHold_blind .pathRejected).comp ((report_blind (f := .pathRejected) rfl (by decide) 0 none).comp
    (flushQueue_blind.comp emptyHand_blind))

theorem startMove_blind (m : Move) (step : Bool) : FruBlind (startMove m step) :=
  .comp (b := fun s => if m.notifyBegin = true then moveNotice .moveBegun m s else s)
    (a := fun s => (s.onFcu fun f => { f with flight := .track }).onPln fun p => { p with inHand := some (freshHand m step s) })
    (.ite (c := fun _ => m.notifyBegin = true) (moveNotice_blind .moveBegun m) .still fun _ _ => Iff.rfl)
    (.of_quiet (fun _ _ => rfl) (fun _ => rfl) fun _ => rfl)

theorem arrived_blind (m : MoveInHand) : FruBlind fun s => s.arrived m :=
  .comp (b := fun s => if m.move.notifyDone = true then moveNotice .moveDone m.move s else s)
    (.ite (c := fun _ => m.move.notifyDone = true) (moveNotice_blind .moveDone m.move) .still fun _ _ => Iff.rfl)
    (onPln_blind fun p => { p with inHand := some { m with prog := m.dist, speed := 0 } })

section
variable {onEnd : State → State} (ends : FruBlind onEnd)
include ends

/-- An arrival: the move-end decision, or a dwell counted in servo periods (R79). -/
theorem arriveWith_blind (m : MoveInHand) : FruBlind (arriveWith onEnd m) := by
  have decides : m.move.dwell = none ∨ m.move.dwell = some 0 → FruBlind (arriveWith onEnd m) := fun h =>
    .picks fun s => ⟨_, ends.comp (arrived_blind m), fun f => arriveWith_ends onEnd (s.refit f) h⟩
  cases dwell : m.move.dwell with
  | none => exact decides (Or.inl dwell)
  | some ms =>
    by_cases zero : ms = 0
    · exact decides (Or.inr (by rw [dwell, zero]))
    · refine .picks fun s => ⟨_, FruBlind.comp (b := fun s => { s with pln := { s.pln with inHand := some { m with
          prog := m.dist, speed := 0, phase := .dwelling, dwellLeft := max 1 (roundNat (ms * 1000) s.fru.timing.ts) } } })
        (.of_quiet (fun _ _ => rfl) (fun _ => rfl) fun _ => rfl) (arrived_blind m), fun f => ?_⟩
      rw [arriveWith_dwells onEnd (s.refit f) dwell zero]
      obtain ⟨handed, arrived⟩ := (s.refit f).arrived_keeps m
      rw [arrived]

/-- A begin validates from the commanded position and the envelope (R74, R76). -/
theorem beginWith_blind (m : Move) (step : Bool) : FruBlind (beginWith onEnd m step) := by
  refine .picks fun s => ?_
  have same : ∀ f, beginPasses m (s.refit f) = beginPasses m s := fun _ => rfl
  cases passes : beginPasses m s with
  | false => exact ⟨_, rejectPath_blind, fun f => beginWith_of_fails onEnd step ((same f).trans passes)⟩
  | true =>
    by_cases still : (freshHand m step s).dist = 0
    · exact ⟨_, (arriveWith_blind ends (freshHand m step s)).comp (startMove_blind m step),
        fun f => (beginWith_of_passes onEnd step ((same f).trans passes)).trans (if_pos still)⟩
    · exact ⟨_, startMove_blind m step,
        fun f => (beginWith_of_passes onEnd step ((same f).trans passes)).trans (if_neg still)⟩

end

/-- The move-end decision over any queue, each move without length begun in its turn (R81). -/
theorem moveEndFrom_blind (queue : List Move) : ∀ step, FruBlind (moveEndFrom queue step) := by
  have early : ∀ (queue : List Move) (step : Bool) (s : State) (cause : StopCause),
      (∀ f, earlyEnd step (emptyHand (s.refit f)) = some (enterHold cause (emptyHand (s.refit f)))) →
        ∃ p, FruBlind p ∧ ∀ f, moveEndFrom queue step (s.refit f) = p (s.refit f) := by
    intro queue step s cause ends
    refine ⟨_, (enterHold_blind cause).comp emptyHand_blind, fun f => ?_⟩
    cases queue <;> simp only [moveEndFrom, ends]
  induction queue with
  | nil =>
    refine fun step => .picks fun s => ?_
    by_cases held : s.mrk.holdPending = true
    · exact early [] step s .markerHold fun f => earlyEnd_marker held
    · cases step with
      | true => exact early [] true s .stepDone fun f => (if_neg held).trans rfl
      | false =>
        refine ⟨_, (enterHold_blind .queueDrained).comp ((notice_blind .queueDrained 0).comp emptyHand_blind), fun f => ?_⟩
        have goesOn : earlyEnd false (emptyHand (s.refit f)) = none := (if_neg held).trans rfl
        simp only [moveEndFrom, goesOn]
  | cons head rest ih =>
    refine fun step => .picks fun s => ?_
    by_cases held : s.mrk.holdPending = true
    · exact early (head :: rest) step s .markerHold fun f => earlyEnd_marker held
    · cases step with
      | true => exact early (head :: rest) true s .stepDone fun f => (if_neg held).trans rfl
      | false =>
        have goesOn : ∀ f, earlyEnd false (emptyHand (s.refit f)) = none := fun f => (if_neg held).trans rfl
        by_cases tagged : head.tagged = true
        · exact ⟨_, (enterHold_blind .cueReached).comp ((moveNotice_blind .cueReached head).comp emptyHand_blind),
            fun f => by simp only [moveEndFrom, goesOn, if_pos tagged]⟩
        · exact ⟨_, (beginWith_blind (ih false) head false).comp
              ((onPln_blind fun p => { p with queue := rest }).comp emptyHand_blind),
            fun f => by simp only [moveEndFrom, goesOn, if_neg tagged]⟩

theorem moveEnd_blind (step : Bool) : FruBlind (moveEnd step) :=
  .choose (op := fun queue => moveEndFrom queue step) (fun queue => moveEndFrom_blind queue step) (d := fun s => s.pln.queue)
    fun _ _ => rfl

/-! ## Conclusions -/

/-- Entry into HOLD with the stop cause that stands. -/
theorem enterHold_cause_blind {a : State → State} (ha : FruBlind a) : FruBlind fun s => enterHold s.fcu.cause (a s) :=
  .choose (op := fun cause s => enterHold cause (a s)) (fun cause => (enterHold_blind cause).comp ha)
    (d := fun s => s.fcu.cause) fun _ _ => rfl

theorem strikeEnd_blind : FruBlind strikeEnd := (enterHold_blind .wallStrike).comp (flushQueue_blind.comp emptyHand_blind)

theorem stopArrived_blind (m : MoveInHand) : FruBlind (stopArrived m) :=
  (enterHold_cause_blind emptyHand_blind).comp
    (.ite (c := fun _ => m.phase ≠ .abandoned ∧ m.move.notifyDone = true) (moveNotice_blind .moveDone m.move) .still
      fun _ _ => Iff.rfl)

theorem stopRested_blind (m : MoveInHand) : FruBlind (stopRested m) :=
  enterHold_cause_blind (.ite (c := fun _ => m.phase = .abandoned) emptyHand_blind (onPln_blind _) fun _ _ => Iff.rfl)

theorem endAxisStop_blind : FruBlind endAxisStop :=
  enterHold_cause_blind (.ite (notice_blind .streamEnded 0) .still fun _ _ => Iff.rfl)

theorem concludeFollow_blind (played : Vec3) (first : Bool) : FruBlind (concludeFollow played first) :=
  .comp
    (b := fun s => if 1000 * s.env.limits.lagLimit < chebyshev played s.pln.pos then lagEnd s
      else if s.pln.stream.state = .ending ∧ s.pln.stream.samples = [] then endStream s else s)
    (a := fun s => if first = true then notice .streamPlaying 0 s else s)
    (.ite lagEnd_blind (.ite endStream_blind .still fun _ _ => Iff.rfl) fun _ _ => Iff.rfl)
    (.ite (c := fun _ => first = true) (notice_blind .streamPlaying 0) .still fun _ _ => Iff.rfl)

theorem concludePath_blind (kind : SampleKind) (m : MoveInHand) : FruBlind (concludePath kind m) := by
  cases kind with
  | rest | stick | follow | axisStop => exact .still
  | moving => exact .ite (c := fun _ => m.prog = m.dist) (arriveWith_blind (moveEnd_blind _) m) .still fun _ _ => Iff.rfl
  | dwelling => exact .ite (c := fun _ => m.dwellLeft = 0) (moveEnd_blind _) .still fun _ _ => Iff.rfl
  | pathStop =>
    exact .ite (c := fun _ => m.speed = 0) (stopRested_blind m)
      (.ite (c := fun _ => m.prog = m.dist) (stopArrived_blind m) .still fun _ _ => Iff.rfl) fun _ _ => Iff.rfl

/-- A path sample's end, by the clamp or by the move it leaves in hand (R41, R79, R84). -/
theorem concludeHand_blind (kind : SampleKind) (struck : Bool) :
    FruBlind fun s => if struck = true then strikeEnd s else s.pln.inHand.elim s fun m => concludePath kind m s := by
  refine .ite (c := fun _ => struck = true) strikeEnd_blind ?_ fun _ _ => Iff.rfl
  refine .choose (op := fun hand s => hand.elim s fun m => concludePath kind m s) (fun hand => ?_) (d := fun s => s.pln.inHand)
    fun _ _ => rfl
  cases hand with
  | none => exact .still
  | some m => exact concludePath_blind kind m

theorem conclude_blind (kind : SampleKind) (struck : Bool) : FruBlind (conclude kind struck) := by
  cases kind with
  | rest | stick => exact .still
  | follow played first => exact concludeFollow_blind played first
  | axisStop => exact .ite endAxisStop_blind .still fun _ _ => Iff.rfl
  | moving | dwelling | pathStop => exact concludeHand_blind _ struck

/-! ## The sample and the channels' turn -/

/-- The planner's sample (R43). -/
theorem planSample_blind (start : Bool) : FruBlind (planSample start) := by
  refine .picks fun s => ?_
  rcases prepareSample_blind start s with ⟨p, prepares, course⟩ | idle
  · refine ⟨fun s => conclude (p s).kind (p s).struck (p s).commit, ⟨fun u f => ?_, fun u => ?_⟩, fun f => ?_⟩
    · rw [prepares.refit, (commit_blind (p u)).1]
      exact (conclude_blind _ _).refit _ f
    · exact ((prepares.tells u).trans (commit_blind (p u)).2).trans ((conclude_blind _ _).tells _)
    · rw [planSample, course]
  · exact ⟨_, .still, fun f => by rw [planSample, idle]⟩

theorem reportThirdMiss_blind (w : Winch) (before : Channel) : FruBlind (reportThirdMiss w before) :=
  .ite (c := fun _ => before.thirdMiss = false ∨ before.state = .absent) .still
    (.ite (c := fun _ => before.state.lostOnMiss = true) (report_trip_blind rfl (by decide) (winchNumber w) none)
      (notice_blind .driveAbsent (winchNumber w)) fun _ _ => Iff.rfl) fun _ _ => Iff.rfl

/-- The channels' part of a servo event (R155, R157, R166). -/
theorem runChannels_blind : FruBlind runChannels :=
  .choose
    (op := fun (before : Quad Channel) s =>
      reportThirdMiss .w4 (before.get (winchIndex .w4)) (reportThirdMiss .w3 (before.get (winchIndex .w3))
        (reportThirdMiss .w2 (before.get (winchIndex .w2)) (reportThirdMiss .w1 (before.get (winchIndex .w1))
          (onAllChans (fun c => c.close.send) s)))))
    (fun _ => (reportThirdMiss_blind .w4 _).comp ((reportThirdMiss_blind .w3 _).comp ((reportThirdMiss_blind .w2 _).comp
      ((reportThirdMiss_blind .w1 _).comp (.of_quiet (fun _ _ => rfl) (fun _ => rfl) fun _ => rfl)))))
    (d := fun s => s.ch.chans) fun _ _ => rfl

end Sys2Proof.Machine
end

section
/-! FRU's own turn at a servo event (R139, R143, R144, R147, R149, R150): the schedule and the snapshot by the reference state,
FRAME_POSE among the notices of the event, and what SERVO_EVENT leaves of FRU. -/

namespace Sys2Proof.Machine

open Sys2Proof

/-! ## The schedule -/

/-- The time of the next servo event, its frame index given (R139, R143). -/
def Fru.nextTime (next : Nat) (f : Fru) : Option Nat :=
  match f.ref with
  | .pulling => some (f.now + pulledInterval f.timing.ts (min f.pullLeft (f.timing.ts / 50)) f.pullDir)
  | .locked => if next = 0 then none else some (f.now + f.timing.ts)
  | _ => some (f.now + f.timing.ts)

/-- What a servo event leaves of a pull's remainder (R143). -/
def Fru.nextLeft (f : Fru) : Nat := if f.ref = .pulling then f.pullLeft - min f.pullLeft (f.timing.ts / 50) else f.pullLeft

/-- FRU after a servo event of a frame index: at the exhausted count FREE_RUN and no frame start, else the schedule of the
reference state (R139, R143, R147). -/
def Fru.renewed (index : Nat) (f : Fru) : Fru :=
  if 4294967295 ≤ f.frames then
    { f with
      ref := .freeRun, frameIndex := 1, nextEvent := some (f.now + f.timing.ts), lastRef := none, good := 0, miss := 0
      pullDir := none, pullLeft := 0 }
  else
    { f with
      frameIndex := (index + 1) % f.timing.n, nextEvent := f.nextTime ((index + 1) % f.timing.n), pullLeft := f.nextLeft }

/-- The schedule, whole (R139, R143, R147). -/
theorem schedule_settled_eq (index : Nat) (s : State) :
    schedule index (settleExhaustion s) = { s with fru := s.fru.renewed index } := by
  by_cases full : 4294967295 ≤ s.fru.frames
  · have out : exhausted s = true := (exhausted_iff s).mpr full
    have stays : exhausted (settleExhaustion s) = true := by
      rw [settleExhaustion, if_pos out]
      exact out
    rw [schedule, if_pos stays, settleExhaustion, if_pos out, Fru.renewed, if_pos full]
    rfl
  · have counts : ¬ exhausted s = true := fun out => full ((exhausted_iff s).mp out)
    rw [settleExhaustion, if_neg counts, schedule, if_neg counts, Fru.renewed, if_neg full]
    cases ref : s.fru.ref <;> simp only [State.onFru, Fru.nextTime, Fru.nextLeft, ref] <;> rfl

section
variable {f : Fru} (index : Nat)

theorem Fru.renewed_full (full : 4294967295 ≤ f.frames) :
    f.renewed index =
      { f with
        ref := .freeRun, frameIndex := 1, nextEvent := some (f.now + f.timing.ts), lastRef := none, good := 0, miss := 0
        pullDir := none, pullLeft := 0 } := if_pos full

theorem Fru.renewed_counting (counts : f.frames < 4294967295) :
    f.renewed index =
      { f with
        frameIndex := (index + 1) % f.timing.n, nextEvent := f.nextTime ((index + 1) % f.timing.n), pullLeft := f.nextLeft } :=
  if_neg (Nat.not_le.mpr counts)

variable (f)

@[simp] theorem Fru.renewed_now : (f.renewed index).now = f.now := by unfold Fru.renewed; split <;> rfl

@[simp] theorem Fru.renewed_frames : (f.renewed index).frames = f.frames := by unfold Fru.renewed; split <;> rfl

@[simp] theorem Fru.renewed_timing : (f.renewed index).timing = f.timing := by unfold Fru.renewed; split <;> rfl

/-- The reference state stands but at the exhausted count (R147). -/
theorem Fru.renewed_ref : (f.renewed index).ref = if 4294967295 ≤ f.frames then .freeRun else f.ref := by
  unfold Fru.renewed; split <;> rfl

/-- The schedule does not look at the one before it. -/
theorem Fru.renewed_reschedule (i : Nat) (e : Option Nat) :
    Fru.renewed index { f with frameIndex := i, nextEvent := e } = f.renewed index := by
  unfold Fru.renewed
  split <;> rfl

end

theorem Fru.nextTime_free {f : Fru} (next : Nat) (h : f.ref = .freeRun ∨ f.ref = .acquiring) :
    f.nextTime next = some (f.now + f.timing.ts) := by
  rcases h with h | h <;> simp only [Fru.nextTime, h]

theorem Fru.nextTime_locked {f : Fru} (next : Nat) (h : f.ref = .locked) :
    f.nextTime next = if next = 0 then none else some (f.now + f.timing.ts) := by
  simp only [Fru.nextTime, h]

theorem Fru.nextTime_pulling {f : Fru} (next : Nat) (h : f.ref = .pulling) {dir : PullDir} (hd : f.pullDir = some dir) :
    f.nextTime next = some (f.now +
      if dir = .shorten then f.timing.ts - min f.pullLeft (f.timing.ts / 50)
      else f.timing.ts + min f.pullLeft (f.timing.ts / 50)) := by
  simp only [Fru.nextTime, h, hd]
  cases dir <;> rfl

theorem Fru.nextLeft_pulling {f : Fru} (h : f.ref = .pulling) :
    f.nextLeft = f.pullLeft - min f.pullLeft (f.timing.ts / 50) := if_pos h

theorem Fru.nextLeft_steady {f : Fru} (h : f.ref ≠ .pulling) : f.nextLeft = f.pullLeft := if_neg h

/-! ## The turn of FRU, and FRAME_POSE -/

/-- The snapshot taken of a state (R149). -/
def State.pose (s : State) (stale : Quad Bool) : Snapshot :=
  ⟨s.fru.frames, commandedPosition s, s.ch.chans.map fun c => c.last.length, s.ch.chans.map fun c => c.last.tension, stale,
    s.fru.ref⟩

/-- FRU's turn once its own step at the event is taken: the schedule, the instant and the snapshot (R139, R149). -/
def State.concluded (index : Nat) (stale : Quad Bool) (s : State) : State :=
  let f := { s.fru.renewed index with lastServo := s.fru.now }
  { s with fru := { f with snapshot := State.pose { s with fru := f } stale } }

/-- The sample and the channels' turn of a servo event. -/
def servoRan (index : Nat) (s : State) : State :=
  runChannels (planSample (decide (index = 0)) (countFrame (decide (index = 0)) s))

/-- A servo event but for FRAME_POSE. -/
def servoTurn (index : Nat) (fruStep : State → State) (s : State) : State :=
  (fruStep (servoRan index s)).concluded index (staleFlags s)

theorem finishServo_eq (index : Nat) (stale : Quad Bool) (fruStep : State → State) (s : State) :
    finishServo index stale fruStep s = (fruStep (runChannels s)).concluded index stale := by
  unfold finishServo
  rw [schedule_settled_eq]
  unfold State.concluded renewSnapshot
  dsimp only [State.onFru]
  rw [Fru.renewed_now]
  rfl

/-- A servo event, whole (R139, R150). -/
theorem raiseServo_eq (index : Nat) (fruStep : State → State) (s : State) :
    raiseServo index fruStep s =
      if index = 0 then handFramePose (servoTurn index fruStep s) else servoTurn index fruStep s := by
  unfold raiseServo
  simp only [finishServo_eq, decide_eq_true_eq]
  rfl

/-- FRAME_POSE enters the notices of its event at some place and changes nothing else (R150; log 6). -/
theorem handFramePose_eq (s : State) :
    ∃ (before after : List Handed) (n : Nat), s.link.handed = before ++ after ∧
      handFramePose s =
        { s with
          link := { s.link with handed := before ++ ⟨.framePose, .framePose s.fru.snapshot⟩ :: after }, freeCount := n } := by
  unfold handFramePose
  dsimp only
  split
  · exact ⟨_, _, _, (List.take_append_drop _ _).symm, rfl⟩
  · exact ⟨s.link.handed, [], s.freeCount, (List.append_nil _).symm, rfl⟩

/-! ## What the sample and the channels leave of FRU -/

/-- FRU with the frame counted at frame index 0, until the count is exhausted (R147). -/
def Fru.counted (index : Nat) (f : Fru) : Fru :=
  { f with frames := if index = 0 ∧ f.frames < 4294967295 then f.frames + 1 else f.frames }

/-- Of FRU the sample and the channels' turn change nothing but the count (R147). -/
theorem servoRan_fru (index : Nat) (s : State) : (servoRan index s).fru = s.fru.counted index := by
  obtain ⟨-, -, ran, -⟩ := runChannels_keeps (planSample (decide (index = 0)) (countFrame (decide (index = 0)) s))
  obtain ⟨-, planned, -⟩ := planSample_keeps (decide (index = 0)) (countFrame (decide (index = 0)) s)
  rw [servoRan, ran, planned, countFrame_eq]
  unfold Fru.counted
  simp only [decide_eq_true_eq]
  split <;> rfl

theorem countFrame_blind (start : Bool) : FruBlind (countFrame start) := by
  have counts : countFrame start = fun s =>
      if start = true ∧ s.fru.frames < 4294967295 then { s with fru := { s.fru with frames := s.fru.frames + 1 } } else s :=
    funext (countFrame_eq start)
  rw [counts]
  exact .ite (.of_quiet (fun _ _ => rfl) (fun _ => rfl) fun _ => rfl) .still fun _ _ => Iff.rfl

theorem servoRan_blind (index : Nat) : FruBlind (servoRan index) :=
  runChannels_blind.comp ((planSample_blind _).comp (countFrame_blind _))

/-! ## The servo event -/

/-- FRU where a pull with nothing left completes (R144). -/
def Fru.pulled (f : Fru) : Fru :=
  if f.ref = .pulling ∧ f.pullLeft = 0 then { f with ref := .locked, miss := 0, pullDir := none } else f

theorem completePull_fru (s : State) : (completePull s).fru = s.fru.pulled := by
  unfold completePull Fru.pulled
  split <;> rfl

theorem completePull_tells (s : State) : s.Tells (completePull s) := by
  unfold completePull
  split
  · exact State.Tells.trans (t := s.onFru fun f => { f with ref := .locked, miss := 0, pullDir := none }) (.of_blocks rfl rfl)
      ((notice_blind .referenceLocked 1).tells _)
  · exact .refl s

@[simp] theorem Fru.pulled_now (f : Fru) : f.pulled.now = f.now := by unfold Fru.pulled; split <;> rfl

@[simp] theorem Fru.pulled_frames (f : Fru) : f.pulled.frames = f.frames := by unfold Fru.pulled; split <;> rfl

@[simp] theorem Fru.pulled_timing (f : Fru) : f.pulled.timing = f.timing := by unfold Fru.pulled; split <;> rfl

theorem Fru.pulled_done {f : Fru} (h : f.ref = .pulling) (hl : f.pullLeft = 0) :
    f.pulled = { f with ref := .locked, miss := 0, pullDir := none } := if_pos ⟨h, hl⟩

theorem Fru.pulled_left {f : Fru} (hl : 0 < f.pullLeft) : f.pulled = f := if_neg fun h => hl.ne' h.2

theorem Fru.pulled_steady {f : Fru} (h : f.ref ≠ .pulling) : f.pulled = f := if_neg fun k => h k.1

/-- The state a servo event leaves before its notices are copied. -/
def servoLeft (index : Nat) (fruStep : State → State) (s : State) : State :=
  if index = 0 then handFramePose (servoTurn index fruStep s) else servoTurn index fruStep s

theorem servoLeft_sameBlocks (index : Nat) (fruStep : State → State) (s : State) :
    (servoTurn index fruStep s).SameBlocks (servoLeft index fruStep s) := by
  unfold servoLeft
  split
  · exact handFramePose_sameBlocks _
  · exact ⟨rfl, rfl, rfl, rfl, rfl, rfl, rfl⟩

theorem servoLeft_fru (index : Nat) (fruStep : State → State) (s : State) :
    (servoLeft index fruStep s).fru = (servoTurn index fruStep s).fru := by
  unfold servoLeft
  split
  · exact handFramePose_fru _
  · rfl

theorem exec_servoEvent_left {s : State} {due : Nat} (h : s.fru.nextEvent = some due) :
    exec .servoEvent s = .next (deliver (servoLeft s.fru.frameIndex completePull (advanceTo due s))) := by
  rw [exec_servoEvent h, raiseServo_eq]
  rfl

end Sys2Proof.Machine
end

section
/-! What a servo event counts, schedules, snapshots and hands over (R138, R139, R143, R144, R147, R149, R150). -/

namespace Sys2Proof.Machine

open Sys2Proof

theorem handFramePose_keeps_ch (s : State) : (handFramePose s).ch = s.ch := by
  obtain ⟨_, _, _, -, handed⟩ := handFramePose_eq s
  rw [handed]

theorem State.SameBlocks.commandedPosition {s t : State} (h : s.SameBlocks t) :
    commandedPosition t = Machine.commandedPosition s := by
  unfold Machine.commandedPosition
  rw [h.fcu, h.pln, h.flt]

/-- The snapshot a state would take looks at the position, FRU and the channels alone. -/
theorem State.SameBlocks.pose {s t : State} (h : s.SameBlocks t) (fru : t.fru = s.fru) (ch : t.ch = s.ch) (stale : Quad Bool) :
    t.pose stale = s.pose stale := by
  unfold State.pose
  rw [fru, ch, h.commandedPosition]

theorem servoLeft_ch (index : Nat) (fruStep : State → State) (s : State) :
    (servoLeft index fruStep s).ch = (servoTurn index fruStep s).ch := by
  unfold servoLeft
  split
  · exact handFramePose_keeps_ch _
  · rfl

/-- The snapshot of a servo event is that of the state it leaves (R149; log 14). -/
theorem servoLeft_snapshot (index : Nat) (fruStep : State → State) (s : State) :
    (servoLeft index fruStep s).fru.snapshot = (servoLeft index fruStep s).pose (staleFlags s) := by
  rw [(servoLeft_sameBlocks index fruStep s).pose (servoLeft_fru ..) (servoLeft_ch ..), servoLeft_fru]
  rfl

/-- What a servo event tells LINK before FRAME_POSE, where FRU's own step tells no FRAME_POSE either. -/
theorem servoTurn_tells {index : Nat} {fruStep : State → State} (s : State)
    (step : ∀ u : State, u.Tells (fruStep u)) : s.Tells (servoTurn index fruStep s) :=
  ((((servoRan_blind index).tells s).trans (step _)).trans (.of_blocks rfl rfl))

/-- A pull that completes hands over REFERENCE_LOCKED with detail 1 (R144). -/
theorem servoTurn_locks {index : Nat} {s : State} (pulls : s.fru.ref = .pulling) (done : s.fru.pullLeft = 0) :
    (⟨.subscribers .timing, .notice .referenceLocked 1⟩ : Handed) ∈ (servoTurn index completePull s).link.handed := by
  have completes : (servoRan index s).fru.ref = .pulling ∧ (servoRan index s).fru.pullLeft = 0 := by
    rw [servoRan_fru]
    exact ⟨pulls, done⟩
  unfold servoTurn completePull
  rw [if_pos completes]
  exact List.mem_append_right _ (List.mem_singleton.mpr rfl)

/-- FRU's record with the instant of the servo event and its snapshot (R149). -/
def Fru.stamped (snapshot : Snapshot) (f : Fru) : Fru := { f with lastServo := f.now, snapshot := snapshot }

theorem State.concluded_fru (index : Nat) (stale : Quad Bool) (s : State) :
    (s.concluded index stale).fru = (s.fru.renewed index).stamped (s.concluded index stale).fru.snapshot := by
  unfold State.concluded Fru.stamped
  dsimp only
  rw [Fru.renewed_now]

/-- FRU after the servo event of its own schedule, from its record at the present time with the frame counted (R139, R143,
R144, R147, R149). -/
def Fru.served (index : Nat) (snapshot : Snapshot) (f : Fru) : Fru := (f.pulled.renewed index).stamped snapshot

theorem servoLeft_completePull_fru (index : Nat) (s : State) :
    (servoLeft index completePull s).fru =
      (s.fru.counted index).served index (servoLeft index completePull s).fru.snapshot := by
  have own : (completePull (servoRan index s)).fru = (s.fru.counted index).pulled := by rw [completePull_fru, servoRan_fru]
  rw [servoLeft_fru, Fru.served, ← own]
  exact State.concluded_fru ..

section
variable (index : Nat) (snapshot : Snapshot) (f : Fru)

@[simp] theorem Fru.served_now : (f.served index snapshot).now = f.now := (Fru.renewed_now ..).trans (Fru.pulled_now f)

@[simp] theorem Fru.served_lastServo : (f.served index snapshot).lastServo = f.now := Fru.served_now index snapshot f

@[simp] theorem Fru.served_timing : (f.served index snapshot).timing = f.timing :=
  (Fru.renewed_timing ..).trans (Fru.pulled_timing f)

@[simp] theorem Fru.served_frames : (f.served index snapshot).frames = f.frames :=
  (Fru.renewed_frames ..).trans (Fru.pulled_frames f)

variable {f}

/-- The servo event at which the count is exhausted, and every later one (R147; log 13). -/
theorem Fru.served_full (full : 4294967295 ≤ f.frames) :
    f.served index snapshot =
      { f with
        ref := .freeRun, frameIndex := 1, nextEvent := some (f.now + f.timing.ts), lastRef := none, good := 0, miss := 0
        pullDir := none, pullLeft := 0, lastServo := f.now, snapshot := snapshot } := by
  rw [Fru.served, Fru.renewed_full _ (by rwa [Fru.pulled_frames])]
  unfold Fru.pulled
  split <;> rfl

variable (counts : f.frames < 4294967295)
include counts

/-- In FREE_RUN, ACQUIRING and LOCKED the index and the next event's time alone are new (R139). -/
theorem Fru.served_steady (h : f.ref ≠ .pulling) :
    f.served index snapshot =
      { f with
        frameIndex := (index + 1) % f.timing.n, nextEvent := f.nextTime ((index + 1) % f.timing.n), lastServo := f.now
        snapshot := snapshot } := by
  rw [Fru.served, Fru.pulled_steady h, Fru.renewed_counting _ counts, Fru.nextLeft_steady h]
  rfl

/-- A pull with nothing left is LOCKED before the schedule (R144). -/
theorem Fru.served_completes (h : f.ref = .pulling) (hl : f.pullLeft = 0) :
    f.served index snapshot =
      { f with
        ref := .locked, frameIndex := (index + 1) % f.timing.n
        nextEvent := if (index + 1) % f.timing.n = 0 then none else some (f.now + f.timing.ts)
        miss := 0, pullDir := none, lastServo := f.now, snapshot := snapshot } := by
  have schedule := Fru.renewed_counting (f := { f with ref := .locked, miss := 0, pullDir := none }) index counts
  rw [Fru.served, Fru.pulled_done h hl, schedule, Fru.nextLeft_steady (show RefState.locked ≠ .pulling by decide),
    Fru.nextTime_locked _ rfl]
  rfl

/-- A pull with something left goes on by at most its step (R143). -/
theorem Fru.served_pulls (h : f.ref = .pulling) (hl : 0 < f.pullLeft) :
    f.served index snapshot =
      { f with
        frameIndex := (index + 1) % f.timing.n, nextEvent := f.nextTime ((index + 1) % f.timing.n)
        pullLeft := f.pullLeft - min f.pullLeft (f.timing.ts / 50), lastServo := f.now, snapshot := snapshot } := by
  rw [Fru.served, Fru.pulled_left hl, Fru.renewed_counting _ counts, Fru.nextLeft_pulling h]
  rfl

/-- Before the exhaustion the index runs on, and the last reference instant and the good intervals stand (R139). -/
theorem Fru.served_counting :
    (f.served index snapshot).frameIndex = (index + 1) % f.timing.n ∧ (f.served index snapshot).lastRef = f.lastRef ∧
      (f.served index snapshot).good = f.good := by
  by_cases h : f.ref = .pulling
  · by_cases hl : f.pullLeft = 0
    · rw [Fru.served_completes index snapshot counts h hl]
      exact ⟨rfl, rfl, rfl⟩
    · rw [Fru.served_pulls index snapshot counts h (Nat.pos_of_ne_zero hl)]
      exact ⟨rfl, rfl, rfl⟩
  · rw [Fru.served_steady index snapshot counts h]
    exact ⟨rfl, rfl, rfl⟩

end

/-- Settles O42: FRU's record by the reference state, the snapshot, and FRAME_POSE among the notices. -/
theorem servoEventSchedules : Obligations.ServoEventSchedules := by
  refine ⟨fun s untimed unhanded => ?_, fun s due timed => ?_, handFramePose_eq⟩
  · show execServoEvent s = _
    simp only [execServoEvent, untimed]
    exact done_of_none unhanded
  · have left := servoLeft_completePull_fru s.fru.frameIndex (advanceTo due s)
    have snapped := servoLeft_snapshot s.fru.frameIndex completePull (advanceTo due s)
    have told := servoTurn_tells (index := s.fru.frameIndex) (advanceTo due s) completePull_tells
    refine ⟨_, exec_servoEvent_left timed, ?_⟩
    generalize (servoLeft s.fru.frameIndex completePull (advanceTo due s)).fru.snapshot = snapshot at left
    generalize hb : (advanceTo due s).fru.counted s.fru.frameIndex = b at left
    have left : (deliver (servoLeft s.fru.frameIndex completePull (advanceTo due s))).fru =
      b.served s.fru.frameIndex snapshot := left
    intro f now ts counts full next soon
    have frames : b.frames = if counts then f.frames + 1 else f.frames := by rw [← hb]; rfl
    have same : b.now = now ∧ b.timing = f.timing ∧ b.ref = f.ref ∧ b.lastRef = f.lastRef ∧ b.good = f.good ∧
        b.miss = f.miss ∧ b.pullDir = f.pullDir ∧ b.pullLeft = f.pullLeft := by
      rw [← hb]
      exact ⟨rfl, rfl, rfl, rfl, rfl, rfl, rfl, rfl⟩
    obtain ⟨instant, timing, ref, lastRef, good, miss, pullDir, pullLeft⟩ := same
    have full_iff : full ↔ 4294967295 ≤ b.frames := by
      rw [← Fru.served_frames s.fru.frameIndex snapshot b, ← left]
    rw [left]
    refine ⟨(Fru.served_now _ _ b).trans instant, (Fru.served_lastServo _ _ b).trans instant,
      (Fru.served_timing _ _ b).trans timing, fun h => ?_, fun h => ?_, fun h => ?_, fun h => ?_, ?_, fun unhanded => ?_⟩
    · rw [Fru.served_frames, frames, if_pos h]
    · rw [Fru.served_frames, frames, if_neg h]
    · rw [Fru.served_full _ _ (full_iff.mp h)]
      exact ⟨rfl, rfl, by rw [instant, timing], rfl, rfl, rfl, rfl, rfl⟩
    · have counting : b.frames < 4294967295 := Nat.not_le.mp fun k => h (full_iff.mpr k)
      obtain ⟨stepped, sameRef, sameGood⟩ := Fru.served_counting s.fru.frameIndex snapshot counting
      refine ⟨stepped.trans (by rw [timing]), sameRef.trans lastRef, sameGood.trans good, fun h => ?_, fun h => ?_,
        fun h hl => ?_, fun h hl => ?_⟩
      · have free : b.ref = .freeRun ∨ b.ref = .acquiring := by rwa [ref]
        rw [Fru.served_steady _ _ counting (by rcases free with k | k <;> rw [k] <;> decide), Fru.nextTime_free _ free]
        exact ⟨ref, by rw [instant, timing], miss, pullDir, pullLeft⟩
      · have locked : b.ref = .locked := ref.trans h
        rw [Fru.served_steady _ _ counting (by rw [locked]; decide), Fru.nextTime_locked _ locked]
        exact ⟨locked, by rw [instant, timing], miss, pullDir, pullLeft⟩
      · rw [Fru.served_completes _ _ counting (ref.trans h) (pullLeft.trans hl)]
        exact ⟨rfl, rfl, rfl, pullLeft.trans hl, by rw [instant, timing]⟩
      · rw [Fru.served_pulls _ _ counting (ref.trans h) (by rwa [pullLeft])]
        refine ⟨ref.trans h, miss, pullDir, by rw [pullLeft, timing], fun dir hd => ?_⟩
        have next := Fru.nextTime_pulling ((s.fru.frameIndex + 1) % b.timing.n) (ref.trans h) (pullDir.trans hd)
        refine next.trans ?_
        rw [instant, timing, pullLeft]
    · rw [← left]
      exact snapped
    · refine ⟨servoTurn s.fru.frameIndex completePull (advanceTo due s), rfl,
        (servoLeft_fru s.fru.frameIndex completePull (advanceTo due s)).symm.trans left, told.link, fun x new => ?_,
        fun _ pulls done => servoTurn_locks pulls done⟩
      exact (told.news x new).resolve_left (by rw [advanceTo_handed, unhanded]; exact List.not_mem_nil)

end Sys2Proof.Machine
end

section
/-! Frame starts that no servo event of FRU's schedule raises: each is the servo event of frame index 0 timed at its instant,
whatever the schedule before it (R139, R145, R146); then silence and the close of a window (R141, R144, R146). -/

namespace Sys2Proof.Machine

open Sys2Proof

/-! ## The schedule before a frame start -/

/-- A state with another schedule. -/
def State.rescheduled (s : State) (index : Nat) (next : Option Nat) : State :=
  { s with fru := { s.fru with frameIndex := index, nextEvent := next } }

theorem concluded_rescheduled (index i : Nat) (e : Option Nat) (stale : Quad Bool) (s : State) :
    (s.rescheduled i e).concluded index stale = s.concluded index stale := by
  unfold State.concluded State.rescheduled
  dsimp only
  rw [Fru.renewed_reschedule]

theorem servoRan_rescheduled (index i : Nat) (e : Option Nat) (s : State) :
    servoRan index (s.rescheduled i e) = (servoRan index s).rescheduled i e := by
  refine ((servoRan_blind index).refit s { s.fru with frameIndex := i, nextEvent := e }).trans ?_
  unfold State.refit State.rescheduled
  rw [servoRan_fru]
  rfl

theorem completePull_steady {s : State} (h : s.fru.ref ≠ .pulling) : completePull s = s := if_neg fun k => h k.1

/-- In LOCKED a servo event does the same under any schedule, where FRU's own step at it does nothing. -/
theorem servoTurn_rescheduled {s : State} (locked : s.fru.ref = .locked) (index i : Nat) (e : Option Nat) :
    servoTurn index completePull (s.rescheduled i e) = servoTurn index (fun u => u) s := by
  have steady : completePull (servoRan index (s.rescheduled i e)) = (servoRan index s).rescheduled i e := by
    rw [servoRan_rescheduled, completePull_steady]
    show (servoRan index s).fru.ref ≠ .pulling
    rw [servoRan_fru]
    exact locked ▸ (by decide : RefState.locked ≠ .pulling)
  unfold servoTurn
  rw [steady, concluded_rescheduled]
  rfl

/-- The servo event of frame index 0 at its time (R139, R150). -/
theorem exec_servoEvent_frame {s : State} {due : Nat} (index : s.fru.frameIndex = 0) (timed : s.fru.nextEvent = some due) :
    exec .servoEvent s = .next (deliver (handFramePose (servoTurn 0 completePull (advanceTo due s)))) := by
  rw [exec_servoEvent_left timed, index]
  rfl

theorem raiseServo_frame (fruStep : State → State) (s : State) :
    raiseServo 0 fruStep s = handFramePose (servoTurn 0 fruStep s) := raiseServo_eq 0 fruStep s

/-- The later of an instant and the present time is reached as the instant itself (log 3). -/
theorem advanceTo_max (t : Nat) (s : State) : advanceTo (max s.fru.now t) s = advanceTo t s := by
  have gone : max s.fru.now t - s.fru.now = t - s.fru.now := by omega
  have reached : max s.fru.now (max s.fru.now t) = max s.fru.now t := by omega
  unfold advanceTo
  simp only [gone, State.onFru]
  show ({ passTime _ s with fru := { s.fru with now := max s.fru.now (max s.fru.now t) } } : State) = _
  rw [reached]
  rfl

/-! ## What a frame start leaves -/

/-- The snapshot a servo event takes, from the state FRU's own step leaves (R147, R149; log 14). -/
theorem concluded_snapshot (index : Nat) (stale : Quad Bool) (s : State) :
    (s.concluded index stale).fru.snapshot =
      ⟨s.fru.frames, commandedPosition s, s.ch.chans.map fun c => c.last.length, s.ch.chans.map fun c => c.last.tension, stale,
        if 4294967295 ≤ s.fru.frames then .freeRun else s.fru.ref⟩ := by
  rw [← Fru.renewed_ref s.fru index, ← Fru.renewed_frames s.fru index]
  rfl

theorem framePose_handed (s : State) :
    (⟨.framePose, .framePose s.fru.snapshot⟩ : Handed) ∈ (handFramePose s).link.handed := by
  obtain ⟨before, after, n, -, eq⟩ := handFramePose_eq s
  rw [eq]
  simp

/-- FRAME_POSE leaves every other notice of its event handed over. -/
theorem handed_handFramePose {s : State} {h : Handed} (told : h ∈ s.link.handed) : h ∈ (handFramePose s).link.handed := by
  obtain ⟨before, after, n, split, eq⟩ := handFramePose_eq s
  rw [split] at told
  rw [eq]
  exact List.mem_append.mpr ((List.mem_append.mp told).imp_right (List.mem_cons_of_mem _))

/-! ## The reference lost -/

theorem State.SameButFlags.commandedPosition {s t : State} (h : s.SameButFlags t) :
    commandedPosition t = Machine.commandedPosition s := by
  obtain ⟨fcu, pln, -, -, -, -, -, -, -, -, trip, -⟩ := h
  unfold Machine.commandedPosition
  rw [fcu, pln, trip]

/-- FRU without its reference (R141, R144, R146). -/
def Fru.unreferenced (f : Fru) : Fru :=
  { f with ref := .freeRun, lastRef := none, good := 0, miss := 0, pullDir := none, pullLeft := 0 }

/-- An occurrence of REFERENCE_LOST on the flags (R183). -/
theorem referenceLost_flt (s : State) :
    (report .referenceLost 0 none s).flt = (s.setFlag .referenceLost ((s.flag .referenceLost).occur 0)).flt := by
  have code : Flag.noticeCode .referenceLost = some .referenceLost := rfl
  simp only [report, code]
  split <;> rfl

/-- The notice of REFERENCE_LOST, sent where the flag was clear (R184). -/
theorem referenceLost_handed {s : State} (clear : (s.flag .referenceLost).set = false) :
    (⟨.subscribers .timing, .notice .referenceLost 0⟩ : Handed) ∈ (report .referenceLost 0 none s).link.handed := by
  have code : Flag.noticeCode .referenceLost = some .referenceLost := rfl
  simp only [report, code]
  rw [if_neg (by rw [clear]; decide)]
  exact List.mem_append_right _ (List.mem_singleton.mpr rfl)

theorem loseReference_sameButFlags (s : State) : State.SameButFlags { s with fru := s.fru.unreferenced } (loseReference s) :=
  report_sameButFlags rfl 0 none _

theorem loseReference_fru (s : State) : (loseReference s).fru = s.fru.unreferenced := by
  obtain ⟨-, -, -, -, -, fru, -⟩ := loseReference_sameButFlags s
  exact fru

/-- A window's close loses the lock at the second miss alone (R146). -/
theorem closeMiss_fru (s : State) : (closeMiss s).fru = if 2 ≤ s.fru.miss then s.fru.unreferenced else s.fru := by
  unfold closeMiss
  split
  · exact loseReference_fru s
  · rfl

/-! ## Silence -/

theorem silenceInstant_of {f : Fru} {last : Nat} (h : f.lastRef = some last) :
    silenceInstant f = last + 2 * (f.timing.n * f.timing.ts) := by
  rw [silenceInstant, h]
  rfl

/-! ## The close of a window -/

/-- The state in which the close of a window raises its frame start (R146). -/
def State.missed (s : State) (last : Nat) : State :=
  s.onFru fun f => { f with lastRef := some (last + framePeriod f.timing), miss := f.miss + 1 }

/-- The close of an open window, at its instant (R146; log 3, log 28). -/
theorem exec_windowClose_due {s : State} {last : Nat} (locked : s.fru.ref = .locked) (ref : s.fru.lastRef = some last)
    (due : closeInstant last s.fru ≤ s.fru.horizon) :
    exec .windowClose s = .next (deliver (handFramePose
      (servoTurn 0 closeMiss ((advanceTo (closeInstant last s.fru) s).missed last)))) := by
  show execWindowClose s = _
  simp only [execWindowClose, locked, ref, atInstant_due due]
  rw [windowClose, raiseServo_frame]
  rfl

/-- The servo event of frame index 0 timed at a window's close runs from the same state, but for the schedule. -/
theorem exec_servoEvent_missed {s : State} {last : Nat} (locked : s.fru.ref = .locked) :
    exec .servoEvent
      { s with
        fru :=
          { s.fru with
            frameIndex := 0, nextEvent := some (max s.fru.now (closeInstant last s.fru))
            lastRef := some (last + framePeriod s.fru.timing), miss := s.fru.miss + 1 } } =
      .next (deliver (handFramePose
        (servoTurn 0 (fun u => u) ((advanceTo (closeInstant last s.fru) s).missed last)))) := by
  have turn := servoTurn_rescheduled (s := (advanceTo (closeInstant last s.fru) s).missed last) locked 0 0
    (some (max s.fru.now (closeInstant last s.fru)))
  rw [exec_servoEvent_frame rfl rfl, ← turn, ← advanceTo_max (closeInstant last s.fru) s]
  rfl

/-- FRU's record at a window's close: the frame counted, and the reference lost at the second miss (R146). -/
def Fru.closing (last : Nat) (f : Fru) : Fru :=
  let missed := { f with lastRef := some (last + framePeriod f.timing), miss := f.miss + 1 }
  if 1 ≤ f.miss then (missed.counted 0).unreferenced else missed.counted 0

theorem closeMiss_missed_fru (s : State) (last : Nat) :
    (closeMiss (servoRan 0 (s.missed last))).fru = s.fru.closing last := by
  rw [closeMiss_fru, servoRan_fru]
  unfold Fru.closing
  show (if 2 ≤ s.fru.miss + 1 then _ else _) = _
  simp only [Nat.reduceLeDiff]
  rfl

theorem windowClose_fru (s : State) (last : Nat) :
    ∃ snapshot, (handFramePose (servoTurn 0 closeMiss (s.missed last))).fru =
      ((s.fru.closing last).renewed 0).stamped snapshot := by
  rw [handFramePose_fru, ← closeMiss_missed_fru]
  exact ⟨_, State.concluded_fru ..⟩

section
variable (last : Nat) {f : Fru}

/-- The first miss keeps the lock (R146). -/
theorem Fru.closing_first (miss : f.miss = 0) :
    f.closing last = Fru.counted 0 { f with lastRef := some (last + framePeriod f.timing), miss := 1 } := by
  refine (if_neg (by rw [miss]; decide)).trans ?_
  rw [miss]

/-- The second miss loses it (R146). -/
theorem Fru.closing_second (miss : 1 ≤ f.miss) : f.closing last = (f.counted 0).unreferenced := if_pos miss

variable (f)

@[simp] theorem Fru.closing_now : (f.closing last).now = f.now := by unfold Fru.closing; dsimp only; split <;> rfl

@[simp] theorem Fru.closing_timing : (f.closing last).timing = f.timing := by unfold Fru.closing; dsimp only; split <;> rfl

theorem Fru.closing_frames :
    (f.closing last).frames = if f.frames < 4294967295 then f.frames + 1 else f.frames := by
  have counted : ∀ g : Fru, (g.counted 0).frames = if g.frames < 4294967295 then g.frames + 1 else g.frames := fun g => by
    simp only [Fru.counted, true_and]
  unfold Fru.closing
  dsimp only
  split <;> exact counted _

end

/-- At the second miss the frame start is taken with the reference lost, and REFERENCE_LOST follows the event's other
notices (R146; log 14). -/
theorem servoTurn_closeMiss_lost {s : State} (miss : 2 ≤ s.fru.miss) :
    servoTurn 0 closeMiss s = (loseReference (servoRan 0 s)).concluded 0 (staleFlags s) := by
  have lost : closeMiss (servoRan 0 s) = loseReference (servoRan 0 s) := if_pos (by rw [servoRan_fru]; exact miss)
  rw [servoTurn, lost]

theorem servoTurn_closeMiss_first {s : State} (miss : s.fru.miss < 2) :
    servoTurn 0 closeMiss s = servoTurn 0 (fun u => u) s := by
  have stands : closeMiss (servoRan 0 s) = servoRan 0 s := if_neg (by rw [servoRan_fru]; exact Nat.not_le.mpr miss)
  rw [servoTurn, servoTurn, stands]

/-- The frame start of the second miss against the one without the loss: FLT and the reference state alone differ. -/
structure State.LosesReference (u v : State) : Prop where
  fcu : v.fcu = u.fcu
  pln : v.pln = u.pln
  env : v.env = u.env
  mrk : v.mrk = u.mrk
  ch : v.ch = u.ch
  sto : v.sto = u.sto
  flt : v.flt = (report .referenceLost 0 none u).flt
  snapshot : v.fru.snapshot = { u.fru.snapshot with ref := .freeRun }

theorem loseReference_concluded (index : Nat) (stale : Quad Bool) (s : State) :
    (s.concluded index stale).LosesReference ((loseReference s).concluded index stale) := by
  have same := loseReference_sameButFlags s
  have place := same.commandedPosition
  have fru := loseReference_fru s
  have flt := (referenceLost_flt { s with fru := s.fru.unreferenced }).trans (referenceLost_flt (s.concluded index stale)).symm
  obtain ⟨fcu, pln, env, -, mrk, -, ch, sto, -⟩ := same
  refine ⟨fcu, pln, env, mrk, ch, sto, flt, ?_⟩
  rw [concluded_snapshot, concluded_snapshot, place, fru, ch]
  unfold Fru.unreferenced
  simp only [ite_self]
  rfl

theorem State.LosesReference.congr {u u' v v' : State} (h : u.LosesReference v) (before : u.SameBlocks u')
    (after : v.SameBlocks v') (chBefore : u'.ch = u.ch) (chAfter : v'.ch = v.ch) (fruBefore : u'.fru = u.fru)
    (fruAfter : v'.fru = v.fru) : u'.LosesReference v' := by
  have flags : (report .referenceLost 0 none u').flt = (report .referenceLost 0 none u).flt := by
    rw [referenceLost_flt, referenceLost_flt]
    unfold State.setFlag State.flag State.onFlt
    rw [before.flt]
  exact
    { fcu := by rw [after.fcu, before.fcu, h.fcu]
      pln := by rw [after.pln, before.pln, h.pln]
      env := by rw [after.env, before.env, h.env]
      mrk := by rw [after.mrk, before.mrk, h.mrk]
      ch := by rw [chAfter, chBefore, h.ch]
      sto := by rw [after.sto, before.sto, h.sto]
      flt := by rw [after.flt, flags, h.flt]
      snapshot := by rw [fruAfter, fruBefore, h.snapshot] }

/-- The close of a window at the second miss (R146; log 14): against the servo event of frame index 0 timed there, and the
notices and the flag. -/
theorem windowClose_loses {s : State} (miss : 2 ≤ s.fru.miss) :
    let u := deliver (handFramePose (servoTurn 0 (fun u => u) s))
    let v := handFramePose (servoTurn 0 closeMiss s)
    u.LosesReference v ∧ (⟨.framePose, .framePose v.fru.snapshot⟩ : Handed) ∈ v.link.handed ∧
      ((s.flag .referenceLost).set = false →
        (⟨.subscribers .timing, .notice .referenceLost 0⟩ : Handed) ∈ v.link.handed) ∧
      (v.flag .referenceLost).set = true := by
  intro u v
  have turn := servoTurn_closeMiss_lost miss
  have turned : v = handFramePose ((loseReference (servoRan 0 s)).concluded 0 (staleFlags s)) := congrArg handFramePose turn
  refine ⟨?_, ?_, fun clear => ?_, ?_⟩
  · rw [turned]
    exact (loseReference_concluded 0 (staleFlags s) (servoRan 0 s)).congr
      ((handFramePose_sameBlocks _).trans (deliver_sameBlocks _)) (handFramePose_sameBlocks _) (handFramePose_keeps_ch _)
      (handFramePose_keeps_ch _) (handFramePose_fru _) (handFramePose_fru _)
  · have handed := framePose_handed (servoTurn 0 closeMiss s)
    rwa [← handFramePose_fru] at handed
  · rw [turned]
    have kept := ((servoRan_blind 0).tells s).flag
    exact handed_handFramePose (referenceLost_handed (s := { servoRan 0 s with fru := (servoRan 0 s).fru.unreferenced })
      (by rw [← kept] at clear; exact clear))
  · rw [turned]
    unfold State.flag
    rw [(handFramePose_sameBlocks _).flt]
    exact report_flag_set (f := .referenceLost) rfl 0 none _

/-- Settles O48: the silence of an acquisition and of a pull, then the close of a window as a servo event. -/
theorem silenceAndWindowClose : Obligations.SilenceAndWindowClose := by
  refine ⟨fun s last unhanded ref => ?_, fun s unhanded => ⟨fun h => ?_, fun h => ?_, fun h => ?_⟩⟩
  · intro period silent a
    have instant : silenceInstant s.fru = silent := silenceInstant_of ref
    refine ⟨fun h due => ?_, fun h due => ?_, fun beyond => ⟨?_, ?_⟩, fun h beyond => ?_, fun h due => ?_⟩
    · show execAcquireSilenceTimeout s = _
      rw [execAcquireSilenceTimeout, if_pos h, instant, atInstant_due due]
      exact done_of_none unhanded
    · show execPullSilenceTimeout s = _
      rw [execPullSilenceTimeout, if_pos h, instant, atInstant_due due]
      rfl
    · show execAcquireSilenceTimeout s = _
      rw [execAcquireSilenceTimeout, instant, atInstant_beyond beyond, ite_self]
      exact done_of_none unhanded
    · show execPullSilenceTimeout s = _
      rw [execPullSilenceTimeout, instant, atInstant_beyond beyond, ite_self]
      exact done_of_none unhanded
    · show execWindowClose s = _
      simp only [execWindowClose, h, ref]
      exact (congrArg done (atInstant_beyond beyond)).trans (done_of_none unhanded)
    · have closed := exec_windowClose_due h ref due
      have event := exec_servoEvent_missed (last := last) h
      refine ⟨_, closed, ?_⟩
      obtain ⟨snapshot, left⟩ := windowClose_fru (advanceTo (closeInstant last s.fru) s) last
      intro close next frame
      generalize hb : (advanceTo (closeInstant last s.fru) s).fru = f at left
      have left : (deliver (handFramePose (servoTurn 0 closeMiss
          ((advanceTo (closeInstant last s.fru) s).missed last)))).fru = ((f.closing last).renewed 0).stamped snapshot := left
      have here : f = { s.fru with now := close } := hb.symm
      have timing : f.timing = s.fru.timing := by rw [here]
      have frames : f.frames = s.fru.frames := by rw [here]
      have counting : s.fru.frames + 1 < 4294967295 → (f.closing last).frames < 4294967295 := fun counts => by
        rw [Fru.closing_frames, frames]
        split <;> omega
      rw [left]
      refine ⟨fun miss => ?_, fun miss => ?_, ?_, ?_, fun counts => ?_, fun counts => ⟨?_, fun miss => ?_, fun miss => ?_⟩,
        fun full => ?_⟩
      · rw [servoTurn_closeMiss_first (s := (advanceTo _ s).missed last) (by show s.fru.miss + 1 < 2; omega)]
        exact event
      · obtain ⟨loses, posed, notices, -⟩ := windowClose_loses
          (s := (advanceTo (closeInstant last s.fru) s).missed last) (Nat.succ_le_succ miss)
        exact ⟨_, _, event, rfl, loses.fcu, loses.pln, loses.env, loses.mrk, loses.ch, loses.sto, loses.flt, loses.snapshot,
          posed, notices⟩
      · exact (Fru.renewed_now ..).trans ((Fru.closing_now last f).trans (by rw [here]))
      · exact (Fru.renewed_now ..).trans ((Fru.closing_now last f).trans (by rw [here]))
      · refine (Fru.renewed_frames ..).trans ((Fru.closing_frames last f).trans ?_)
        rw [here]
        exact if_pos counts
      · rw [Fru.renewed_counting 0 (counting counts)]
        show (0 + 1) % (f.closing last).timing.n = next
        rw [Fru.closing_timing, timing]
      · rw [Fru.renewed_counting 0 (counting counts), Fru.closing_first last (by rw [here]; exact miss),
          Fru.nextTime_locked _ (by rw [here]; exact h), here]
        exact ⟨h, rfl, rfl, rfl⟩
      · rw [Fru.renewed_counting 0 (counting counts), Fru.closing_second last (by rw [here]; exact miss),
          Fru.nextTime_free _ (Or.inl rfl), here]
        obtain ⟨-, -, -, set⟩ := windowClose_loses
          (s := (advanceTo (closeInstant last s.fru) s).missed last) (Nat.succ_le_succ miss)
        exact ⟨rfl, rfl, rfl, set, rfl⟩
      · rw [Fru.renewed_full 0 (by rw [Fru.closing_frames, frames]; split <;> omega)]
        refine ⟨rfl, rfl, ?_⟩
        show some ((f.closing last).now + (f.closing last).timing.ts) = some (close + s.fru.timing.ts)
        rw [Fru.closing_now, Fru.closing_timing, here]
  · show execAcquireSilenceTimeout s = _
    rw [execAcquireSilenceTimeout, if_neg h]
    exact done_of_none unhanded
  · show execPullSilenceTimeout s = _
    rw [execPullSilenceTimeout, if_neg h]
    exact done_of_none unhanded
  · show execWindowClose s = _
    have closed : execWindowClose s = done s := by
      unfold execWindowClose
      cases ref : s.fru.ref with
      | locked => exact absurd ref h
      | freeRun | acquiring | pulling => rfl
    rw [closed]
    exact done_of_none unhanded

end Sys2Proof.Machine
end

section
/-! An edge of the frame reference by reference state (R140 to R147, R149, R150): what it measures, the pull it decides, and the
frame start it raises or makes of the servo event it coincides with. -/

namespace Sys2Proof.Machine

open Sys2Proof

/-! ## The time of an edge -/

/-- The present time at an instant, and what every timer loses on the way (R138, R152; log 3). -/
theorem advanceTo_eq (t : Nat) (s : State) :
    let now := max s.fru.now t
    let gone := now - s.fru.now
    let left : Option Nat → Option Nat := fun o => o.map fun n => n - gone
    advanceTo t s =
      { s with
        pln := { s.pln with stick := { s.pln.stick with timer := left s.pln.stick.timer } }
        ch := { s.ch with chans := s.ch.chans.map fun c => { c with timer := left c.timer } }
        link := { s.link with gapTimer := left s.link.gapTimer }
        fru := { s.fru with now := now } } := by
  have gone : max s.fru.now t - s.fru.now = t - s.fru.now := by omega
  dsimp only
  rw [gone]
  rfl

theorem horizon_of_untimed {f : Fru} {last : Nat} (untimed : f.nextEvent = none) (ref : f.lastRef = some last) :
    f.horizon = max f.now (last + f.timing.n * f.timing.ts + f.timing.n * f.timing.ts / 200) := by
  rw [Fru.horizon, untimed, ref]
  rfl

/-! ## What an edge measures -/

/-- An interval within N·Ts/200 of N·Ts (R141, R145). -/
theorem inWindow_iff (t : Timing) (last now : Nat) :
    inWindow t last now = true ↔
      last + t.n * t.ts ≤ now + t.n * t.ts / 200 ∧ now ≤ last + t.n * t.ts + t.n * t.ts / 200 := by
  rw [inWindow, Bool.and_eq_true, decide_eq_true_iff, decide_eq_true_iff]
  rfl

section
variable {a : State}

/-- With the count exhausted every edge is ignored (R147). -/
theorem referenceEdge_full (full : 4294967295 ≤ a.fru.frames) : referenceEdge a = a := if_pos ((exhausted_iff a).mpr full)

variable (counts : a.fru.frames < 4294967295)
include counts

theorem not_exhausted : ¬ exhausted a = true := fun out => absurd ((exhausted_iff a).mp out) (Nat.not_le.mpr counts)

theorem referenceEdge_freeRun (ref : a.fru.ref = .freeRun) : referenceEdge a = edgeInFreeRun a := by
  simp only [referenceEdge, if_neg (not_exhausted counts), ref]

variable {last : Nat} (measured : a.fru.lastRef = some last)
include measured

theorem referenceEdge_acquiring (ref : a.fru.ref = .acquiring) : referenceEdge a = edgeInAcquiring last a := by
  simp only [referenceEdge, if_neg (not_exhausted counts), ref, measured, Option.getD_some]

theorem referenceEdge_pulling (ref : a.fru.ref = .pulling) : referenceEdge a = edgeInPulling last a := by
  simp only [referenceEdge, if_neg (not_exhausted counts), ref, measured, Option.getD_some]

theorem referenceEdge_locked (ref : a.fru.ref = .locked) : referenceEdge a = edgeInLocked last a := by
  simp only [referenceEdge, if_neg (not_exhausted counts), ref, measured, Option.getD_some]

end

/-- An edge in LOCKED inside its window is the last one, and no miss stands (R145). -/
def State.edgeTaken (a : State) : State := a.onFru fun f => { f with lastRef := some f.now, miss := 0 }

/-! ## Acquisition -/

/-- The fourth good interval counted (R141). -/
def State.acquired (a : State) : State := a.onFru fun f => { f with lastRef := some f.now, good := 4 }

section
variable {a : State} {last : Nat}

/-- A bad interval starts the measurement again (R141). -/
theorem edgeInAcquiring_far (far : ¬ inWindow a.fru.timing last a.fru.now = true) :
    edgeInAcquiring last a = a.onFru fun f => { f with lastRef := some f.now, good := 0 } := if_neg far

variable (near : inWindow a.fru.timing last a.fru.now = true)
include near

/-- A good interval is counted (R141). -/
theorem edgeInAcquiring_counts (good : a.fru.good < 3) :
    edgeInAcquiring last a = a.onFru fun f => { f with lastRef := some f.now, good := f.good + 1 } := by
  have raised : min 4 (a.fru.good + 1) = a.fru.good + 1 := by omega
  have short : ¬ a.fru.good + 1 = 4 := by omega
  unfold edgeInAcquiring
  simp only [if_pos near, State.onFru, raised, if_neg short]

/-- The fourth good interval reaches lock (R142). -/
theorem edgeInAcquiring_locks (good : a.fru.good = 3) :
    edgeInAcquiring last a = reachLock a.acquired := by
  unfold edgeInAcquiring
  simp only [if_pos near, State.onFru, good]
  rfl

end

/-! ## The pull decided -/

/-- A pull decided at an edge: the shorter way to the next frame start, or LOCKED at once when that is here (R143). -/
structure State.Pulls (s u : State) : Prop where
  here : phaseOf s.fru = 0 → u =
    deliver (notice .referenceLocked 1
      { s with fru := { s.fru with ref := .locked, miss := 0, pullDir := none, pullLeft := 0 } })
  shorten : 0 < phaseOf s.fru → 2 * phaseOf s.fru ≤ s.fru.timing.n * s.fru.timing.ts →
    u = { s with fru := { s.fru with ref := .pulling, pullDir := some .shorten, pullLeft := phaseOf s.fru } }
  lengthen : s.fru.timing.n * s.fru.timing.ts < 2 * phaseOf s.fru →
    u = { s with
      fru :=
        { s.fru with
          ref := .pulling, pullDir := some .lengthen
          pullLeft := s.fru.timing.n * s.fru.timing.ts - phaseOf s.fru } }

theorem decidePull_pulls {s : State} (unhanded : s.link.handed = []) : s.Pulls (deliver (decidePull s)) := by
  have delivered : ∀ f, deliver (s.onFru f) = s.onFru f := fun f => deliver_of_none (s := s.onFru f) unhanded
  refine ⟨fun here => congrArg deliver (if_pos here), fun ahead short => ?_, fun long => ?_⟩
  · have decided : decidePull s = s.onFru _ := (if_neg ahead.ne').trans (if_pos short)
    rw [decided, delivered]
    rfl
  · have ahead : phaseOf s.fru ≠ 0 := by omega
    have decided : decidePull s = s.onFru _ := (if_neg ahead).trans (if_neg (Nat.not_le.mpr long))
    rw [decided, delivered]
    rfl

/-! ## The frame start of an edge -/

section
variable (fruStep : State → State) {a : State}

theorem coincides_iff (a : State) : coincides a = true ↔ a.fru.now = a.fru.lastServo ∧ 0 < a.fru.frames := by
  rw [coincides, Bool.and_eq_true, decide_eq_true_iff, decide_eq_true_iff]

/-- An edge at the µs of a servo event that was the frame start raises nothing more (R142, R145; log 11). -/
theorem edgeFrameStart_stands (now : a.fru.now = a.fru.lastServo ∧ 0 < a.fru.frames) (index : a.fru.frameIndex = 1) :
    edgeFrameStart fruStep a = fruStep a :=
  (if_pos ((coincides_iff a).mpr now)).trans (if_pos (decide_eq_true index))

/-- One at the µs of another servo event makes that one the frame start (R142, R145; log 11). -/
theorem edgeFrameStart_promotes (now : a.fru.now = a.fru.lastServo ∧ 0 < a.fru.frames) (index : a.fru.frameIndex ≠ 1) :
    edgeFrameStart fruStep a = promoteServo fruStep a :=
  (if_pos ((coincides_iff a).mpr now)).trans (if_neg fun k => index (of_decide_eq_true k))

/-- Any other edge raises a servo event of its own (R142, R145). -/
theorem edgeFrameStart_raises (now : ¬ (a.fru.now = a.fru.lastServo ∧ 0 < a.fru.frames)) :
    edgeFrameStart fruStep a = handFramePose (servoTurn 0 fruStep a) :=
  (if_neg fun k => now ((coincides_iff a).mp k)).trans (raiseServo_frame fruStep a)

end

/-- In PARKED and TRIPPED lock is a jump, elsewhere a pull (R142). -/
theorem reachLock_rests {a : State} (rests : a.fcu.flight = .parked ∨ a.fcu.flight = .tripped) :
    reachLock a = edgeFrameStart jumpLocked a := if_pos rests

theorem reachLock_flies {a : State} (unparked : a.fcu.flight ≠ .parked) (untripped : a.fcu.flight ≠ .tripped) :
    reachLock a = decidePull a := if_neg fun k => k.elim unparked untripped

/-- A state that stands where a frame start by an edge is taken, before its schedule: the frame counted, LOCKED from this
edge on, and nothing told LINK but notices (R142, R145). -/
structure State.Reached (a w : State) : Prop where
  tells : a.Tells w
  now : w.fru.now = a.fru.now
  timing : w.fru.timing = a.fru.timing
  frames : w.fru.frames = a.fru.frames + 1
  ref : w.fru.ref = .locked
  lastRef : w.fru.lastRef = some a.fru.now
  miss : w.fru.miss = 0

/-- A frame start by an edge: one servo event, counted, with its FRAME_POSE; the one that exhausts the count leaves FREE_RUN
and no last reference instant (R142, R145, R147, R149, R150; log 13, log 14). -/
def State.Framed (a v : State) : Prop :=
  v.fru.now = a.fru.now ∧ v.fru.lastServo = a.fru.now ∧ v.fru.frames = a.fru.frames + 1 ∧
    (a.fru.frames + 1 < 4294967295 →
      v.fru.lastRef = some a.fru.now ∧ v.fru.ref = .locked ∧ v.fru.miss = 0 ∧ v.fru.frameIndex = 1 % a.fru.timing.n ∧
        v.fru.nextEvent = if 1 % a.fru.timing.n = 0 then none else some (a.fru.now + a.fru.timing.ts)) ∧
    (a.fru.frames + 1 = 4294967295 →
      v.fru.lastRef = none ∧ v.fru.ref = .freeRun ∧ v.fru.miss = 0 ∧ v.fru.frameIndex = 1 ∧
        v.fru.nextEvent = some (a.fru.now + a.fru.timing.ts)) ∧
    v.fru.snapshot.frames = v.fru.frames ∧ v.fru.snapshot.ref = v.fru.ref ∧
    v.fru.snapshot.pos = commandedPosition v ∧ v.link = { a.link with handed := v.link.handed } ∧
    (⟨.framePose, .framePose v.fru.snapshot⟩ : Handed) ∈ v.link.handed

/-- The frame begun: the schedule after a frame start, the instant and a snapshot (R139, R149). -/
def State.begins (w : State) (snapshot : Snapshot) : State := { w with fru := (w.fru.renewed 0).stamped snapshot }

/-- With a snapshot of what stands, and FRAME_POSE, it is a frame start. -/
theorem State.Reached.framed {a w : State} (h : a.Reached w) {snapshot : Snapshot} (frames : snapshot.frames = w.fru.frames)
    (ref : snapshot.ref = (w.fru.renewed 0).ref) (pos : snapshot.pos = commandedPosition w) :
    a.Framed (handFramePose (w.begins snapshot)) := by
  have link : (handFramePose (w.begins snapshot)).link =
      { a.link with handed := (handFramePose (w.begins snapshot)).link.handed } := by
    obtain ⟨before, after, n, -, eq⟩ := handFramePose_eq (w.begins snapshot)
    rw [eq]
    show ({ w.link with handed := _ } : Link) = _
    rw [h.tells.link]
  unfold State.Framed
  rw [handFramePose_fru, (handFramePose_sameBlocks (w.begins snapshot)).commandedPosition]
  refine ⟨(Fru.renewed_now ..).trans h.now, (Fru.renewed_now ..).trans h.now, (Fru.renewed_frames ..).trans h.frames,
    fun counts => ?_, fun full => ?_, frames.trans (Fru.renewed_frames ..).symm, ref, pos, link, framePose_handed _⟩
  · unfold State.begins
    rw [Fru.renewed_counting 0 (by rw [h.frames]; exact counts), Fru.nextTime_locked _ h.ref, h.timing, h.now]
    exact ⟨h.lastRef, h.ref, h.miss, rfl, rfl⟩
  · unfold State.begins
    rw [Fru.renewed_full 0 (by rw [h.frames, full]), h.timing, h.now]
    exact ⟨rfl, rfl, rfl, rfl, rfl⟩

/-- A servo event of the edge's own is a frame start. -/
theorem State.Reached.raised {a w : State} (h : a.Reached w) (stale : Quad Bool) :
    a.Framed (handFramePose (w.concluded 0 stale)) := by
  have snapped := concluded_snapshot 0 stale w
  have begun : w.concluded 0 stale = w.begins (w.concluded 0 stale).fru.snapshot := by
    unfold State.begins
    rw [← State.concluded_fru]
    rfl
  rw [begun]
  exact h.framed (by rw [snapped]) (by rw [snapped, Fru.renewed_ref]) (by rw [snapped])

/-! ## The servo event an edge coincides with -/

/-- The snapshot of a servo event made the frame start: its count, reference state and position are those after it (R149). -/
def State.amendedPose (w : State) : Snapshot :=
  { w.fru.snapshot with frames := w.fru.frames, ref := (w.fru.renewed 0).ref, pos := commandedPosition w }

theorem Fru.stamped_of_now {f : Fru} (now : f.lastServo = f.now) (snapshot : Snapshot) :
    f.stamped snapshot = { f with snapshot := snapshot } := by
  unfold Fru.stamped
  rw [now]

/-- The servo event of this µs made the frame start (R142, R145; log 11). -/
theorem promoteServo_eq {fruStep : State → State} {a w : State} (step : fruStep (promoteSample (countFrame true a)) = w)
    (now : w.fru.lastServo = w.fru.now) : promoteServo fruStep a = handFramePose (w.begins w.amendedPose) := by
  unfold promoteServo
  rw [step, schedule_settled_eq]
  have kept : (w.fru.renewed 0).lastServo = (w.fru.renewed 0).now ∧ (w.fru.renewed 0).snapshot = w.fru.snapshot := by
    unfold Fru.renewed
    split <;> exact ⟨now, rfl⟩
  obtain ⟨served, snapshot⟩ := kept
  unfold State.begins State.amendedPose
  rw [Fru.stamped_of_now served, ← snapshot, ← Fru.renewed_frames w.fru 0]
  rfl

/-- Whether a PRIMED stream starts at a servo event made the frame start (R115; log 11). -/
def State.playsHere (a : State) : Prop :=
  a.fcu.flight = .hold ∧ a.pln.stream.state = .primed ∧ a.pln.stream.startFrame = a.fru.frames

theorem promoteSample_stands {a : State} (h : ¬ a.playsHere) : promoteSample a = a := by
  refine if_neg fun k => h ?_
  obtain ⟨flight, starts⟩ := k
  obtain ⟨-, primed, frames⟩ := (startsPlay_iff true a).mp starts
  exact ⟨flight, primed, frames.symm⟩

theorem promoteSample_plays {a : State} (h : a.playsHere) :
    promoteSample a = onAllChans Channel.amendFrame (planSample true a) := by
  obtain ⟨flight, primed, frames⟩ := h
  exact if_pos ⟨flight, (startsPlay_iff true a).mpr ⟨rfl, primed, frames.symm⟩⟩

/-- The sample of a start of play, with its setpoints in the frames of the event, leaves FRU as it stands. -/
theorem promoteSample_keeps (a : State) : (promoteSample a).fru = a.fru ∧ a.Tells (promoteSample a) := by
  unfold promoteSample
  split
  · obtain ⟨-, fru, -⟩ := planSample_keeps true a
    exact ⟨fru, ((planSample_blind true).tells a).trans (.of_blocks rfl rfl)⟩
  · exact ⟨rfl, .refl a⟩

/-! ## From the edge to its frame start -/

/-- What a frame start leaves before FRU's own step: LINK told notices alone, and of FRU the frame counted. -/
structure State.Counts (a u : State) : Prop where
  tells : a.Tells u
  fru : u.fru = { a.fru with frames := a.fru.frames + 1 }

section
variable {a : State} (counts : a.fru.frames < 4294967295)
include counts

theorem servoRan_counts : a.Counts (servoRan 0 a) := by
  refine ⟨(servoRan_blind 0).tells a, (servoRan_fru 0 a).trans ?_⟩
  rw [Fru.counted, if_pos ⟨rfl, counts⟩]

theorem countFrame_counts : countFrame true a = a.onFru fun f => { f with frames := f.frames + 1 } := by
  rw [countFrame_eq, if_pos ⟨rfl, counts⟩]
  rfl

theorem promoteSample_counts : a.Counts (promoteSample (countFrame true a)) := by
  rw [countFrame_counts counts]
  obtain ⟨fru, tells⟩ := promoteSample_keeps (a.onFru fun f => { f with frames := f.frames + 1 })
  have kept : a.Tells (a.onFru fun f => { f with frames := f.frames + 1 }) := .of_blocks rfl rfl
  exact ⟨kept.trans tells, fru⟩

end

section
variable {a u : State} (h : a.Counts u) (lastRef : a.fru.lastRef = some a.fru.now)
include h lastRef

/-- In LOCKED the edge's frame start has nothing more of FRU's own (R145). -/
theorem State.Counts.reached (ref : a.fru.ref = .locked) (miss : a.fru.miss = 0) : a.Reached u := by
  refine ⟨h.tells, ?_, ?_, ?_, ?_, ?_, ?_⟩
  all_goals rw [h.fru]
  · exact ref
  · exact lastRef
  · exact miss

/-- A lock by a jump is reached at the frame start itself (R142). -/
theorem State.Counts.jumped : a.Reached (jumpLocked u) := by
  have told : u.Tells (jumpLocked u) :=
    State.Tells.trans (t := u.onFru fun f => { f with ref := .locked, miss := 0 }) (.of_blocks rfl rfl)
      ((notice_blind .referenceLocked 0).tells _)
  have fru : (jumpLocked u).fru = { a.fru with ref := .locked, miss := 0, frames := a.fru.frames + 1 } := by
    rw [jumpLocked, notice_fru, State.onFru_fru, h.fru]
  refine ⟨h.tells.trans told, ?_, ?_, ?_, ?_, ?_, ?_⟩
  all_goals rw [fru]
  exact lastRef

end

section
variable {fruStep : State → State} {a : State} (counts : a.fru.frames < 4294967295)
  (apart : a.fru.now = a.fru.lastServo ∧ 0 < a.fru.frames → a.fru.frameIndex ≠ 1)
include counts apart

/-- The frame start of an edge is one in either way: the servo event it coincides with, or one of its own (R142, R145). -/
theorem edgeFrameStart_framed (reaches : ∀ u, a.Counts u → a.Reached (fruStep u))
    (served : ∀ u : State, (fruStep u).fru.lastServo = u.fru.lastServo) : a.Framed (edgeFrameStart fruStep a) := by
  by_cases now : a.fru.now = a.fru.lastServo ∧ 0 < a.fru.frames
  · have reached := reaches _ (promoteSample_counts counts)
    have instant : (fruStep (promoteSample (countFrame true a))).fru.lastServo =
        (fruStep (promoteSample (countFrame true a))).fru.now := by
      rw [served, reached.now, (promoteSample_counts counts).fru]
      exact now.1.symm
    rw [edgeFrameStart_promotes fruStep now (apart now), promoteServo_eq rfl instant]
    exact reached.framed rfl rfl rfl
  · rw [edgeFrameStart_raises fruStep now]
    exact (reaches _ (servoRan_counts counts)).raised _

end

section
variable (fruStep : State → State) {a : State}

/-- What FRU's own step hands over is handed over with the frame start. -/
theorem edgeFrameStart_handed {h : Handed} (told : ∀ u : State, h ∈ (fruStep u).link.handed)
    (apart : a.fru.now = a.fru.lastServo ∧ 0 < a.fru.frames → a.fru.frameIndex ≠ 1) :
    h ∈ (edgeFrameStart fruStep a).link.handed := by
  by_cases now : a.fru.now = a.fru.lastServo ∧ 0 < a.fru.frames
  · rw [edgeFrameStart_promotes fruStep now (apart now)]
    unfold promoteServo
    rw [schedule_settled_eq]
    exact handed_handFramePose (told _)
  · rw [edgeFrameStart_raises fruStep now]
    exact handed_handFramePose (told (servoRan 0 a))

/-- The flight state, the planner, the markers, the channels and the faults stand. -/
def State.Stands (a v : State) : Prop := v.fcu = a.fcu ∧ v.pln = a.pln ∧ v.mrk = a.mrk ∧ v.ch = a.ch ∧ v.flt = a.flt

/-- FRU's turn at a servo event made the frame start changes FRU and the notices alone. -/
theorem promoteServo_blocks (a : State) :
    (fruStep (promoteSample (countFrame true a))).SameBlocks (promoteServo fruStep a) ∧
      (promoteServo fruStep a).ch = (fruStep (promoteSample (countFrame true a))).ch := by
  unfold promoteServo
  rw [schedule_settled_eq]
  refine ⟨State.SameBlocks.trans ?_ (handFramePose_sameBlocks _), handFramePose_keeps_ch _⟩
  exact ⟨rfl, rfl, rfl, rfl, rfl, rfl, rfl⟩

/-- An edge on the servo event of this µs leaves the part as it stands, where no stream starts there (log 11). -/
theorem edgeFrameStart_still (step : ∀ u : State, u.Stands (fruStep u))
    (now : a.fru.now = a.fru.lastServo ∧ 0 < a.fru.frames) (index : a.fru.frameIndex ≠ 1)
    (counts : a.fru.frames < 4294967295) (silent : ¬ (a.onFru fun f => { f with frames := f.frames + 1 }).playsHere) :
    a.Stands (edgeFrameStart fruStep a) := by
  obtain ⟨same, ch⟩ := promoteServo_blocks fruStep a
  rw [countFrame_counts counts, promoteSample_stands silent] at same ch
  obtain ⟨fcu, pln, mrk, chs, flt⟩ := step (a.onFru fun f => { f with frames := f.frames + 1 })
  rw [edgeFrameStart_promotes fruStep now index]
  exact ⟨same.fcu.trans fcu, same.pln.trans pln, same.mrk.trans mrk, ch.trans chs, same.flt.trans flt⟩

end

/-- A stream that starts at the servo event of this µs: its sample takes the place of the hold sample, in the event's frames
too (R115; log 11). -/
theorem edgeFrameStart_played {a : State} (now : a.fru.now = a.fru.lastServo ∧ 0 < a.fru.frames)
    (index : a.fru.frameIndex ≠ 1) (counts : a.fru.frames < 4294967295)
    (plays : (a.onFru fun f => { f with frames := f.frames + 1 }).playsHere) :
    let p := planSample true (a.onFru fun f => { f with frames := f.frames + 1 })
    let v := edgeFrameStart id a
    v.fcu = p.fcu ∧ v.pln = p.pln ∧ v.env = p.env ∧ v.mrk = p.mrk ∧ v.flt = p.flt ∧
      v.ch = { p.ch with chans := p.ch.chans.map Channel.amendFrame } := by
  intro p v
  obtain ⟨same, ch⟩ := promoteServo_blocks id a
  rw [countFrame_counts counts, promoteSample_plays plays] at same ch
  have promoted : v = promoteServo id a := edgeFrameStart_promotes id now index
  rw [promoted]
  exact ⟨same.fcu, same.pln, same.env, same.mrk, same.flt, ch⟩

/-- Without a third miss a frame start of the edge's own leaves what its sample does (R139). -/
theorem edgeFrameStart_calm {a : State} (apart : ¬ (a.fru.now = a.fru.lastServo ∧ 0 < a.fru.frames))
    (counts : a.fru.frames < 4294967295) (calm : a.calm) :
    let p := planSample true (a.onFru fun f => { f with frames := f.frames + 1 })
    let v := edgeFrameStart id a
    v.fcu = p.fcu ∧ v.pln = p.pln ∧ v.env = p.env ∧ v.mrk = p.mrk ∧ v.flt = p.flt := by
  have ran : servoRan 0 a = onAllChans (fun c => c.close.send) (planSample true (countFrame true a)) :=
    runChannels_calm (planSample_calm (countFrame_calm calm true))
  have same := handFramePose_sameBlocks (servoTurn 0 id a)
  intro p v
  have raised : v = handFramePose (servoTurn 0 id a) := edgeFrameStart_raises id apart
  have turned : servoTurn 0 id a = (onAllChans (fun c => c.close.send) p).concluded 0 (staleFlags a) := by
    rw [servoTurn, id, ran, countFrame_counts counts]
  rw [turned] at same raised
  rw [raised]
  exact ⟨same.fcu, same.pln, same.env, same.mrk, same.flt⟩

/-- In LOCKED a frame start of the edge's own is the servo event of frame index 0 timed at the edge (R145). -/
theorem edgeFrameStart_event {s : State} {t : Nat} (locked : s.fru.ref = .locked)
    (apart : ¬ (max s.fru.now t = s.fru.lastServo ∧ 0 < s.fru.frames)) :
    Host.Outcome.next (deliver (edgeFrameStart id (advanceTo t s).edgeTaken)) =
      exec .servoEvent
        { s with
          fru :=
            { s.fru with
              ref := .locked, frameIndex := 0, nextEvent := some t, lastRef := some (max s.fru.now t), miss := 0 } } := by
  rw [edgeFrameStart_raises (a := (advanceTo t s).edgeTaken) id apart,
    exec_servoEvent_frame rfl rfl]
  have turn := servoTurn_rescheduled (s := (advanceTo t s).edgeTaken) locked 0 0
    (some t)
  refine congrArg (fun u => Host.Outcome.next (deliver (handFramePose u))) (turn.symm.trans ?_)
  rw [← locked]
  rfl

/-- A jump's own frame start does all that the servo event of frame index 0 timed at the edge does (R142; log 14). -/
theorem servoTurn_jump {a b : State} (f : Fru) (other : b = a.refit f) (locked : f.ref = .locked) :
    let v := handFramePose (servoTurn 0 jumpLocked a)
    let u := deliver (handFramePose (servoTurn 0 completePull b))
    v.fcu = u.fcu ∧ v.pln = u.pln ∧ v.env = u.env ∧ v.mrk = u.mrk ∧ v.ch = u.ch ∧ v.flt = u.flt ∧ v.sto = u.sto ∧
      v.fru.snapshot = u.fru.snapshot := by
  have ran : servoRan 0 b = (servoRan 0 a).refit f := by rw [other, (servoRan_blind 0).refit]
  have steady : completePull (servoRan 0 b) = (servoRan 0 a).refit f := by
    rw [completePull_steady, ran]
    rw [ran]
    exact locked ▸ (by decide : RefState.locked ≠ .pulling)
  have turn : servoTurn 0 completePull b = ((servoRan 0 a).refit f).concluded 0 (staleFlags a) := by
    rw [servoTurn, steady, other]
    rfl
  dsimp only
  rw [turn]
  have ofV := handFramePose_sameBlocks (servoTurn 0 jumpLocked a)
  have ofU := handFramePose_sameBlocks (((servoRan 0 a).refit f).concluded 0 (staleFlags a))
  refine ⟨ofV.fcu.trans ofU.fcu.symm, ofV.pln.trans ofU.pln.symm, ofV.env.trans ofU.env.symm, ofV.mrk.trans ofU.mrk.symm,
    (handFramePose_keeps_ch _).trans (handFramePose_keeps_ch (((servoRan 0 a).refit f).concluded 0 (staleFlags a))).symm,
    ofV.flt.trans ofU.flt.symm, ofV.sto.trans ofU.sto.symm, ?_⟩
  rw [deliver_fru, handFramePose_fru, handFramePose_fru, servoTurn, concluded_snapshot, concluded_snapshot]
  show (⟨_, _, _, _, _, if _ then _ else RefState.locked⟩ : Snapshot) = ⟨_, _, _, _, _, if _ then _ else f.ref⟩
  rw [locked]
  rfl

/-- Settles O47: the time of an edge, then the edge in each reference state. -/
theorem edgeByReferenceState : Obligations.EdgeByReferenceState := by
  refine ⟨fun s t => advanceTo_eq t s, fun f => ⟨fun due => horizon_of_timed, fun last => horizon_of_untimed⟩, ?_⟩
  intro s t unhanded now a f period near gives ahead phase pulls coincides framed own stands
  have acts : ∀ {u : State}, referenceEdge a = u → gives (deliver u) := fun h =>
    congrArg (fun u => Host.Outcome.next (deliver u)) h
  have settles : ∀ {u : State}, referenceEdge a = u → u.link.handed = [] → gives u := fun {u} h quiet => by
    have given := acts h
    rwa [deliver_of_none quiet] at given
  have window : ∀ {last}, near last → inWindow a.fru.timing last a.fru.now = true := (inWindow_iff ..).mpr
  have outside : ∀ {last}, ¬ near last → ¬ inWindow a.fru.timing last a.fru.now = true := fun far k =>
    far ((inWindow_iff ..).mp k)
  refine ⟨fun full => settles (referenceEdge_full full) unhanded, fun counts =>
    ⟨fun ref => settles (referenceEdge_freeRun counts ref) unhanded, fun last ref measured => ?_, fun last ref measured => ?_,
      fun last ref measured => ?_⟩⟩
  · have edge := referenceEdge_acquiring counts measured ref
    have locks : near last → f.good = 3 → referenceEdge a = reachLock a.acquired := fun close good =>
      edge.trans (edgeInAcquiring_locks (window close) good)
    refine ⟨fun far => settles (edge.trans (edgeInAcquiring_far (outside far))) unhanded,
      fun close good => settles (edge.trans (edgeInAcquiring_counts (window close) good)) unhanded,
      fun close good unparked untripped => ?_, fun close good rests => ⟨fun now index => ?_, fun apart => ?_⟩⟩
    · have decided := decidePull_pulls (s := a.acquired) unhanded
      exact ⟨_, acts ((locks close good).trans (reachLock_flies (a := a.acquired) unparked untripped)), decided.here,
        decided.shorten, decided.lengthen⟩
    · exact acts ((locks close good).trans ((reachLock_rests (a := a.acquired) rests).trans
        (edgeFrameStart_stands jumpLocked now index)))
    · have unheld : ¬ a.acquired.fcu.flight = .hold := fun held => by
        have held : s.fcu.flight = .hold := held
        rcases rests with k | k <;> rw [k] at held <;> cases held
      refine ⟨edgeFrameStart jumpLocked a.acquired, acts ((locks close good).trans (reachLock_rests (a := a.acquired) rests)),
        edgeFrameStart_framed (a := a.acquired) counts apart (fun u h => h.jumped rfl) fun _ => rfl,
        edgeFrameStart_handed (a := a.acquired) jumpLocked
          (fun u => List.mem_append_right _ (List.mem_singleton.mpr rfl)) apart,
        fun now => edgeFrameStart_still (a := a.acquired) jumpLocked (fun _ => ⟨rfl, rfl, rfl, rfl, rfl⟩) now (apart now)
          counts fun plays => unheld plays.1,
        fun raises => ⟨_, exec_servoEvent_frame rfl rfl, ?_⟩⟩
      rw [edgeFrameStart_raises (a := a.acquired) jumpLocked raises]
      exact servoTurn_jump (a := a.acquired) (advanceTo t own).fru rfl rfl
  · have edge := referenceEdge_pulling counts measured ref
    have decided := decidePull_pulls (s := a.onFru fun f => { f with lastRef := some f.now }) unhanded
    exact ⟨fun close => ⟨_, acts (edge.trans (if_pos (window close))), decided.here, decided.shorten, decided.lengthen⟩,
      fun far => settles (edge.trans (if_neg (outside far))) unhanded⟩
  · have edge := referenceEdge_locked counts measured ref
    have starts : near last → referenceEdge a = edgeFrameStart id a.edgeTaken := fun close =>
      edge.trans (if_pos (window close))
    refine ⟨fun far => settles (edge.trans (if_neg (outside far))) unhanded, fun close =>
      ⟨fun raises => (acts (starts close)).trans (edgeFrameStart_event ref raises),
        fun now index => settles ((starts close).trans (edgeFrameStart_stands id (a := a.edgeTaken) now index)) unhanded,
        fun apart => ⟨edgeFrameStart id a.edgeTaken, acts (starts close),
          edgeFrameStart_framed (a := a.edgeTaken) counts apart (fun u h => h.reached rfl ref rfl) fun _ => rfl,
          fun now silent => edgeFrameStart_still (a := a.edgeTaken) id (fun _ => ⟨rfl, rfl, rfl, rfl, rfl⟩) now (apart now)
            counts silent,
          fun now plays => edgeFrameStart_played (a := a.edgeTaken) now (apart now) counts plays,
          fun raises calm => edgeFrameStart_calm (a := a.edgeTaken) raises counts (advanceTo_calm calm t)⟩⟩⟩

end Sys2Proof.Machine
end

section
/-! The channels' turn at a servo event (R155, R157, R166): how a channel closes its period and sends its frame, what third misses
report one after the other, and the servo event around them. -/

namespace Sys2Proof.Machine

open Sys2Proof

/-! ## A channel's own turn -/

/-- A channel is lost when its period closes as a third miss outside ABSENT (R166). -/
def Channel.lost (c : Channel) : Bool := c.thirdMiss && decide (c.state ≠ .absent)

/-- A drive whose third miss is DRIVE_ABSENT alone: the part asks nothing of it (R166). -/
def Channel.held (c : Channel) : Bool := c.state = .ready ∨ c.state = .faulted

theorem Channel.misses_eq (c : Channel) : c.misses = decide (c.sent ≠ none ∧ c.answered = false) := by
  unfold Channel.misses
  cases c.sent <;> cases c.answered <;> rfl

theorem Channel.lost_eq (c : Channel) :
    c.lost = decide (c.misses = true ∧ c.miss = 2 ∧ c.state ≠ .absent) := by
  simp only [Channel.lost, Channel.thirdMiss, Bool.decide_and, Bool.decide_eq_true, Bool.and_assoc]

theorem Channel.close_of_lost {c : Channel} (h : c.lost = true) : c.close = c.toAbsent := if_pos h

theorem Channel.close_of_kept {c : Channel} (h : c.lost = false) :
    c.close = { c with miss := if c.misses = false then c.miss else if c.miss < 3 then c.miss + 1 else 3 } := by
  have unlost : ¬ c.lost = true := by rw [h]; decide
  refine (if_neg unlost).trans ?_
  cases c.misses <;> rfl

/-- A lost channel's frame: a restart where one waits, else a poll (R155, R166). -/
theorem frameOf_toAbsent (c : Channel) : frameOf c.toAbsent = if c.restartPending = true then .restart else .poll := rfl

/-- The frame does not look at the miss count. -/
theorem frameOf_miss (c : Channel) (n : Nat) : frameOf { c with miss := n } = frameOf c := rfl

/-- The turn of a lost channel: ABSENT, its timer stopped, its counts and its warning cleared (R157, R166). -/
theorem Channel.turn_of_lost {c : Channel} (h : c.lost = true) :
    c.close.send =
      { c with
        sent := some ⟨if c.restartPending = true then .restart else .poll, c.seq⟩, seq := c.seq + 1, answered := false
        restartPending := false, state := .absent, timer := none, miss := 0, slackCount := 0, overCount := 0
        followCount := 0, warning := false } := by
  rw [Channel.close_of_lost h, Channel.send_eq, frameOf_toAbsent]
  rfl

/-- The turn of any other: its period closed and its frame sent (R155, R157). -/
theorem Channel.turn_of_kept {c : Channel} (h : c.lost = false) :
    c.close.send =
      { c with
        sent := some ⟨frameOf c, c.seq⟩, seq := c.seq + 1, answered := false, restartPending := false
        miss := if c.misses = false then c.miss else if c.miss < 3 then c.miss + 1 else 3 } := by
  rw [Channel.close_of_kept h, Channel.send_eq, frameOf_miss]

/-! ## What third misses report -/

theorem lostOnMiss_eq_not_held {c : Channel} (h : c.state ≠ .absent) : c.state.lostOnMiss = !c.held := by
  unfold Channel.held
  cases state : c.state with
  | absent => exact absurd state h
  | ready | releasing | streaming | braking | setting | faulted => rfl

/-- What a channel's turn reports (R166, R183, R186). -/
theorem reportThirdMiss_eq (w : Winch) (c : Channel) (s : State) :
    reportThirdMiss w c s =
      if c.lost = false then s
      else if c.held = true then notice .driveAbsent (winchNumber w) s
      else if s.fcu.flight = .tripped then report .channelLost (winchNumber w) none s
      else tripEffect .channelLost (winchNumber w) none s := by
  have kept : (c.thirdMiss = false ∨ c.state = .absent) ↔ c.lost = false := by
    rw [Channel.lost, Bool.and_eq_false_iff, decide_eq_false_iff_not, not_not]
  rw [reportThirdMiss_cases]
  by_cases lost : c.lost = false
  · rw [if_pos (kept.mpr lost), if_pos lost]
  · have away : c.state ≠ .absent := fun k => lost (kept.mp (Or.inr k))
    rw [if_neg (kept.not.mpr lost), if_neg lost, lostOnMiss_eq_not_held away]
    simp only [Bool.not_eq_false']

/-- A third miss that sets CHANNEL_LOST: of a channel the part asks something of (R166). -/
def Channel.trips (c : Channel) : Prop := c.lost = true ∧ c.held = false

section
variable {w : Winch} {c : Channel} {s : State}

/-- Any other turn leaves the flight state and the channels as they stand. -/
theorem reportThirdMiss_untripping (h : ¬ c.trips) (w : Winch) (s : State) :
    (reportThirdMiss w c s).fcu = s.fcu ∧ (reportThirdMiss w c s).ch = s.ch := by
  rw [reportThirdMiss_eq]
  by_cases lost : c.lost = false
  · rw [if_pos lost]
    exact ⟨rfl, rfl⟩
  · have held : c.held = true := eq_true_of_ne_false fun k => h ⟨eq_true_of_ne_false lost, k⟩
    rw [if_neg lost, if_pos held]
    exact ⟨rfl, rfl⟩

/-- In TRIPPED no report touches the flight state or the channels (R183). -/
theorem reportThirdMiss_in_tripped (h : s.fcu.flight = .tripped) (w : Winch) (c : Channel) :
    (reportThirdMiss w c s).fcu = s.fcu ∧ (reportThirdMiss w c s).ch = s.ch := by
  by_cases trips : c.trips
  · obtain ⟨lost, held⟩ := trips
    rw [reportThirdMiss_eq, if_neg (by rw [lost]; decide), if_neg (by rw [held]; decide), if_pos h]
    obtain ⟨fcu, -, -, -, -, -, ch, -⟩ := report_tripped_sameButFlags (f := .channelLost) rfl (winchNumber w) none h
    exact ⟨fcu, ch⟩
  · exact reportThirdMiss_untripping trips w s

/-- Outside TRIPPED a CHANNEL_LOST is the trip (R186, R188). -/
theorem reportThirdMiss_trips (h : c.trips) (flight : s.fcu.flight ≠ .tripped) (w : Winch) :
    reportThirdMiss w c s = tripEffect .channelLost (winchNumber w) none s := by
  obtain ⟨lost, held⟩ := h
  rw [reportThirdMiss_eq, if_neg (by rw [lost]; decide), if_neg (by rw [held]; decide), if_neg flight]

end

/-- The flag whose occurrence trips is set (R183). -/
theorem tripEffect_flag_set (f : Flag) (channel : Nat) (seat : Option Seat) (s : State) :
    ((tripEffect f channel seat s).flag f).set = true := by
  have entry : (tripEffect f channel seat s).flag f = (s.flag f).occur channel :=
    (State.flag_setFlag s f f ((s.flag f).occur channel)).trans (if_pos rfl)
  rw [entry, FlagEntry.occur_set]

/-- What the third misses of some channels report, one after the other (R166). -/
def reportMisses (before : Winch → Channel) (ws : List Winch) (s : State) : State :=
  ws.foldl (fun t w => reportThirdMiss w (before w) t) s

theorem runChannels_eq (s : State) : runChannels s = reportMisses s.chan allWinches (onAllChans (fun c => c.close.send) s) := rfl

section
variable {before : Winch → Channel}

theorem reportMisses_in_tripped (ws : List Winch) :
    ∀ {s : State}, s.fcu.flight = .tripped → (reportMisses before ws s).fcu = s.fcu ∧ (reportMisses before ws s).ch = s.ch := by
  induction ws with
  | nil => exact fun _ => ⟨rfl, rfl⟩
  | cons w rest ih =>
    intro s tripped
    obtain ⟨fcu, ch⟩ := reportThirdMiss_in_tripped tripped w (before w)
    obtain ⟨fcu', ch'⟩ := ih (s := reportThirdMiss w (before w) s) (by rw [fcu]; exact tripped)
    exact ⟨fcu'.trans fcu, ch'.trans ch⟩

theorem reportMisses_untripping (ws : List Winch) :
    ∀ {s : State}, (∀ w ∈ ws, ¬ (before w).trips) →
      (reportMisses before ws s).fcu = s.fcu ∧ (reportMisses before ws s).ch = s.ch := by
  induction ws with
  | nil => exact fun _ => ⟨rfl, rfl⟩
  | cons w rest ih =>
    intro s calm
    obtain ⟨fcu, ch⟩ := reportThirdMiss_untripping (calm w List.mem_cons_self) w s
    obtain ⟨fcu', ch'⟩ := ih (s := reportThirdMiss w (before w) s) fun v hv => calm v (List.mem_cons_of_mem w hv)
    exact ⟨fcu'.trans fcu, ch'.trans ch⟩

theorem reportMisses_keepsFlags (ws : List Winch) : ∀ s : State, s.KeepsFlags (reportMisses before ws s) := by
  induction ws with
  | nil => exact fun s => .of_flags rfl
  | cons w rest ih => exact fun s => (reportThirdMiss_keepsOutcome w (before w) s).flags.trans (ih _)

/-- The first CHANNEL_LOST outside TRIPPED trips, and the later ones find TRIPPED (R186, R188). -/
theorem reportMisses_trips (ws : List Winch) :
    ∀ {s : State}, s.fcu.flight ≠ .tripped → (∃ w ∈ ws, (before w).trips) →
      (reportMisses before ws s).fcu.flight = .tripped ∧ ((reportMisses before ws s).flag .channelLost).set = true ∧
        (reportMisses before ws s).ch.chans = s.ch.chans.map Channel.afterTrip := by
  induction ws with
  | nil =>
    rintro s - ⟨w, hw, -⟩
    cases hw
  | cons w rest ih =>
    intro s flight trip
    by_cases trips : (before w).trips
    · have effect := reportThirdMiss_trips trips flight w
      have tripped : (reportThirdMiss w (before w) s).fcu.flight = .tripped := by rw [effect]; rfl
      obtain ⟨fcu, ch⟩ := reportMisses_in_tripped (before := before) rest tripped
      have flag : ((reportThirdMiss w (before w) s).flag .channelLost).set = true := by
        rw [effect]
        exact tripEffect_flag_set ..
      exact ⟨(congrArg Fcu.flight fcu).trans tripped, reportMisses_keepsFlags rest _ .channelLost flag,
        (congrArg Ch.chans ch).trans (by rw [effect]; rfl)⟩
    · obtain ⟨fcu, ch⟩ := reportThirdMiss_untripping trips w s
      obtain ⟨v, hv, lost⟩ := trip
      have later : v ∈ rest := (List.mem_cons.mp hv).resolve_left fun k => trips (k ▸ lost)
      obtain ⟨tripped, flag, chans⟩ := ih (s := reportThirdMiss w (before w) s) (by rw [fcu]; exact flight) ⟨v, later, lost⟩
      exact ⟨tripped, flag, chans.trans (by rw [ch])⟩

end

section
variable {s : State}

/-- Where nothing trips the channels are as their own turns leave them. -/
theorem runChannels_untripping (h : s.fcu.flight = .tripped ∨ ∀ w, ¬ (s.chan w).trips) (w : Winch) :
    (runChannels s).chan w = (s.chan w).close.send := by
  have kept : (runChannels s).ch = (onAllChans (fun c => c.close.send) s).ch := by
    rw [runChannels_eq]
    rcases h with tripped | untripped
    · exact (reportMisses_in_tripped allWinches (s := onAllChans (fun c => c.close.send) s) tripped).2
    · exact (reportMisses_untripping allWinches fun v _ => untripped v).2
  rw [State.chan, kept]
  exact State.chan_onAllChans ..

/-- Where a third miss trips it acts on the channels after their turns (R186, R188; log 8). -/
theorem runChannels_trips (flight : s.fcu.flight ≠ .tripped) {v : Winch} (trips : (s.chan v).trips) :
    (runChannels s).fcu.flight = .tripped ∧ ((runChannels s).flag .channelLost).set = true ∧
      ∀ w, (runChannels s).chan w = (s.chan w).close.send.afterTrip := by
  obtain ⟨tripped, flag, chans⟩ := reportMisses_trips (before := s.chan) allWinches
    (s := onAllChans (fun c => c.close.send) s) flight ⟨v, by cases v <;> decide, trips⟩
  rw [runChannels_eq]
  refine ⟨tripped, flag, fun w => ?_⟩
  rw [State.chan, chans, Quad.get_map]
  exact congrArg Channel.afterTrip (State.chan_onAllChans ..)

end

/-! ## The servo event -/

/-- A servo event up to the channels' turn: its sample planned at its instant, with its frame counted (R139). -/
def State.planned (s : State) (due : Nat) : State :=
  planSample (decide (s.fru.frameIndex = 0)) (countFrame (decide (s.fru.frameIndex = 0)) (advanceTo due s))

/-- A channel as its turn finds it: its timer fallen by the time passed, and its newest setpoint (R10, R152). -/
def Channel.prepared (c : Channel) (gone newest : Nat) : Channel :=
  { c with timer := c.timer.map fun n => n - gone, newest := newest }

section
variable (s : State) (due : Nat)

/-- What the sample leaves: SOL, the commands that wait, TRIPPED and the channels but for their setpoints (R10, R43). -/
theorem planned_keeps :
    (s.planned due).sol = s.sol ∧ (s.planned due).pending = s.pending ∧
      ((s.planned due).fcu.flight = .tripped ↔ s.fcu.flight = .tripped) ∧
      (s.planned due).ch =
        if producesSamples s.fcu.flight = true then
          { (advanceTo due s).ch with
            chans := (advanceTo due s).ch.chans.zip s.sol.anchors fun c anchor =>
              { c with newest := setpointAt anchor (s.planned due).pln.pos } }
        else (advanceTo due s).ch := by
  obtain ⟨sol, -, -, pending, -, flies, tripped, ch⟩ :=
    planSample_keeps (decide (s.fru.frameIndex = 0)) (countFrame (decide (s.fru.frameIndex = 0)) (advanceTo due s))
  have counted : ∀ start, countFrame start (advanceTo due s) =
      { advanceTo due s with fru := (countFrame start (advanceTo due s)).fru } := fun start => by
    rw [countFrame_eq]
    split <;> rfl
  have same : ∀ {α : Type} (block : State → α) (start : Bool),
      (∀ fru, block { advanceTo due s with fru := fru } = block (advanceTo due s)) →
        block (countFrame start (advanceTo due s)) = block (advanceTo due s) := fun block start blind =>
    (congrArg block (counted start)).trans (blind _)
  rw [same State.fcu _ fun _ => rfl] at flies tripped ch
  rw [same State.ch _ fun _ => rfl] at ch
  have setpoints : ∀ p start, setpointsAt (countFrame start (advanceTo due s)) p = setpointsAt (advanceTo due s) p :=
    fun p start => same (setpointsAt · p) start fun _ => rfl
  rw [setpoints] at ch
  exact ⟨sol.trans (same State.sol _ fun _ => rfl), pending.trans (same State.pending _ fun _ => rfl),
    ⟨fun h => by_contra fun k => flies k h, tripped⟩, ch⟩

/-- The channels as the sample leaves them: where samples are produced, with the setpoint of the position committed (R10). -/
theorem planned_chan (w : Winch) :
    (s.planned due).chan w =
      (s.chan w).prepared (due - s.fru.now)
        (if producesSamples s.fcu.flight = true then setpointAt (s.sol.anchors.get (winchIndex w)) (s.planned due).pln.pos
          else (s.chan w).newest) := by
  obtain ⟨-, -, -, ch⟩ := planned_keeps s due
  have fallen : (advanceTo due s).ch.chans.get (winchIndex w) =
      { s.chan w with timer := (s.chan w).timer.map fun n => n - (due - s.fru.now) } := Quad.get_map ..
  rw [State.chan, ch]
  split
  · rw [Quad.get_zip, fallen]
    rfl
  · exact fallen

/-- After the channels' turn a servo event hands over REFERENCE_LOCKED where a pull completes, and FRU's record is new (R139,
R144). -/
theorem servoTurn_told :
    ∃ fru, servoTurn s.fru.frameIndex completePull (advanceTo due s) =
      { pullNotice s (runChannels (s.planned due)) with fru := fru } := by
  have ran : servoRan s.fru.frameIndex (advanceTo due s) = runChannels (s.planned due) := rfl
  have fru : (runChannels (s.planned due)).fru = (advanceTo due s).fru.counted s.fru.frameIndex := ran ▸ servoRan_fru ..
  have pulls : ((runChannels (s.planned due)).fru.ref = .pulling ∧ (runChannels (s.planned due)).fru.pullLeft = 0) ↔
      s.fru.ref = .pulling ∧ s.fru.pullLeft = 0 := by
    rw [fru]
    exact Iff.rfl
  rw [servoTurn, ran, completePull, if_congr pulls rfl rfl, pullNotice]
  split <;> exact ⟨_, rfl⟩

/-- What FRU's turn, FRAME_POSE and the copies leave of the channels' turn (R139, R150, R206). -/
theorem delivered_told (start : Bool) (v : State) (fru : Fru) :
    let told := pullNotice s v
    let t := deliver (if start = true then handFramePose { told with fru := fru } else { told with fru := fru })
    v.SameBlocks t ∧ t.ch = v.ch ∧ t.pending = v.pending ∧
      t.link = (deliver (if start = true then handFramePose { told with fru := t.fru } else told)).link := by
  intro told t
  have told_blocks : v.SameBlocks { told with fru := fru } ∧ told.ch = v.ch ∧ told.pending = v.pending := by
    unfold told pullNotice
    split <;> exact ⟨⟨rfl, rfl, rfl, rfl, rfl, rfl, rfl⟩, rfl, rfl⟩
  obtain ⟨blocks, ch, pending⟩ := told_blocks
  have link := deliver_link_eq start told fru (if start = true then handFramePose { told with fru := fru } else { told with fru := fru }).ch
  cases start with
  | false => exact ⟨blocks.trans (deliver_sameBlocks _), ch, pending, link⟩
  | true =>
    obtain ⟨_, _, _, -, handed⟩ := handFramePose_eq { told with fru := fru }
    refine ⟨(blocks.trans (handFramePose_sameBlocks _)).trans (deliver_sameBlocks _), (handFramePose_keeps_ch _).trans ch, ?_, link⟩
    exact (congrArg State.pending handed).trans pending

/-- A servo event, by its sample and the channels' turn: FRU's record and LINK are FRU's own turn, all else stands as the
channels' turn leaves it (R139, R144, R150). -/
theorem servoEvent_ran {s : State} {due : Nat} (timed : s.fru.nextEvent = some due) :
    let start := decide (s.fru.frameIndex = 0)
    let ran := runChannels (s.planned due)
    let told := pullNotice s ran
    ∃ t, exec .servoEvent s = .next t ∧ ran.SameBlocks t ∧ t.ch = ran.ch ∧ t.sol = s.sol ∧ t.pending = s.pending ∧
      t.link = (deliver (if start = true then handFramePose { told with fru := t.fru } else told)).link := by
  intro start ran told
  obtain ⟨fru, left⟩ := servoTurn_told s due
  have event : exec .servoEvent s =
      .next (deliver (if start = true then handFramePose { told with fru := fru } else { told with fru := fru })) := by
    rw [exec_servoEvent_left timed, servoLeft, left]
    exact congrArg (fun v => Host.Outcome.next (deliver v)) (if_congr decide_eq_true_iff.symm rfl rfl)
  obtain ⟨blocks, ch, pending, link⟩ := delivered_told s start ran fru
  obtain ⟨ran_sol, -, -, -, ran_pending⟩ := runChannels_keeps (s.planned due)
  obtain ⟨sol, waits, -⟩ := planned_keeps s due
  exact ⟨_, event, blocks, ch, (blocks.sol.trans ran_sol).trans sol, (pending.trans ran_pending).trans waits, link⟩

end

/-- Settles O43: each channel's turn, the reports of third misses in channel order, and what the event leaves of them. -/
theorem servoEventSendsFrames : Obligations.ServoEventSendsFrames := by
  intro s due unhanded timed gone start a u missed lost held newest kind own reports ran told
  have planned : u = s.planned due := congrArg (planSample start) (countFrame_eq start a).symm
  have chan : ∀ w, u.chan w = (s.chan w).prepared gone (newest w) := fun w => by
    rw [planned, planned_chan, ← planned]
  have missed_eq : ∀ w, (u.chan w).misses = missed w := fun w => by
    rw [chan]
    exact Channel.misses_eq (s.chan w)
  have lost_eq : ∀ w, (u.chan w).lost = lost w := fun w => by
    rw [Channel.lost_eq, missed_eq, chan]
    rfl
  have held_eq : ∀ w, (u.chan w).held = held w := fun w => by
    rw [chan]
    rfl
  have own_eq : ∀ w, own w = (u.chan w).close.send := fun w => by
    cases h : lost w with
    | true =>
      have frame : kind w = if (s.chan w).restartPending = true then .restart else .poll :=
        if_congr Iff.rfl rfl (if_pos h)
      refine (if_pos h).trans ?_
      rw [Channel.turn_of_lost ((lost_eq w).trans h), chan, frame]
      rfl
    | false =>
      have unlost : ¬ lost w = true := by rw [h]; decide
      have frame : kind w = frameOf (u.chan w) := by
        rw [chan]
        exact if_congr Iff.rfl rfl (if_neg unlost)
      refine (if_neg unlost).trans ?_
      rw [Channel.turn_of_kept ((lost_eq w).trans h), missed_eq, ← frame, chan]
      rfl
  have reports_eq : ∀ w v, reports w v = reportThirdMiss w (u.chan w) v := fun w v => by
    rw [reportThirdMiss_eq, lost_eq, held_eq]
  have frames : { u with ch := { u.ch with chans := ⟨own .w1, own .w2, own .w3, own .w4⟩ } } =
      onAllChans (fun c => c.close.send) u := by
    simp only [own_eq]
    rfl
  have ran_eq : ran = runChannels u := by
    show reports .w4 (reports .w3 (reports .w2 (reports .w1 _))) = _
    rw [frames]
    simp only [reports_eq]
    rfl
  have trips_iff : ∀ w, (u.chan w).trips ↔ lost w = true ∧ held w = false := fun w => by
    rw [Channel.trips, lost_eq, held_eq]
  obtain ⟨-, -, tripped_iff, -⟩ := planned_keeps s due
  obtain ⟨t, event, blocks, ch, sol, pending, link⟩ := servoEvent_ran timed
  rw [← planned] at tripped_iff blocks ch link
  rw [← ran_eq] at blocks ch link
  have chans : ∀ w, t.chan w = (runChannels u).chan w := fun w =>
    congrArg (fun c : Ch => c.chans.get (winchIndex w)) (ch.trans (congrArg State.ch ran_eq))
  refine ⟨t, event, blocks.fcu, blocks.pln, blocks.env, sol, blocks.mrk, ch, blocks.flt, blocks.sto, pending, link,
    fun quiet w => ?_, fun flight trips => ?_⟩
  · have untripped : u.fcu.flight = .tripped ∨ ∀ w, ¬ (u.chan w).trips := by
      refine quiet.imp tripped_iff.mpr fun allHeld v trips => ?_
      obtain ⟨isLost, unheld⟩ := (trips_iff v).mp trips
      rw [allHeld v isLost] at unheld
      cases unheld
    exact ((chans w).trans (runChannels_untripping untripped w)).trans (own_eq w).symm
  · obtain ⟨v, lost_v⟩ := trips
    obtain ⟨tripped, flag, braked⟩ := runChannels_trips (tripped_iff.not.mpr flight) ((trips_iff v).mpr lost_v)
    rw [← ran_eq] at tripped flag
    refine ⟨(congrArg Fcu.flight blocks.fcu).trans tripped, ?_, fun w => ?_⟩
    · exact (congrArg (fun f : Flt => (f.flags[Flag.channelLost.number]).set) blocks.flt).trans flag
    · exact ((chans w).trans (braked w)).trans (congrArg Channel.afterTrip (own_eq w).symm)

end Sys2Proof.Machine
end

section
/-! Drive answers (R156, R158 to R165, R173): which answer is valid, what a bad frame counts, and what a valid one does by the
state of its channel. -/

namespace Sys2Proof.Machine

open Sys2Proof

/-! ## Valid answers and bad frames -/

/-- An answer is valid when it echoes the frame of an open period that no restart waits in (R156; log 21). -/
theorem validAnswer_eq_some_iff (c : Channel) (bytes : List Byte) (a : AnswerFields) :
    validAnswer c bytes = some a ↔
      answerOf bytes = some a ∧ (∃ f, c.sent = some f ∧ a.echo = f.seq) ∧ c.answered = false ∧ c.restartPending = false := by
  unfold validAnswer
  cases answerOf bytes with
  | none => simp
  | some b =>
    cases c.sent with
    | none => simp
    | some f => grind

section
variable {s : State} {w : Winch} {bytes : List Byte} {a : AnswerFields}

/-- A bad frame, whole: the counter, and at the sixteenth FEEDBACK_ERRORS (R156, R173). -/
theorem badFrame_eq (w : Winch) (s : State) :
    badFrame w s =
      let u := s.onChan w fun k => { k with badFrames := if k.badFrames < 65535 then k.badFrames + 1 else 65535 }
      if (s.chan w).badFrames = 15 then report .feedbackErrors (winchNumber w) none u else u := rfl

theorem exec_driveAnswer_bad (h : validAnswer (s.chan w) bytes = none) :
    exec (.driveAnswer w bytes) s = .next (deliver (badFrame w s)) := by
  show done (driveAnswer w bytes s) = _
  rw [driveAnswer, h]
  rfl

/-- A valid answer is taken, the channel acts on it, and FCU watches the channels (R158, R53, R57). -/
theorem exec_driveAnswer_valid (h : validAnswer (s.chan w) bytes = some a) :
    exec (.driveAnswer w bytes) s = .next (deliver (watchChannels (actOnAnswer w a (s.onChan w (Channel.take a))))) := by
  show done (driveAnswer w bytes s) = _
  rw [driveAnswer, h]
  rfl

/-! ## The channel's act, by its state -/

theorem actOnAnswer_fault (hd : a.drive = .faulted) (h : (s.chan w).state ≠ .faulted) :
    actOnAnswer w a s = faultChannel w s := (if_pos hd).trans (if_neg h)

theorem actOnAnswer_fault_again (hd : a.drive = .faulted) (h : (s.chan w).state = .faulted) : actOnAnswer w a s = s :=
  (if_pos hd).trans (if_pos h)

variable (hd : a.drive ≠ .faulted)
include hd

theorem actOnAnswer_absent (h : (s.chan w).state = .absent) : actOnAnswer w a s = findDrive w a.drive s := by
  simp only [actOnAnswer, if_neg hd, h]

theorem actOnAnswer_faulted (h : (s.chan w).state = .faulted) : actOnAnswer w a s = findDrive w a.drive s := by
  simp only [actOnAnswer, if_neg hd, h]

theorem actOnAnswer_ready (h : (s.chan w).state = .ready) : actOnAnswer w a s = answerInReady w a.drive s := by
  simp only [actOnAnswer, if_neg hd, h]

theorem actOnAnswer_releasing (h : (s.chan w).state = .releasing) : actOnAnswer w a s = answerInReleasing w a.drive s := by
  simp only [actOnAnswer, if_neg hd, h]

theorem actOnAnswer_streaming (h : (s.chan w).state = .streaming) : actOnAnswer w a s = answerInStreaming w a s := by
  simp only [actOnAnswer, if_neg hd, h]

theorem actOnAnswer_braking (h : (s.chan w).state = .braking) : actOnAnswer w a s = answerInBraking w a.drive s := by
  simp only [actOnAnswer, if_neg hd, h]

theorem actOnAnswer_setting (h : (s.chan w).state = .setting) : actOnAnswer w a s = answerInSetting w a s := by
  simp only [actOnAnswer, if_neg hd, h]

end

/-- The requested length is taken when the drive reports it, valid and at its brake (R164). -/
theorem lengthTaken_iff (c : Channel) (a : AnswerFields) :
    lengthTaken c a = true ↔ a.drive = .braked ∧ a.lengthValid = true ∧ a.length = c.requested := by
  simp [lengthTaken, and_assoc]

section
variable {s : State} {w : Winch} {a : AnswerFields}

theorem answerInSetting_starting (hd : a.drive = .starting) :
    answerInSetting w a s = loseChannel w Channel.toAbsent s := if_pos hd

theorem answerInSetting_taken (hd : a.drive = .braked) (valid : a.lengthValid = true) (length : a.length = (s.chan w).requested) :
    answerInSetting w a s = settleSetting (s.onChan w Channel.toReady) :=
  (if_neg (by rw [hd]; decide)).trans (if_pos ((lengthTaken_iff _ _).mpr ⟨hd, valid, length⟩))

theorem answerInSetting_waits (hd : a.drive ≠ .starting)
    (h : ¬ (a.drive = .braked ∧ a.lengthValid = true ∧ a.length = (s.chan w).requested)) : answerInSetting w a s = s :=
  (if_neg hd).trans (if_neg fun taken => h ((lengthTaken_iff _ _).mp taken))

end

/-- Settles O49: an invalid answer is a bad frame; a valid one by the state of the channel that takes it. -/
theorem driveAnswersByState : Obligations.DriveAnswersByState := by
  intro s w bytes c n command valid
  have valid_iff : ∀ a, validAnswer c bytes = some a ↔ valid a := validAnswer_eq_some_iff c bytes
  refine ⟨fun invalid => ?_, fun a hv => ?_⟩
  · have bad : validAnswer c bytes = none := Option.eq_none_iff_forall_ne_some.mpr fun a h => invalid a ((valid_iff a).mp h)
    rw [exec_driveAnswer_bad bad, badFrame_eq]
  · intro taken calm becomes absent ready braking lost gives
    let t := s.onChan w (Channel.take a)
    have held : t.chan w = taken := (State.chan_onChan ..).trans (if_pos rfl)
    have stays : ∀ {st}, c.state = st → (t.chan w).state = st := fun h => (congrArg Channel.state held).trans h
    have moved : ∀ f, t.onChan w f = becomes (f taken) := State.onChan_onChan s w (Channel.take a)
    have toAbsent : t.onChan w Channel.toAbsent = absent := moved Channel.toAbsent
    have toReady : t.onChan w Channel.toReady = ready := moved Channel.toReady
    have toBraking : t.onChan w Channel.toBraking = braking := moved Channel.toBraking
    have isLost : ∀ {f u}, t.onChan w f = u → loseChannel w f t = lost u := fun h => congrArg lost h
    have acts : ∀ {u}, actOnAnswer w a t = u → gives u := fun h =>
      h ▸ exec_driveAnswer_valid ((valid_iff a).mpr hv)
    have works : ∀ {d}, a.drive = d → d ≠ .faulted → a.drive ≠ .faulted := fun h k => h ▸ k
    have byDrive : ∀ {op : DriveState → State → State} {p q r : State},
        (a.drive ≠ .faulted → actOnAnswer w a t = op a.drive t) → op .braked t = p → op .released t = q →
          op .starting t = r →
            (a.drive = .braked → gives p) ∧ (a.drive = .released → gives q) ∧ (a.drive = .starting → gives r) :=
      fun {op} _ _ _ takes hp hq hr =>
        have at' : ∀ {d}, a.drive = d → d ≠ .faulted → actOnAnswer w a t = op d t := fun hd k => hd ▸ takes (works hd k)
        ⟨fun hd => acts ((at' hd (by decide)).trans hp), fun hd => acts ((at' hd (by decide)).trans hq),
          fun hd => acts ((at' hd (by decide)).trans hr)⟩
    refine ⟨fun hd h => acts ?fault, fun hd h => acts (actOnAnswer_fault_again hd (stays h)), fun h => ?found,
      fun h => byDrive (fun hd => actOnAnswer_ready hd (stays h)) rfl toBraking (congrArg (notice .driveAbsent n) toAbsent),
      fun h => byDrive (fun hd => actOnAnswer_releasing hd (stays h)) rfl ?streams (isLost toAbsent),
      fun h => ⟨fun hd => acts ?braked, fun hd => acts ?starting⟩,
      fun h => byDrive (fun hd => actOnAnswer_braking hd (stays h)) toReady rfl (isLost toAbsent), fun h => ?setting⟩
    case fault =>
      have working : (t.chan w).state ≠ .faulted := fun k => h ((congrArg Channel.state held).symm.trans k)
      exact (actOnAnswer_fault hd working).trans (congrArg (report .driveFault n none) (moved _))
    case found =>
      refine byDrive (op := findDrive w) (fun hd => ?_) (congrArg (notice .drivePresent n) toReady)
        (congrArg (notice .drivePresent n) toBraking) ?_
      · exact h.elim (fun h => actOnAnswer_absent hd (stays h)) fun h => actOnAnswer_faulted hd (stays h)
      · unfold findDrive
        rw [held, toAbsent]
        rfl
    case streams => exact moved fun k => { k.calm with state := .streaming, timer := none }
    case braked =>
      rw [actOnAnswer_streaming (works hd (by decide)) (stays h), answerInStreaming, hd]
      exact isLost toReady
    case starting =>
      rw [actOnAnswer_streaming (works hd (by decide)) (stays h), answerInStreaming, hd]
      exact isLost toAbsent
    case setting =>
      have takes : a.drive ≠ .faulted → actOnAnswer w a t = answerInSetting w a t := fun hd =>
        actOnAnswer_setting hd (stays h)
      have requested : (t.chan w).requested = c.requested := (congrArg Channel.requested held :)
      refine ⟨fun hd => acts ?_, fun waits => acts ?_, fun hd valid length => acts ?_⟩
      · exact ((takes (works hd (by decide))).trans (answerInSetting_starting hd)).trans (isLost toAbsent)
      · have early : a.drive ≠ .starting ∧ a.drive ≠ .faulted := by
          rcases waits with hd | ⟨hd, -⟩ <;> rw [hd] <;> decide
        refine (takes early.2).trans (answerInSetting_waits early.1 ?_)
        rw [requested]
        rcases waits with hd | ⟨-, invalid | other⟩
        · simp [hd]
        · simp [invalid]
        · simp [other]
      · exact ((takes (works hd (by decide))).trans (answerInSetting_taken hd valid (length.trans requested.symm))).trans
          (congrArg settleSetting toReady)

end Sys2Proof.Machine
end

section
/-! The streaming checks of an answer (R170 to R172), and the ends of ARMING and PARKING that FCU watches the channels for (R53,
R57). -/

namespace Sys2Proof.Machine

open Sys2Proof

/-! ## The streaming checks -/

theorem reportIf_eq (cond : Bool) (f : Flag) (channel : Nat) (s : State) :
    reportIf cond f channel s = if cond = true then report f channel none s else s := rfl

/-- The checks, one report after the other on the checked channel (R170 to R172; log 7). -/
theorem streamingChecks_eq (w : Winch) (a : AnswerFields) (s : State) :
    streamingChecks w a s =
      let n := winchNumber w
      let now := (s.chan w).check a
      let u0 := s.onChan w fun _ => now
      let u1 := if now.warning = true ∧ (s.chan w).warning = false then report .tensionWarn n none u0 else u0
      let u2 := if now.slackCount = 2 then report .slack n none u1 else u1
      let u3 := if now.overCount = 2 then report .overtension n none u2 else u2
      if now.followCount = 3 then report .following n none u3 else u3 := by
  simp only [streamingChecks, reportIf_eq, decide_eq_true_eq, Bool.and_eq_true, Bool.not_eq_true']

/-- An answer is beyond the following limit when it gives no length, or one too far from the setpoint it echoes (R171). -/
theorem beyondFollowing_iff (c : Channel) (a : AnswerFields) :
    beyondFollowing c a = true ↔
      a.lengthValid = false ∨ 1000 * c.limits.following < ((echoedSetpoint c : Int) - a.length).natAbs := by
  simp [beyondFollowing, absDiff_eq_natAbs]

/-- The counts and the live warning of a channel that takes an answer and checks it (R158, R170 to R172). -/
theorem Channel.check_take (a : AnswerFields) (c : Channel) :
    (c.take a).check a =
      { c with
        last := ⟨some a.drive, a.lengthValid, a.length, a.tension⟩, answered := true, miss := 0
        slackCount := if a.tension < c.limits.tmin then c.slackCount + 1 else 0
        overCount := if c.limits.tmax < a.tension then c.overCount + 1 else 0
        followCount :=
          if a.lengthValid = false ∨ 1000 * c.limits.following < ((echoedSetpoint c : Int) - a.length).natAbs then
            c.followCount + 1
          else 0
        warning := decide (a.tension < c.limits.twarnLo ∨ c.limits.twarnHi < a.tension) } := by
  rw [Bool.decide_or, ← if_congr (beyondFollowing_iff c a) rfl rfl]
  rfl

/-! ## The channels watched -/

section
variable {s : State}

theorem chansAll_iff (s : State) (st : ChanState) :
    (s.ch.chans.all fun c => c.state = st) = true ↔ ∀ w, (s.chan w).state = st := by
  rw [Quad.all_iff]
  refine ⟨fun h w => of_decide_eq_true (h (winchIndex w)), fun h i => ?_⟩
  obtain ⟨w, rfl⟩ := exists_winch i
  exact decide_eq_true (h w)

/-- ARMING ends in HOLD when all four channels stream (R53). -/
theorem watchChannels_armed (arming : s.fcu.flight = .arming) (streams : ∀ w, (s.chan w).state = .streaming) :
    watchChannels s =
      notice .armed 0 { s with
        fcu := { s.fcu with flight := .hold, cause := .armed }
        pln := { s.pln with holdPos := s.pln.pos, vel := Vec3.zero }
        mrk := { s.mrk with holdPending := false } } := if_pos ⟨arming, (chansAll_iff s _).mpr streams⟩

/-- PARKING ends in PARKED when all four channels are ready (R57). -/
theorem watchChannels_parked (parking : s.fcu.flight = .parking) (ready : ∀ w, (s.chan w).state = .ready) :
    watchChannels s =
      notice .parked 0
        (requestPoseWrite { s with fcu := { s.fcu with flight := .parked, pose := ⟨s.pln.holdPos, true, .park⟩ } }) :=
  (if_neg fun h => absurd (parking.symm.trans h.1) (by decide)).trans (if_pos ⟨parking, (chansAll_iff s _).mpr ready⟩)

theorem watchChannels_waits (arming : s.fcu.flight ≠ .arming ∨ ∃ w, (s.chan w).state ≠ .streaming)
    (parking : s.fcu.flight ≠ .parking ∨ ∃ w, (s.chan w).state ≠ .ready) : watchChannels s = s := by
  refine (if_neg ?_).trans (if_neg ?_)
  · rintro ⟨flight, all⟩
    exact arming.elim (· flight) fun ⟨w, h⟩ => h ((chansAll_iff s _).mp all w)
  · rintro ⟨flight, all⟩
    exact parking.elim (· flight) fun ⟨w, h⟩ => h ((chansAll_iff s _).mp all w)

end

/-- Settles O50: the checks on the channel that has taken the answer, then FCU's two watches. -/
theorem streamingChecksAndHandshakes : Obligations.StreamingChecksAndHandshakes := by
  refine ⟨fun s w bytes a f => ?_, fun s => ⟨watchChannels_armed, watchChannels_parked, watchChannels_waits⟩⟩
  intro c n answers sent echo unanswered running streaming released echoed slack tight behind warning u0 u1 u2 u3 u4
  have valid : validAnswer c bytes = some a :=
    (validAnswer_eq_some_iff c bytes a).mpr ⟨answers, ⟨f, sent, echo⟩, unanswered, running⟩
  have length : echoedSetpoint c = echoed :=
    (congrArg (fun o => echoedSetpoint { c with sent := o }) sent).trans rfl
  let t := s.onChan w (Channel.take a)
  have held : t.chan w = c.take a := (State.chan_onChan ..).trans (if_pos rfl)
  have checks : streamingChecks w a t = u4 := by
    rw [streamingChecks_eq, held, Channel.check_take, length]
    dsimp only
    rw [State.onChan_onChan]
    rfl
  have acts : actOnAnswer w a t = u4 := by
    rw [actOnAnswer_streaming (by rw [released]; decide) (by rw [held]; exact streaming), answerInStreaming, released]
    exact checks
  rw [exec_driveAnswer_valid valid, acts]

end Sys2Proof.Machine
end

section
/-! The three timeouts of a channel (R54, R167, R178): an expiry of the state timer by its instant, and what each does. -/

namespace Sys2Proof.Machine

open Sys2Proof

section
variable {s : State} {w : Winch} {state : ChanState}

/-- A state timer that runs in its state expires at its instant (R167). -/
theorem stateExpiry_due {left : Nat} (h : (s.chan w).state = state) (running : (s.chan w).timer = some left)
    (due : s.fru.now + left ≤ s.fru.horizon) (act : State → State) :
    stateExpiry w state act s = act (advanceTo (s.fru.now + left) s) := by
  rw [stateExpiry, if_pos h, running, atExpiry_running, atInstant_due due]

/-- In another state, with the timer stopped, or with its instant beyond FRU's next event there is no expiry (log 2, log 3). -/
theorem stateExpiry_none
    (h : (∀ left, (s.chan w).timer = some left → s.fru.horizon < s.fru.now + left) ∨ (s.chan w).state ≠ state)
    (act : State → State) : stateExpiry w state act s = s := by
  unfold stateExpiry
  split
  · next holds =>
    have beyond := h.resolve_right (not_not.mpr holds)
    cases running : (s.chan w).timer with
    | none => rw [atExpiry_stopped]
    | some left => rw [atExpiry_running, atInstant_beyond (beyond left running)]
  · rfl

end

/-- Arming fails, whole (R54). -/
theorem failArming_eq (w : Winch) (s : State) :
    failArming w s =
      notice .armFailed (winchNumber w) { s with
        fcu := { s.fcu with flight := .parking }
        pln := { s.pln with vel := Vec3.zero }
        ch :=
          { s.ch with
            chans := s.ch.chans.map fun k =>
              if k.state = .releasing ∨ k.state = .streaming then
                { k with
                  state := .braking, timer := some 500000, slackCount := 0, overCount := 0, followCount := 0,
                  warning := false }
              else k } } := rfl

/-- A setting operation fails, whole (R178). -/
theorem failSetting_eq (w : Winch) (s : State) :
    failSetting w s =
      notice .referenceFailed (winchNumber w) (requestPoseWrite { s with
        fcu := { s.fcu with pose := { s.fcu.pose with valid := false } }
        ch :=
          { chans := s.ch.chans.map fun k => if k.state = .setting then { k with state := .ready, timer := none } else k
            op := { s.ch.op with kind := .noSetting } } }) := rfl

/-- Settles O51: each timeout at its instant, and none elsewhere. -/
theorem channelTimeouts : Obligations.ChannelTimeouts := by
  refine ⟨fun s w left running due => ?_, fun s w unhanded => ?_⟩
  · intro n a
    have expires : ∀ {state : ChanState} (act : State → State), (s.chan w).state = state →
        done (stateExpiry w state act s) = .next (deliver (act a)) := fun act h =>
      congrArg done (stateExpiry_due h running due act)
    refine ⟨fun releasing => ?_, fun braking => expires (loseChannel w fun c => { c with timer := some 500000 }) braking,
      fun setting => ?_⟩
    · intro u
      obtain ⟨fcu, pln, -⟩ :=
        report_sameButFlags (f := .armTimeout) rfl n none (a.onChan w fun k => { k with timer := none })
      have fcu : u.fcu = s.fcu := fcu
      have pln : u.pln = a.pln := pln
      have effect : releaseTimeout w a = if s.fcu.flight = .arming then failArming w u else u := fcu ▸ rfl
      refine ⟨fun flies => (expires (releaseTimeout w) releasing).trans ?_,
        fun arming => (expires (releaseTimeout w) releasing).trans ?_⟩
      · rw [effect, if_neg flies]
      · rw [effect, if_pos arming, failArming_eq, fcu, pln]
    · intro u
      obtain ⟨fcu, -, -, -, -, -, ch, -⟩ := report_sameButFlags (f := .settingTimeout) rfl n none a
      have fcu : u.fcu = s.fcu := fcu
      have ch : u.ch = a.ch := ch
      refine (expires (settingTimeout w) setting).trans ?_
      have effect : settingTimeout w a = failSetting w u := rfl
      rw [effect, failSetting_eq, fcu, ch]
      rfl
  · intro beyond
    have still : ∀ {state : ChanState} (act : State → State), (beyond ∨ (s.chan w).state ≠ state) →
        done (stateExpiry w state act s) = .next s := fun act h =>
      (congrArg done (stateExpiry_none h act)).trans (done_of_none unhanded)
    exact ⟨still (releaseTimeout w), still (loseChannel w fun c => { c with timer := some stateTimeout }),
      still (settingTimeout w)⟩

end Sys2Proof.Machine
end

section
/-! The setting operations (R174 to R177) and the drive restart (R180): what a start asks of the channels, the completion, and the
checks of REFERENCE, DECLARE_POSE and RESTART_DRIVE. -/

namespace Sys2Proof.Machine

open Sys2Proof

/-! ## Tables of flags -/

theorem winchBits_eq_zero_iff (q : Quad Bool) : winchBits q = 0 ↔ ∀ w, q.get (winchIndex w) = false := by
  refine ⟨fun h w => ?_, winchBits_eq_zero⟩
  rw [← winchBits_testBit, h, Nat.zero_testBit]

theorem countTrue_eq_count (q : Quad Bool) : countTrue q = q.toList.count true := by
  rw [countTrue, List.count_eq_length_filter]
  simp only [beq_true]
  rfl

theorem Quad.mem_toList {α : Type} {q : Quad α} {x : α} : x ∈ q.toList ↔ ∃ w, q.get (winchIndex w) = x := by
  simp only [Quad.toList, List.mem_cons, List.not_mem_nil, or_false]
  constructor
  · rintro (rfl | rfl | rfl | rfl)
    exacts [⟨.w1, rfl⟩, ⟨.w2, rfl⟩, ⟨.w3, rfl⟩, ⟨.w4, rfl⟩]
  · rintro ⟨w, rfl⟩
    cases w <;> simp [winchIndex, Quad.get]

/-- No channel is counted exactly when no entry is set. -/
theorem Quad.count_true_eq_zero_iff (q : Quad Bool) : q.toList.count true = 0 ↔ q = Quad.fill false := by
  rw [List.count_eq_zero, Quad.mem_toList]
  constructor
  · intro h
    refine Quad.ext_get fun i => ?_
    obtain ⟨w, rfl⟩ := exists_winch i
    rw [Quad.get_fill]
    exact eq_false_of_ne_true fun k => h ⟨w, k⟩
  · rintro rfl ⟨w, h⟩
    rw [Quad.get_fill] at h
    cases h

/-! ## Start and completion -/

/-- The channels of a setting operation after its start: the involved ones in SETTING with their lengths (R175, R176). -/
def State.settingAt (s : State) (point : Vec3) (involved : Quad Bool) : Quad Channel :=
  (s.ch.chans.zip s.sol.anchors fun c anchor =>
    { c with state := .setting, requested := setpointAt anchor point, timer := some 500000 }).zip
    (s.ch.chans.zip involved fun c i => (c, i)) fun set old => if old.2 then set else old.1

section
variable {s : State}

theorem ready_of_notReady (h : winchBits (notReady s) = 0) (w : Winch) : (s.chan w).state = .ready := by
  simpa [notReady, State.chan] using (winchBits_eq_zero_iff _).mp h w

/-- A setting operation that starts with every channel READY (R175, R176). -/
theorem startSetting_eq (ready : ∀ w, (s.chan w).state = .ready) (kind : SettingKind) (point : Vec3) (involved : Quad Bool) :
    startSetting kind point involved s =
      { s with ch := { chans := s.settingAt point involved, op := ⟨kind, point, involved⟩ } } := by
  have chans : (startSetting kind point involved s).ch.chans = s.settingAt point involved := by
    refine Quad.ext_get fun i => ?_
    obtain ⟨w, rfl⟩ := exists_winch i
    have requested : ∀ n, (s.chan w).setRequest n = { s.chan w with state := .setting, requested := n, timer := some 500000 } :=
      fun n => if_pos (ready w)
    simp only [startSetting, State.onCh_ch, State.settingAt, Quad.get_zip, setpointsAt, Quad.get_map]
    exact if_congr Iff.rfl (requested _) rfl
  rw [← chans]
  rfl

theorem settingAt_involved {point : Vec3} {involved : Quad Bool} {w : Winch} (h : involved.get (winchIndex w) = true) :
    ((s.settingAt point involved).get (winchIndex w)).state = .setting := by
  simp only [State.settingAt, Quad.get_zip, h, if_true]

theorem settingAt_none (s : State) (point : Vec3) : s.settingAt point (Quad.fill false) = s.ch.chans := by
  refine Quad.ext_get fun i => ?_
  simp [State.settingAt]

theorem anySetting_iff (s : State) : (s.ch.chans.any fun c => c.state = .setting) = true ↔ ∃ w, (s.chan w).state = .setting := by
  rw [Quad.any_iff]
  refine ⟨fun ⟨i, h⟩ => ?_, fun ⟨w, h⟩ => ⟨winchIndex w, decide_eq_true h⟩⟩
  obtain ⟨w, rfl⟩ := exists_winch i
  exact ⟨w, of_decide_eq_true h⟩

/-- A setting operation is done when one is in progress and no channel is in SETTING any more (R177). -/
def State.settingDone (s : State) : Prop := s.ch.op.kind ≠ .noSetting ∧ ∀ w, (s.chan w).state ≠ .setting

theorem settles_iff (s : State) :
    (settingInProgress s && !(s.ch.chans.any fun c => c.state = .setting)) = true ↔ s.settingDone := by
  rw [Bool.and_eq_true, Bool.not_eq_true', ← Bool.not_eq_true, anySetting_iff, not_exists]
  exact and_congr_left' decide_eq_true_iff

theorem settleSetting_done (h : s.settingDone) : settleSetting s = completeSetting s := if_pos ((settles_iff s).mpr h)

theorem settleSetting_waits (h : ¬ s.settingDone) : settleSetting s = s := if_neg fun k => h ((settles_iff s).mp k)

end

/-- The completion, whole (R177). -/
theorem completeSetting_eq (s : State) :
    completeSetting s =
      let declared := s.ch.op.kind = .declare
      let u := requestPoseWrite { s with
        fcu := { s.fcu with pose := ⟨s.ch.op.point, true, if declared then .declare else .reference⟩ } }
      notice .referenceDone (if declared then 1 else 0) { u with
        mrk :=
          { s.mrk with
            markers := s.mrk.markers.map (Option.map fun m => { m with inside := insideMarker m.spec s.ch.op.point }) }
        ch := { s.ch with op := { s.ch.op with kind := .noSetting } } } := by
  simp only [completeSetting, writePose, requestPoseWrite_eq]
  rfl

/-! ## REFERENCE -/

section
variable {s : State} {seat : Seat}

theorem reference_refused {d0 d1 : Byte} (ht : s.takesRecord ⟨seat, 0x1B, [d0, d1]⟩) {code : ErrorCode} {detail : Nat}
    (h : firstError (referenceChecks s) = some (code, detail)) :
    exec (.reference seat d0 d1) s = .next (s.refused seat code detail) :=
  done_decode_refused ht (answer_refused (checks := referenceChecks s.afterDecode) h _ _ _ _)

/-- REFERENCE's checks past the gate (R175). -/
theorem referenceChecks_ready (hr : s.settable) :
    firstError (referenceChecks s) =
      firstError
        [(!s.sol.homeValid, .badValue, 0),
          ((s.env.blockedAt (toMicrons s.sol.home)).isSome, .homeBlocked, (s.env.blockedAt (toMicrons s.sol.home)).getD 0),
          (winchBits (notReady s) ≠ 0, .channelNotReady, winchBits (notReady s))] :=
  firstError_gate_ready hr _

/-! ## DECLARE_POSE -/

theorem declare_refused {p : List Byte} (ht : s.takesRecord ⟨seat, 0x2D, p⟩) {code : ErrorCode} {detail : Nat}
    (h : firstError (declareChecks (vecAt p 0 4) s) = some (code, detail)) :
    exec (.declarePose seat p) s = .next (s.refused seat code detail) :=
  done_decode_refused ht (answer_refused (checks := declareChecks (vecAt p 0 4) s.afterDecode) h _ _ _ _)

theorem declare_taken {p : List Byte} (ht : s.takesRecord ⟨seat, 0x2D, p⟩) (h : firstError (declareChecks (vecAt p 0 4) s) = none) :
    exec (.declarePose seat p) s = .next (deliver (startDeclare (toMicrons (vecAt p 0 4)) (s.acked seat 0x2D 0))) :=
  congrArg done ((decodeCommand_taken ht _).trans
    (answer_taken (checks := declareChecks (vecAt p 0 4) s.afterDecode) h _ _ _ _))

/-- DECLARE_POSE's checks past the gate (R176). -/
theorem declareChecks_ready (hr : s.settable) (mm : Vec3) :
    firstError (declareChecks mm s) =
      firstError
        [(!legalPositionMm mm, .badValue, 0),
          (!s.env.boxValid, .noWorkspace, 0),
          ((poseBlock s.env (toMicrons mm)).isSome, .poseBlocked, (poseBlock s.env (toMicrons mm)).getD 0),
          (winchBits (notReady s) ≠ 0, .channelNotReady, winchBits (notReady s)),
          (1 < (lengthInvalid s).toList.count true, .notReferenced, winchBits (lengthInvalid s)),
          (winchBits (validMismatch s (toMicrons mm)) ≠ 0, .poseMismatch, winchBits (validMismatch s (toMicrons mm)))] := by
  rw [← countTrue_eq_count]
  exact firstError_gate_ready hr _

/-- The channels with a valid length off the setpoint at a position (R176). -/
theorem validMismatch_eq (s : State) (p : Vec3) :
    validMismatch s p =
      s.ch.chans.zip s.sol.anchors fun c anchor =>
        c.last.lengthValid && decide (1000 * s.env.limits.poseTol < ((c.last.length : Int) - setpointAt anchor p).natAbs) := by
  refine Quad.ext_get fun i => ?_
  simp only [validMismatch, overTolerance_eq, lengthInvalid, Quad.get_zip, Quad.get_map, Bool.not_not, Bool.and_comm]

/-- DECLARE_POSE waits for the channels whose length is not valid (R176). -/
theorem startDeclare_waits (ready : ∀ w, (s.chan w).state = .ready) (p : Vec3) (h : (lengthInvalid s).toList.count true ≠ 0) :
    startDeclare p s =
      { s with ch := { chans := s.settingAt p (lengthInvalid s), op := ⟨.declare, p, lengthInvalid s⟩ } } := by
  rw [startDeclare, startSetting_eq ready]
  refine settleSetting_waits fun ⟨_, settled⟩ => ?_
  obtain ⟨w, lost⟩ := Quad.mem_toList.mp (List.count_pos_iff.mp (Nat.pos_of_ne_zero h))
  exact settled w (settingAt_involved lost)

/-- With none of those it completes at once (R176, R177). -/
theorem startDeclare_completes (ready : ∀ w, (s.chan w).state = .ready) (p : Vec3)
    (h : (lengthInvalid s).toList.count true = 0) :
    startDeclare p s = completeSetting { s with ch := { s.ch with op := ⟨.declare, p, lengthInvalid s⟩ } } := by
  have kept : s.settingAt p (lengthInvalid s) = s.ch.chans := by
    rw [(Quad.count_true_eq_zero_iff _).mp h, settingAt_none]
  rw [startDeclare, startSetting_eq ready, kept]
  refine settleSetting_done ⟨nofun, fun w setting => ?_⟩
  cases (ready w).symm.trans setting

/-! ## RESTART_DRIVE -/

theorem restart_refused {d0 d1 : Byte} (ht : s.takesRecord ⟨seat, 0x1C, [d0, d1]⟩) {code : ErrorCode} {detail : Nat}
    (h : firstError (restartChecks d0 s) = some (code, detail)) :
    exec (.restartDrive seat d0 d1) s = .next (s.refused seat code detail) :=
  done_decode_refused ht (answer_refused (checks := restartChecks d0 s.afterDecode) h _ _ _ _)

theorem restart_taken {d0 d1 : Byte} (ht : s.takesRecord ⟨seat, 0x1C, [d0, d1]⟩) {w : Winch} (hw : winchOf d0.toNat = some w)
    (h : firstError (restartChecks d0 s) = none) :
    exec (.restartDrive seat d0 d1) s = .next ((s.acked seat 0x1C 0).onChan w Channel.restart) := by
  have effect : ∀ u, restartDrive d0 u = u.onChan w Channel.restart := fun u => by rw [restartDrive, hw]
  exact done_decode_taken ht
    ((answer_taken (checks := restartChecks d0 s.afterDecode) h _ _ _ _).trans (effect (s.acked seat 0x1C 0))) rfl

end

/-- Settles O52: each record by its list of checks, the start on the involved channels, and the completion. -/
theorem settingOperations : Obligations.SettingOperations := by
  unfold Obligations.SettingOperations
  intro starts refuses underWay idle
  have settable : ∀ s : State, s.fcu.flight = .parked → ¬ underWay s → s.settable := fun s parked still =>
    ⟨parked, not_not.mp fun k => still (Or.inl k), not_not.mp fun k => still (Or.inr k)⟩
  refine ⟨fun s seat d0 d1 ht => ?reference, fun s seat p ht => ?declare,
    fun s => ⟨settleSetting_waits, settleSetting_done, completeSetting_eq s⟩, fun s seat d0 d1 ht => ?restart⟩
  case reference =>
    intro refused home
    obtain ⟨flying, busy⟩ := settings_gates (c := .reference seat d0 d1) rfl (fun _ _ h => answer_gate_failing h) ht
    refine ⟨flying, busy, fun parked still => ?_⟩
    have checks := referenceChecks_ready (settable s parked still)
    have idle_eq : winchBits (notReady s) = idle s := rfl
    refine ⟨fun unset => reference_refused ht (checks.trans ?_), fun set => ⟨fun slot blocked => ?_, fun clear => ?_⟩⟩
    · simp [unset]
    · have blocked : s.env.blockedAt (toMicrons s.sol.home) = some slot := blocked
      exact reference_refused ht (checks.trans (by simp [set, blocked]))
    · have clear : s.env.blockedAt (toMicrons s.sol.home) = none := clear
      refine ⟨fun missing => reference_refused ht (checks.trans ?_), fun ready => ?_⟩
      · simp [set, clear, idle_eq, missing]
      · have passes : firstError (referenceChecks s) = none := checks.trans (by simp [set, clear, idle_eq, ready])
        exact done_decode_taken ht ((answer_taken (checks := referenceChecks s.afterDecode) passes _ _ _ _).trans
          (startSetting_eq (s := s.acked seat 0x1B 0) (ready_of_notReady ready) .reference home (Quad.fill true))) rfl
  case declare =>
    intro refused mm point lost far
    obtain ⟨flying, busy⟩ := settings_gates (c := .declarePose seat p) rfl (fun _ _ h => answer_gate_failing h) ht
    refine ⟨flying, busy, fun parked still => ?_⟩
    have checks := declareChecks_ready (settable s parked still) mm
    have fails : ∀ code detail, _ → refused code detail := fun code detail h => declare_refused ht (checks.trans h)
    have idle_eq : winchBits (notReady s) = idle s := rfl
    have lost_eq : lengthInvalid s = lost := rfl
    have far_eq : winchBits (validMismatch s (toMicrons mm)) = far := congrArg winchBits (validMismatch_eq s _)
    refine ⟨fun illegal => fails _ _ ?_, fun legal => ⟨fun unset => fails _ _ ?_, fun box => ⟨fun outside => fails _ _ ?_,
      fun slot inside held => fails _ _ ?_, fun free => ⟨fun missing => fails _ _ ?_, fun ready => ⟨fun unknown => fails _ _ ?_,
        fun known => ⟨fun off => fails _ _ ?_, fun near => ?_⟩⟩⟩⟩⟩⟩
    · simp [illegal]
    · simp [legal, unset]
    · have block : poseBlock s.env (toMicrons mm) = some 0xFF := poseBlock_outside outside
      simp [legal, box, block]
    · have block : poseBlock s.env (toMicrons mm) = some slot := (poseBlock_inside inside).trans held
      simp [legal, box, block]
    all_goals have clear : poseBlock s.env (toMicrons mm) = none := (poseBlock_eq_none_iff _ _).mpr free
    · simp [legal, box, clear, idle_eq, missing]
    · simp [legal, box, clear, idle_eq, ready, lost_eq, unknown]
    all_goals have known : (1 < lost.toList.count true) = False := eq_false (Nat.not_lt.mpr known)
    · simp [legal, box, clear, idle_eq, ready, lost_eq, known, far_eq, off]
    · have passes : firstError (declareChecks mm s) = none :=
        checks.trans (by simp [legal, box, clear, idle_eq, ready, lost_eq, known, far_eq, near])
      intro a
      have taken := declare_taken ht passes
      refine ⟨fun one => taken.trans ?_, fun none => taken.trans ?_⟩
      · have waits := startDeclare_waits (s := a) (ready_of_notReady ready) point (one.trans_ne one_ne_zero)
        exact (congrArg done waits).trans (done_of_none ht.handed)
      · exact congrArg done (startDeclare_completes (s := a) (ready_of_notReady ready) point none)
  case restart =>
    intro refused open'
    refine ⟨fun closed => restart_refused ht ?_, fun opened underWay => restart_refused ht ?_,
      fun opened still => ⟨fun bad => restart_refused ht ?_, fun w hw => restart_taken ht (w := w) ?_ ?_⟩⟩
    · simp [restartChecks, not_or.mp closed]
    all_goals have opened : ¬ (s.fcu.flight ≠ .parked ∧ s.fcu.flight ≠ .tripped) := fun k => opened.elim k.1 k.2
    · simp [restartChecks, opened, settingInProgress, underWay]
    · simp [restartChecks, opened, settingInProgress, still, (winchOf_isNone_iff _).mpr bad]
    · rw [← hw, winchOf_winchNumber]
    · simp [restartChecks, opened, settingInProgress, still, ← hw, winchOf_winchNumber]

end Sys2Proof.Machine
end

section
/-! The flags of FLT (R182 to R193): one flag after an occurrence and after CLEAR_FAULTS, and the operations that leave every TRIP
flag as it stands. -/

namespace Sys2Proof.Machine

open Sys2Proof

/-! ## One flag -/

theorem flag_of_flt {s t : State} (h : t.flt = s.flt) (f : Flag) : t.flag f = s.flag f := by rw [State.flag, h]; rfl

/-- An occurrence of a flag that is no TRIP flag changes the entry of that flag alone (R183). -/
theorem flag_report {f : Flag} (hf : f.isTrip = false) (channel : Nat) (seat : Option Seat) (s : State) (g : Flag) :
    (report f channel seat s).flag g = if g = f then (s.flag f).occur channel else s.flag g := by
  obtain ⟨code, named⟩ := Option.ne_none_iff_exists'.mp fun none => by
    rw [(Flag.isTrip_iff f).mpr none] at hf
    cases hf
  rw [← State.flag_setFlag]
  simp only [report, named]
  split <;> rfl

/-- A pass over a list of flags clears those of the list whose condition does not persist (R193). -/
theorem flag_clearPass (s : State) (f : Flag) (flags : List Flag) (t : State) :
    (flags.foldl (fun t g => if persists s g then t else t.setFlag g FlagEntry.clear) t).flag f =
      if f ∈ flags ∧ persists s f = false then FlagEntry.clear else t.flag f := by
  induction flags generalizing t with
  | nil => simp
  | cons g rest ih =>
    rw [List.foldl_cons, ih]
    by_cases hg : f = g
    · subst hg
      cases hp : persists s f <;> simp
    · cases hp : persists s g <;> simp [hg]

/-- CLEAR_FAULTS clears every flag but those whose condition persists (R193). -/
theorem flag_clearFlags (s : State) (f : Flag) :
    (clearFlags s).flag f = if persists s f then s.flag f else FlagEntry.clear := by
  rw [clearFlags, flag_clearPass]
  cases persists s f <;> simp [mem_allFlags]

/-- No TRIP flag is set (R182). -/
theorem anySet_tripFlags_eq_false_iff (s : State) :
    anySet s tripFlags = false ↔ ∀ f : Flag, f.isTrip = true → (s.flag f).set = false := by
  rw [← Bool.not_eq_true, anySet_tripFlags_iff]
  simp

/-! ## TRIP flags that stand -/

/-- Every TRIP flag stands. -/
def State.SameTrips (s t : State) : Prop := ∀ f : Flag, f.isTrip = true → t.flag f = s.flag f

theorem State.SameTrips.of_flt {s t : State} (h : t.flt = s.flt) : s.SameTrips t := fun f _ => flag_of_flt h f

theorem State.SameTrips.refl (s : State) : s.SameTrips s := .of_flt rfl

theorem State.SameTrips.trans {s t u : State} (h : s.SameTrips t) (k : t.SameTrips u) : s.SameTrips u :=
  fun f hf => (k f hf).trans (h f hf)

theorem report_sameTrips {f : Flag} (hf : f.isTrip = false) (channel : Nat) (seat : Option Seat) (s : State) :
    s.SameTrips (report f channel seat s) := by
  intro g hg
  rw [flag_report hf, if_neg]
  rintro rfl
  rw [hf] at hg
  cases hg

theorem State.SameTrips.reported {s t : State} (h : s.SameTrips t) {f : Flag} (hf : f.isTrip = false) (channel : Nat)
    (seat : Option Seat) : s.SameTrips (report f channel seat t) := h.trans (report_sameTrips hf channel seat t)

/-! ### Moves -/

theorem rejectPath_sameTrips (s : State) : s.SameTrips (rejectPath s) :=
  (State.SameTrips.reported (t := flushQueue (emptyHand s)) (.of_flt rfl) (f := .pathRejected) rfl 0 none).trans (.of_flt rfl)

theorem startMove_flt (m : Move) (step : Bool) (s : State) : (startMove m step s).flt = s.flt := by
  unfold startMove
  dsimp only
  split <;> rfl

theorem arriveWith_sameTrips {onEnd : State → State} (h : ∀ s : State, s.SameTrips (onEnd s)) (hand : MoveInHand) (s : State) :
    s.SameTrips (arriveWith onEnd hand s) := by
  have told : ∀ (b : Bool) (m : MoveInHand), s.SameTrips
      (if b = true then moveNotice .moveDone m.move (s.onPln fun p => { p with inHand := some m })
        else s.onPln fun p => { p with inHand := some m }) := by
    intro b m
    cases b <;> exact .of_flt rfl
  unfold arriveWith
  dsimp only
  split
  · exact (told _ _).trans (h _)
  · split
    · exact (told _ _).trans (h _)
    · exact (told _ _).trans (.of_flt rfl)

theorem beginWith_sameTrips {onEnd : State → State} (h : ∀ s : State, s.SameTrips (onEnd s)) (m : Move) (step : Bool)
    (s : State) : s.SameTrips (beginWith onEnd m step s) := by
  cases passes : beginPasses m s with
  | false =>
    rw [beginWith_of_fails onEnd step passes]
    exact rejectPath_sameTrips s
  | true =>
    rw [beginWith_of_passes onEnd step passes]
    split
    · exact (State.SameTrips.of_flt (startMove_flt m step s)).trans (arriveWith_sameTrips h _ _)
    · exact .of_flt (startMove_flt m step s)

theorem earlyEnd_flt {step : Bool} {s t : State} (h : earlyEnd step s = some t) : t.flt = s.flt := by
  unfold earlyEnd at h
  split at h
  · cases h; rfl
  · split at h
    · cases h; rfl
    · cases h

theorem moveEndFrom_sameTrips (queue : List Move) : ∀ (step : Bool) (s : State), s.SameTrips (moveEndFrom queue step s) := by
  induction queue with
  | nil =>
    intro step s
    unfold moveEndFrom
    dsimp only
    split
    · next h => exact .of_flt (earlyEnd_flt (s := emptyHand s) h)
    · exact .of_flt rfl
  | cons head rest ih =>
    intro step s
    unfold moveEndFrom
    dsimp only
    split
    · next h => exact .of_flt (earlyEnd_flt (s := emptyHand s) h)
    · split
      · exact .of_flt rfl
      · exact State.SameTrips.trans (t := (emptyHand s).onPln fun p => { p with queue := rest }) (.of_flt rfl)
          (beginWith_sameTrips (ih false) head false _)

theorem moveEnd_sameTrips (step : Bool) (s : State) : s.SameTrips (moveEnd step s) := moveEndFrom_sameTrips _ step s

/-! ### What a sample concludes -/

/-- A stream fault cancels the stream and starts a stop, its flag no TRIP flag (R119, R120). -/
theorem streamFault_sameTrips {f : Flag} (hf : f.isTrip = false) (rate : Nat) (cause : StopCause) (s : State) :
    s.SameTrips (startStop .axis rate cause (cancelStream (report f 0 none s))) :=
  (report_sameTrips hf 0 none s).trans (.of_flt rfl)

theorem concludePath_sameTrips (kind : SampleKind) (m : MoveInHand) (s : State) : s.SameTrips (concludePath kind m s) := by
  unfold concludePath
  split
  · split
    · exact arriveWith_sameTrips (moveEnd_sameTrips _) m s
    · exact .refl s
  · split
    · exact moveEnd_sameTrips _ s
    · exact .refl s
  · split
    · unfold stopRested
      split <;> exact .of_flt rfl
    · split
      · unfold stopArrived
        dsimp only
        split <;> exact .of_flt rfl
      · exact .refl s
  · exact .refl s

theorem concludeFollow_sameTrips (played : Vec3) (first : Bool) (s : State) : s.SameTrips (concludeFollow played first s) := by
  have rest : ∀ u : State, u.SameTrips
      (if 1000 * u.env.limits.lagLimit < chebyshev played u.pln.pos then lagEnd u
        else if u.pln.stream.state = .ending ∧ u.pln.stream.samples = [] then endStream u else u) := by
    intro u
    split
    · exact streamFault_sameTrips (f := .streamLag) rfl _ _ u
    · split <;> exact .of_flt rfl
  unfold concludeFollow
  cases first
  · exact rest s
  · exact State.SameTrips.trans (t := notice .streamPlaying 0 s) (.of_flt rfl) (rest _)

/-- What a sample concludes raises no TRIP flag: PATH_REJECTED and STREAM_LAG at most (R41, R61, R75, R79 to R81, R84, R116 to R122). -/
theorem conclude_sameTrips (kind : SampleKind) (struck : Bool) (s : State) : s.SameTrips (conclude kind struck s) := by
  have path : ∀ k, s.SameTrips (if struck = true then strikeEnd s else s.pln.inHand.elim s fun m => concludePath k m s) := by
    intro k
    split
    · exact .of_flt rfl
    · cases s.pln.inHand with
      | none => exact .refl s
      | some m => exact concludePath_sameTrips k m s
  cases kind with
  | rest | stick => exact .refl s
  | follow played first => exact concludeFollow_sameTrips played first s
  | axisStop =>
    change s.SameTrips (if s.pln.vel = Vec3.zero then endAxisStop s else s)
    split
    · unfold endAxisStop
      split <;> exact .of_flt rfl
    · exact .refl s
  | moving | dwelling | pathStop => exact path _

/-! ### Preparation and commitment -/

theorem prepareFollow_flt (first : Bool) (head : Sample) (rest : List Sample) (s : State) :
    (prepareFollow first head rest s).state.flt = s.flt := by
  obtain ⟨low, critical, high, handed, banded⟩ :=
    evaluateBands_keeps (s.onPln fun p => { p with stream := { p.stream with samples := rest } })
  unfold prepareFollow
  rw [banded]
  rfl

theorem prepareTrack_flt (s : State) : (prepareTrack s).state.flt = s.flt := by
  unfold prepareTrack
  split
  · rfl
  · split <;> rfl

theorem prepareStopping_flt (s : State) : (prepareStopping s).state.flt = s.flt := by
  unfold prepareStopping
  split <;> rfl

theorem prepareStream_sameTrips (s : State) : s.SameTrips (prepareStream s).state := by
  unfold prepareStream
  split
  · exact .of_flt (prepareFollow_flt _ _ _ s)
  · split
    · exact State.SameTrips.trans (t := underrun s) (streamFault_sameTrips (f := .streamUnderrun) rfl _ _ s) (.of_flt rfl)
    · exact .of_flt rfl

theorem prepareStartOfPlay_sameTrips (s : State) : s.SameTrips (prepareStartOfPlay s).state := by
  unfold prepareStartOfPlay
  dsimp only
  split
  · exact (report_sameTrips (f := .streamUnderrun) rfl 0 none s).trans (.of_flt rfl)
  · split
    · exact .of_flt rfl
    · exact .of_flt (prepareFollow_flt _ _ _ _)

/-- A sample prepared raises STREAM_UNDERRUN at most (R43, R115, R120). -/
theorem prepareSample_sameTrips {frameStart : Bool} {s : State} :
    ∀ p, prepareSample frameStart s = some p → s.SameTrips p.state := by
  have given : ∀ q : Prepared, s.SameTrips q.state → ∀ p, some q = some p → s.SameTrips p.state :=
    fun q hq p h => Option.some.inj h ▸ hq
  unfold prepareSample
  cases s.fcu.flight with
  | parked | parking | tripped => exact fun _ h => nomatch h
  | arming | stick => exact given _ (.of_flt rfl)
  | hold =>
    refine given _ ?_
    split
    · exact prepareStartOfPlay_sameTrips s
    · exact .of_flt rfl
  | track => exact given _ (.of_flt (prepareTrack_flt s))
  | stream => exact given _ (prepareStream_sameTrips s)
  | stopping => exact given _ (.of_flt (prepareStopping_flt s))

/-- A commitment raises WALL_STRIKE at most (R41). -/
theorem commit_sameTrips (p : Prepared) : p.state.SameTrips p.commit := by
  have examined : ∀ (flight : FlightState) (place : Vec3) (u : State),
      (examineMarkers flight place (handSetpoints u)).flt = u.flt := by
    intro flight place u
    obtain ⟨mrk, handed, h⟩ := examineMarkers_keeps flight place (handSetpoints u)
    rw [h]
    rfl
  unfold Prepared.commit
  dsimp only
  refine State.SameTrips.trans ?_ (.of_flt (examined _ _ _))
  split
  · exact State.SameTrips.reported (.of_flt rfl) rfl 0 none
  · exact .of_flt rfl

/-- The sample of a servo event raises no TRIP flag (R43). -/
theorem planSample_sameTrips (frameStart : Bool) (s : State) : s.SameTrips (planSample frameStart s) := by
  unfold planSample
  cases hp : prepareSample frameStart s with
  | none => exact .refl s
  | some p => exact ((prepareSample_sameTrips p hp).trans (commit_sameTrips p)).trans (conclude_sameTrips _ _ _)

/-! ### Zone stops -/

theorem startZoneStop_sameTrips (m : MoveInHand) (s : State) : s.SameTrips (startZoneStop m s) := by
  have flushed : s.SameTrips (flushQueue (s.onPln fun p =>
      { p with inHand := some { m with phase := .abandoned, stepFlag := false } })) := .of_flt rfl
  exact (flushed.reported (f := .zoneStop) rfl 0 none).trans (.of_flt rfl)

end Sys2Proof.Machine
end

section
/-! The tenth law (R186, R194): what every operation keeps of it. A TRIP flag is raised by its occurrence alone, which leaves the part
TRIPPED, and TRIPPED is left by CLEAR_FAULTS and by a part reset alone. -/

namespace Sys2Proof.Machine

open Sys2Proof

/-! ## The relation -/

/-- A state reached with the tenth law kept. -/
def State.KeepsTripLaw (s t : State) : Prop := tripLaw s → tripLaw t

namespace State.KeepsTripLaw

variable {s t u : State}

theorem refl (s : State) : s.KeepsTripLaw s := id

theorem trans (h : s.KeepsTripLaw t) (k : t.KeepsTripLaw u) : s.KeepsTripLaw u := k ∘ h

/-- The TRIP flags stand, and TRIPPED is not left. -/
theorem of_trips (same : s.SameTrips t) (stays : s.fcu.flight = .tripped → t.fcu.flight = .tripped) : s.KeepsTripLaw t :=
  fun law f hf set => stays (law f hf (by rwa [same f hf] at set))

/-- The flight state and FLT stand. -/
theorem of_blocks (flight : t.fcu.flight = s.fcu.flight) (flt : t.flt = s.flt) : s.KeepsTripLaw t :=
  of_trips (.of_flt flt) flight.trans

/-- The TRIP flags stand in another flight state than TRIPPED, so none is set: the flight state may become any. -/
theorem of_untripped (untripped : s.fcu.flight ≠ .tripped) (same : s.SameTrips t) : s.KeepsTripLaw t :=
  of_trips same fun h => absurd h untripped

/-- A known flight state other than TRIPPED is left with FLT as it stands. -/
theorem of_leaving {flight : FlightState} (known : s.fcu.flight = flight) (untripped : flight ≠ .tripped)
    (flt : t.flt = s.flt) : s.KeepsTripLaw t := of_untripped (known ▸ untripped) (.of_flt flt)

/-- The part is TRIPPED. -/
theorem of_tripped (h : t.fcu.flight = .tripped) : s.KeepsTripLaw t := fun _ _ _ _ => h

/-- No TRIP flag is set. -/
theorem of_clear (h : ∀ f : Flag, f.isTrip = true → (t.flag f).set = false) : s.KeepsTripLaw t := by
  intro _ f hf set
  rw [h f hf] at set
  cases set

end State.KeepsTripLaw

/-! ## LINK -/

theorem reply_keepsTripLaw (seat : Seat) (m : Message) (s : State) : s.KeepsTripLaw (reply seat m s) := .of_blocks rfl rfl

theorem ack_keepsTripLaw (seat : Seat) (type : BitVec 6) (n : Nat) (s : State) : s.KeepsTripLaw (ack seat type n s) :=
  reply_keepsTripLaw _ _ s

theorem refuse_keepsTripLaw (seat : Seat) (code : ErrorCode) (n : Nat) (s : State) : s.KeepsTripLaw (refuse seat code n s) :=
  reply_keepsTripLaw _ _ s

theorem notice_keepsTripLaw (code : NoticeCode) (n : Nat) (s : State) : s.KeepsTripLaw (notice code n s) := .of_blocks rfl rfl

theorem onLink_keepsTripLaw (f : Link → Link) (s : State) : s.KeepsTripLaw (s.onLink f) := .of_blocks rfl rfl

theorem awaitDecode_keepsTripLaw (r : Record) (s : State) : s.KeepsTripLaw (awaitDecode r s) := by
  unfold awaitDecode
  split
  · exact .refl s
  · exact onLink_keepsTripLaw _ s

/-- The end of a command keeps what the command kept. -/
theorem done_keepsTripLaw {s u : State} (h : s.KeepsTripLaw u) : ∃ t, done u = .next t ∧ s.KeepsTripLaw t :=
  ⟨deliver u, rfl, h.trans (onLink_keepsTripLaw _ u)⟩

/-- A decode keeps what the act on the record keeps. -/
theorem decodeRecord_keepsTripLaw {r : Record} {act : State → State} {s : State}
    (h : s.afterDecode.KeepsTripLaw (act s.afterDecode)) : s.KeepsTripLaw (decodeRecord r act s) := by
  rcases decodeRecord_cases r act s with hr | hr | ⟨-, -, hr⟩ <;> rw [hr]
  · exact .refl s
  · exact awaitDecode_keepsTripLaw r s
  · exact (onLink_keepsTripLaw _ s).trans h

/-- A record's command keeps what its owner keeps. -/
theorem decodeCommand_keepsTripLaw {type : BitVec 6} {seat : Seat} {body : List Byte} {owner : State → State} {s : State}
    (h : s.afterDecode.KeepsTripLaw (owner s.afterDecode)) :
    ∃ t, done (decodeCommand type seat body owner s) = .next t ∧ s.KeepsTripLaw t := by
  refine done_keepsTripLaw (decodeRecord_keepsTripLaw ?_)
  split
  · exact refuse_keepsTripLaw _ _ _ _
  · exact h

/-- An owner's answer keeps what the record does when its checks pass. -/
theorem answer_keepsTripLaw {seat : Seat} {type : BitVec 6} {checks : List (Bool × ErrorCode × Nat)}
    {take : State → State} {s : State}
    (h : firstError checks = none → (ack seat type 0 s).KeepsTripLaw (take (ack seat type 0 s))) :
    s.KeepsTripLaw (answer seat type checks take s) := by
  unfold answer
  split
  · exact refuse_keepsTripLaw _ _ _ s
  · next hc => exact (ack_keepsTripLaw _ _ _ s).trans (h hc)

/-! ## Time -/

theorem advanceTo_keepsTripLaw (t : Nat) (s : State) : s.KeepsTripLaw (advanceTo t s) := .of_blocks rfl rfl

theorem onFru_keepsTripLaw (f : Fru → Fru) (s : State) : s.KeepsTripLaw (s.onFru f) := .of_blocks rfl rfl

theorem onPln_keepsTripLaw (f : Pln → Pln) (s : State) : s.KeepsTripLaw (s.onPln f) := .of_blocks rfl rfl

theorem onSto_keepsTripLaw (f : Sto → Sto) (s : State) : s.KeepsTripLaw (s.onSto f) := .of_blocks rfl rfl

theorem onChan_keepsTripLaw (w : Winch) (f : Channel → Channel) (s : State) : s.KeepsTripLaw (s.onChan w f) :=
  .of_blocks rfl rfl

theorem onAllChans_keepsTripLaw (f : Channel → Channel) (s : State) : s.KeepsTripLaw (onAllChans f s) := .of_blocks rfl rfl

theorem atInstant_keepsTripLaw {act : State → State} (h : ∀ u : State, u.KeepsTripLaw (act u)) (t : Nat) (s : State) :
    s.KeepsTripLaw (atInstant t act s) := by
  unfold atInstant
  split
  · exact (advanceTo_keepsTripLaw t s).trans (h _)
  · exact .refl s

theorem atExpiry_keepsTripLaw {act : State → State} (h : ∀ u : State, u.KeepsTripLaw (act u)) (left : Option Nat)
    (s : State) : s.KeepsTripLaw (atExpiry left act s) := by
  rcases atExpiry_cases left act s with hr | ⟨t, hr⟩ <;> rw [hr]
  · exact .refl s
  · exact (advanceTo_keepsTripLaw t s).trans (h _)

theorem stateExpiry_keepsTripLaw {act : State → State} (h : ∀ u : State, u.KeepsTripLaw (act u)) (w : Winch)
    (state : ChanState) (s : State) : s.KeepsTripLaw (stateExpiry w state act s) := by
  unfold stateExpiry
  split
  · exact atExpiry_keepsTripLaw h _ s
  · exact .refl s

/-! ## Reports and the store -/

/-- An occurrence of any flag: one of a TRIP flag leaves the part TRIPPED, any other leaves the TRIP flags (R183, R186). -/
theorem report_keepsTripLaw (f : Flag) (channel : Nat) (seat : Option Seat) (s : State) :
    s.KeepsTripLaw (report f channel seat s) := by
  cases hf : f.isTrip with
  | true =>
    refine .of_tripped ?_
    by_cases hs : s.fcu.flight = .tripped
    · rw [(report_tripped_sameButFlags hf channel seat hs).1, hs]
    · rw [report_trip hf channel seat hs]
      rfl
  | false =>
    obtain ⟨fcu, -⟩ := report_sameButFlags hf channel seat s
    exact .of_trips (report_sameTrips hf channel seat s) fun h => by rw [fcu, h]

theorem State.KeepsTripLaw.reported {s t : State} (h : s.KeepsTripLaw t) (f : Flag) (channel : Nat) (seat : Option Seat) :
    s.KeepsTripLaw (report f channel seat t) := h.trans (report_keepsTripLaw f channel seat t)

theorem reportIf_keepsTripLaw (cond : Bool) (f : Flag) (channel : Nat) (s : State) :
    s.KeepsTripLaw (reportIf cond f channel s) := by
  unfold reportIf
  split
  · exact report_keepsTripLaw _ _ _ s
  · exact .refl s

theorem beginPoseWrite_keepsTripLaw (s : State) : s.KeepsTripLaw (beginPoseWrite s) := by
  rw [beginPoseWrite_eq]
  split
  · exact .of_blocks rfl rfl
  · exact .refl s

theorem writePose_keepsTripLaw (pose : RetainedPose) (s : State) : s.KeepsTripLaw (writePose pose s) :=
  .of_blocks (by simp [writePose]) (by simp [writePose])

/-- CLEAR_FAULTS raises no flag, and leaves TRIPPED only once no TRIP flag is set (R193, R194). -/
theorem clearFaultsRecord_keepsTripLaw (seat : Seat) (s : State) : s.KeepsTripLaw (clearFaultsRecord seat s) := by
  have cleared : s.KeepsTripLaw (clearFlags s) := by
    intro law f hf set
    rw [flag_clearFlags] at set
    split at set
    · rw [(clearFlags_sameButFlags s).1]
      exact law f hf set
    · cases set
  have returned : ∀ u : State, u.KeepsTripLaw (returnToParked u) := by
    intro u
    unfold returnToParked
    split
    · next h => exact .of_clear ((anySet_tripFlags_eq_false_iff u).mp h.2)
    · exact .refl u
  unfold clearFaultsRecord
  split
  · exact refuse_keepsTripLaw _ _ _ s
  · exact ((cleared.trans (onAllChans_keepsTripLaw _ _)).trans (returned _)).trans (ack_keepsTripLaw _ _ _ _)

/-- A part reset leaves every flag clear, but for the trip of an asserted line (R183, R190). -/
theorem partReset_keepsTripLaw (strap : Strap) (answers : Bool) (s : State) :
    s.KeepsTripLaw (partReset strap answers s) := by
  have examined : ∀ u : State, (∀ f, u.flag f = State.reset.flag f) → s.KeepsTripLaw (examineLine u) := by
    intro u clear
    have loaded : s.KeepsTripLaw u := .of_clear fun f _ => by rw [clear, flag_reset]; rfl
    unfold examineLine
    split
    · exact loaded.reported _ _ _
    · exact loaded
  exact examined _ fun _ => rfl

/-! ## Setting operations -/

theorem settleSetting_keepsTripLaw (s : State) : s.KeepsTripLaw (settleSetting s) := by
  unfold settleSetting
  split
  · exact (writePose_keepsTripLaw _ s).trans (.of_blocks rfl rfl)
  · exact .refl s

theorem settingTimeout_keepsTripLaw (w : Winch) (s : State) : s.KeepsTripLaw (settingTimeout w s) := by
  have ended : ∀ u : State, u.KeepsTripLaw (endSettingOp u) := fun u => .of_blocks rfl rfl
  exact ((report_keepsTripLaw _ _ _ s).trans (ended _)).trans
    ((writePose_keepsTripLaw _ _).trans (notice_keepsTripLaw _ _ _))

/-! ## Flight -/

/-- HOLD changes the flight state where a sample is produced alone (R55, R58 to R60, R62). -/
theorem holdEffect_keepsTripLaw (seat : Seat) (s : State) : s.KeepsTripLaw (holdEffect seat s) := by
  unfold holdEffect
  cases hf : s.fcu.flight with
  | hold =>
    dsimp only
    split
    · rw [cancelPrimed_eq]
      exact .of_blocks rfl rfl
    · exact .refl s
  | track =>
    refine .of_leaving hf nofun ?_
    dsimp only [holdInTrack]
    split
    · rfl
    · split <;> rfl
  | stopping =>
    refine .of_leaving hf nofun ?_
    dsimp only [holdInStopping]
    split
    · rfl
    · split <;> rfl
  | stick | stream => exact .of_leaving hf nofun rfl
  | parked | arming | parking | tripped => exact .refl s

/-- The stick takes the carrier in HOLD, TRACK and STREAM (R96 to R98). -/
theorem takeStick_keepsTripLaw (s : State) : s.KeepsTripLaw (takeStick s) := by
  cases hf : s.fcu.flight with
  | hold =>
    rw [takeStick_hold hf]
    exact .of_leaving hf nofun rfl
  | track =>
    rw [takeStick_track hf]
    refine .of_leaving hf nofun ?_
    unfold handOverMove
    split
    · rfl
    · split <;> rfl
  | stream =>
    rw [takeStick_stream hf]
    exact .of_leaving hf nofun rfl
  | parked | arming | stick | stopping | parking | tripped =>
    unfold takeStick
    rw [hf]
    exact .refl s

/-- RESUME and STEP begin a move in HOLD alone (R82, R83). -/
theorem resumeWith_keepsTripLaw (type : BitVec 6) (step : Bool) (seat : Seat) (s : State) :
    s.KeepsTripLaw (resumeWith type step seat s) := by
  unfold resumeWith
  split
  · exact refuse_keepsTripLaw _ _ _ s
  · next flight =>
    have untripped : s.fcu.flight ≠ .tripped := by rw [not_not.mp flight]; nofun
    split
    · exact refuse_keepsTripLaw _ _ _ s
    · next m t offered =>
      have flt : t.flt = s.flt := by
        unfold nextMove at offered
        split at offered
        · cases offered; rfl
        · split at offered
          · cases offered
          · cases offered; rfl
      have begins : ∀ u : State, u.flt = t.flt → s.SameTrips (beginWith (moveEnd step) m step u) := fun u hu =>
        (State.SameTrips.of_flt (hu.trans flt)).trans (beginWith_sameTrips (moveEnd_sameTrips step) m step u)
      split
      · exact .of_untripped untripped (begins _ (by rw [cancelPrimed_eq]; rfl))
      · exact .of_untripped untripped (begins _ rfl)

theorem flushMoves_keepsTripLaw (seat : Seat) (s : State) : s.KeepsTripLaw (flushMoves seat s) := by
  unfold flushMoves
  split
  · exact .of_blocks rfl rfl
  · unfold discardSuspended
    split <;> exact .of_blocks rfl rfl

/-- The ZONE_STOP an activation starts stops a flown move, and its flag is no TRIP flag (R29, R30). -/
theorem takeZone_keepsTripLaw (slot : Nat) (z : Zone) (s : State) : s.KeepsTripLaw (takeZone slot z s) := by
  have stops : ∀ u : State, u.KeepsTripLaw (zoneStopDecision z u) := by
    intro u
    by_cases hc : ∃ m, u.cutBy z m
    · obtain ⟨m, cut⟩ := hc
      rw [zoneStopDecision_cut cut]
      split
      · exact report_keepsTripLaw _ _ _ u
      · obtain ⟨⟨-, ⟨flying, -⟩ | ⟨flying, -⟩⟩, -⟩ := cut <;>
          exact .of_untripped (by rw [flying]; nofun) (startZoneStop_sameTrips m u)
    · rw [zoneStopDecision_uncut (not_exists.mp hc)]
      exact .refl u
  exact State.KeepsTripLaw.trans (t := s.onEnv fun e => e.putZone slot (some z)) (.of_blocks rfl rfl) (stops _)

theorem zonePut_keepsTripLaw (seat : Seat) (p : List Byte) (s : State) : s.KeepsTripLaw (zonePut seat p s) := by
  unfold zonePut
  dsimp only
  split
  · exact refuse_keepsTripLaw _ _ _ s
  · split
    · exact refuse_keepsTripLaw _ _ _ s
    · exact answer_keepsTripLaw fun _ => takeZone_keepsTripLaw _ _ _

theorem zoneSet_keepsTripLaw (seat : Seat) (p : List Byte) (s : State) : s.KeepsTripLaw (zoneSet seat p s) := by
  unfold zoneSet
  dsimp only
  split
  · exact refuse_keepsTripLaw _ _ _ s
  · split
    · exact refuse_keepsTripLaw _ _ _ s
    · exact answer_keepsTripLaw fun _ => takeZone_keepsTripLaw _ _ _

theorem zoneRemove_keepsTripLaw (seat : Seat) (p : List Byte) (s : State) : s.KeepsTripLaw (zoneRemove seat p s) := by
  unfold zoneRemove
  dsimp only
  split
  · exact refuse_keepsTripLaw _ _ _ s
  · split
    · exact ack_keepsTripLaw _ _ _ s
    · exact answer_keepsTripLaw fun _ => .of_blocks rfl rfl

/-- An append raises STREAM_OVERFLOW at most (R111). -/
theorem appendInOrder_keepsTripLaw (positions : List Vec3) (s : State) : s.KeepsTripLaw (appendInOrder positions s) := by
  have appended : s.KeepsTripLaw { s with pln := { s.pln with stream := s.pln.stream.append positions } } :=
    .of_blocks rfl rfl
  have banded : ∀ u : State, u.KeepsTripLaw (evaluateBands u) := by
    intro u
    obtain ⟨low, critical, high, handed, h⟩ := evaluateBands_keeps u
    rw [h]
    exact .of_blocks rfl rfl
  rw [appendInOrder_eq]
  refine State.KeepsTripLaw.trans ?_ (banded _)
  split
  · exact appended.reported _ _ _
  · exact appended

theorem streamRecord_keepsTripLaw (seat : Seat) (p : List Byte) (s : State) : s.KeepsTripLaw (streamRecord seat p s) := by
  unfold streamRecord takeSamples
  dsimp only
  split
  · exact .of_blocks rfl rfl
  · split
    · split
      · exact appendInOrder_keepsTripLaw _ s
      · split
        · split
          · exact .refl s
          · exact appendInOrder_keepsTripLaw _ s
        · unfold streamAhead
          dsimp only
          split <;> exact .of_blocks rfl rfl
    · exact .of_blocks rfl rfl

/-- The end of a playing stream starts a stop; a stream plays in STREAM alone (R121, R122). -/
theorem streamEnd_keepsTripLaw {s : State} (h : streamFlight s) : s.KeepsTripLaw (streamEnd s) := by
  cases hs : s.pln.stream.state with
  | primed =>
    rw [streamEnd_primed hs]
    exact .of_blocks rfl rfl
  | playing =>
    by_cases empty : s.pln.stream.samples = []
    · rw [streamEnd_empty hs empty]
      exact .of_leaving (h (Or.inl hs)) nofun rfl
    · rw [streamEnd_playing hs empty]
      exact .of_blocks rfl rfl
  | idle | ending =>
    unfold streamEnd
    rw [hs]
    exact .refl s

/-! ## Drive answers -/

theorem badFrame_keepsTripLaw (w : Winch) (s : State) : s.KeepsTripLaw (badFrame w s) := by
  unfold badFrame
  dsimp only
  split
  · exact (onChan_keepsTripLaw w _ s).reported _ _ _
  · exact onChan_keepsTripLaw w _ s

theorem loseChannel_keepsTripLaw (w : Winch) (f : Channel → Channel) (s : State) : s.KeepsTripLaw (loseChannel w f s) :=
  (onChan_keepsTripLaw w f s).reported _ _ _

theorem streamingChecks_keepsTripLaw (w : Winch) (a : AnswerFields) (s : State) :
    s.KeepsTripLaw (streamingChecks w a s) := by
  unfold streamingChecks
  dsimp only
  refine State.KeepsTripLaw.trans ?_ (reportIf_keepsTripLaw _ _ _ _)
  refine State.KeepsTripLaw.trans ?_ (reportIf_keepsTripLaw _ _ _ _)
  refine State.KeepsTripLaw.trans ?_ (reportIf_keepsTripLaw _ _ _ _)
  refine State.KeepsTripLaw.trans ?_ (reportIf_keepsTripLaw _ _ _ _)
  exact onChan_keepsTripLaw w _ s

theorem findDrive_keepsTripLaw (w : Winch) (d : DriveState) (s : State) : s.KeepsTripLaw (findDrive w d s) := by
  unfold findDrive
  split
  · split <;> exact .of_blocks rfl rfl
  all_goals exact .of_blocks rfl rfl

theorem answerInReady_keepsTripLaw (w : Winch) (d : DriveState) (s : State) : s.KeepsTripLaw (answerInReady w d s) := by
  unfold answerInReady
  split <;> exact .of_blocks rfl rfl

theorem answerInReleasing_keepsTripLaw (w : Winch) (d : DriveState) (s : State) :
    s.KeepsTripLaw (answerInReleasing w d s) := by
  unfold answerInReleasing
  split
  · exact loseChannel_keepsTripLaw w _ s
  all_goals exact .of_blocks rfl rfl

theorem answerInStreaming_keepsTripLaw (w : Winch) (a : AnswerFields) (s : State) :
    s.KeepsTripLaw (answerInStreaming w a s) := by
  unfold answerInStreaming
  split
  · exact loseChannel_keepsTripLaw w _ s
  · exact loseChannel_keepsTripLaw w _ s
  · exact streamingChecks_keepsTripLaw w a s
  · exact .refl s

theorem answerInBraking_keepsTripLaw (w : Winch) (d : DriveState) (s : State) : s.KeepsTripLaw (answerInBraking w d s) := by
  unfold answerInBraking
  split
  · exact loseChannel_keepsTripLaw w _ s
  all_goals exact .of_blocks rfl rfl

theorem answerInSetting_keepsTripLaw (w : Winch) (a : AnswerFields) (s : State) :
    s.KeepsTripLaw (answerInSetting w a s) := by
  unfold answerInSetting
  split
  · exact loseChannel_keepsTripLaw w _ s
  · split
    · exact (onChan_keepsTripLaw w _ s).trans (settleSetting_keepsTripLaw _)
    · exact .refl s

/-- A channel's act on a valid answer, in each of its states (R158 to R165). -/
theorem actOnAnswer_keepsTripLaw (w : Winch) (a : AnswerFields) (s : State) : s.KeepsTripLaw (actOnAnswer w a s) := by
  unfold actOnAnswer
  dsimp only
  split
  · split
    · exact .refl s
    · exact (onChan_keepsTripLaw w _ s).reported _ _ _
  · split
    · exact findDrive_keepsTripLaw w _ s
    · exact findDrive_keepsTripLaw w _ s
    · exact answerInReady_keepsTripLaw w _ s
    · exact answerInReleasing_keepsTripLaw w _ s
    · exact answerInStreaming_keepsTripLaw w a s
    · exact answerInBraking_keepsTripLaw w _ s
    · exact answerInSetting_keepsTripLaw w a s

/-- ARMING ends in HOLD, PARKING in PARKED (R53, R57). -/
theorem watchChannels_keepsTripLaw (s : State) : s.KeepsTripLaw (watchChannels s) := by
  unfold watchChannels
  split
  · next h => exact .of_leaving h.1 nofun rfl
  · split
    · next h => exact .of_leaving h.1 nofun (by simp [finishParking, writePose])
    · exact .refl s

theorem driveAnswer_keepsTripLaw (w : Winch) (bytes : List Byte) (s : State) : s.KeepsTripLaw (driveAnswer w bytes s) := by
  unfold driveAnswer
  split
  · exact badFrame_keepsTripLaw w s
  · exact ((onChan_keepsTripLaw w _ s).trans (actOnAnswer_keepsTripLaw w _ _)).trans (watchChannels_keepsTripLaw _)

/-- A release that times out in ARMING ends it in PARKING (R54, R167). -/
theorem releaseTimeout_keepsTripLaw (w : Winch) (s : State) : s.KeepsTripLaw (releaseTimeout w s) := by
  have reported : s.KeepsTripLaw (report .armTimeout (winchNumber w) none (s.onChan w fun c => { c with timer := none })) :=
    (onChan_keepsTripLaw w _ s).reported _ _ _
  unfold releaseTimeout
  dsimp only
  split
  · next arming => exact reported.trans (.of_leaving arming nofun rfl)
  · exact reported

/-! ## Servo events -/

/-- The planner's sample raises no TRIP flag, and leaves TRIPPED alone (R43). -/
theorem planSample_keepsTripLaw (frameStart : Bool) (s : State) : s.KeepsTripLaw (planSample frameStart s) := by
  obtain ⟨-, -, -, -, -, -, stays, -⟩ := planSample_keeps frameStart s
  exact .of_trips (planSample_sameTrips frameStart s) stays

theorem runChannels_keepsTripLaw (s : State) : s.KeepsTripLaw (runChannels s) := by
  have reported : ∀ (w : Winch) (c : Channel) (u : State), u.KeepsTripLaw (reportThirdMiss w c u) := by
    intro w c u
    unfold reportThirdMiss
    split
    · exact .refl u
    · split
      · exact report_keepsTripLaw _ _ _ u
      · exact notice_keepsTripLaw _ _ u
  refine (onAllChans_keepsTripLaw (fun c => c.close.send) s).trans ?_
  exact (((reported .w1 _ _).trans (reported .w2 _ _)).trans (reported .w3 _ _)).trans (reported .w4 _ _)

theorem completePull_keepsTripLaw (s : State) : s.KeepsTripLaw (completePull s) := by
  unfold completePull
  split
  · exact .of_blocks rfl rfl
  · exact .refl s

theorem loseReference_keepsTripLaw (s : State) : s.KeepsTripLaw (loseReference s) :=
  (onFru_keepsTripLaw _ s).reported _ _ _

theorem closeMiss_keepsTripLaw (s : State) : s.KeepsTripLaw (closeMiss s) := by
  unfold closeMiss
  split
  · exact loseReference_keepsTripLaw s
  · exact .refl s

theorem countFrame_keepsTripLaw (frameStart : Bool) (s : State) : s.KeepsTripLaw (countFrame frameStart s) := by
  unfold countFrame
  split
  · exact onFru_keepsTripLaw _ s
  · exact .refl s

theorem settleExhaustion_keepsTripLaw (s : State) : s.KeepsTripLaw (settleExhaustion s) := by
  unfold settleExhaustion
  split
  · exact onFru_keepsTripLaw _ s
  · exact .refl s

theorem handFramePose_keepsTripLaw (s : State) : s.KeepsTripLaw (handFramePose s) := by
  unfold handFramePose
  dsimp only
  split <;> exact .of_blocks rfl rfl

section
variable {fruStep : State → State} (hstep : ∀ u : State, u.KeepsTripLaw (fruStep u))
include hstep

theorem raiseServo_keepsTripLaw (index : Nat) (s : State) : s.KeepsTripLaw (raiseServo index fruStep s) := by
  have finished : ∀ u : State, u.KeepsTripLaw (finishServo index (staleFlags s) fruStep u) := fun u =>
    (((runChannels_keepsTripLaw u).trans (hstep _)).trans (settleExhaustion_keepsTripLaw _)).trans (.of_blocks rfl rfl)
  have event := ((countFrame_keepsTripLaw (decide (index = 0)) s).trans (planSample_keepsTripLaw (decide (index = 0)) _)).trans
    (finished _)
  unfold raiseServo
  dsimp only
  split
  · exact event.trans (handFramePose_keepsTripLaw _)
  · exact event

theorem edgeFrameStart_keepsTripLaw (s : State) : s.KeepsTripLaw (edgeFrameStart fruStep s) := by
  have played : ∀ u : State, u.KeepsTripLaw (promoteSample u) := by
    intro u
    unfold promoteSample
    split
    · exact (planSample_keepsTripLaw true u).trans (onAllChans_keepsTripLaw _ _)
    · exact .refl u
  have promoted : s.KeepsTripLaw (fruStep (promoteSample (countFrame true s))) :=
    ((countFrame_keepsTripLaw true s).trans (played _)).trans (hstep _)
  unfold edgeFrameStart promoteServo
  split
  · split
    · exact hstep s
    · refine State.KeepsTripLaw.trans ?_ (handFramePose_keepsTripLaw _)
      exact (promoted.trans (settleExhaustion_keepsTripLaw _)).trans (.of_blocks rfl rfl)
  · exact raiseServo_keepsTripLaw hstep 0 s

end

theorem decidePull_keepsTripLaw (s : State) : s.KeepsTripLaw (decidePull s) := by
  unfold decidePull
  dsimp only
  split
  · exact .of_blocks rfl rfl
  · split <;> exact onFru_keepsTripLaw _ s

theorem reachLock_keepsTripLaw (s : State) : s.KeepsTripLaw (reachLock s) := by
  unfold reachLock
  split
  · exact edgeFrameStart_keepsTripLaw (fruStep := jumpLocked) (fun u => .of_blocks rfl rfl) s
  · exact decidePull_keepsTripLaw s

/-- An edge, by the reference state (R140 to R147). -/
theorem referenceEdge_keepsTripLaw (s : State) : s.KeepsTripLaw (referenceEdge s) := by
  unfold referenceEdge
  split
  · exact .refl s
  · dsimp only
    split
    · exact onFru_keepsTripLaw _ s
    · unfold edgeInAcquiring
      dsimp only
      split
      · split
        · exact (onFru_keepsTripLaw _ s).trans (reachLock_keepsTripLaw _)
        · exact onFru_keepsTripLaw _ s
      · exact onFru_keepsTripLaw _ s
    · unfold edgeInPulling
      split
      · exact (onFru_keepsTripLaw _ s).trans (decidePull_keepsTripLaw _)
      · exact onFru_keepsTripLaw _ s
    · unfold edgeInLocked
      split
      · exact (onFru_keepsTripLaw _ s).trans (edgeFrameStart_keepsTripLaw .refl _)
      · exact .refl s

end Sys2Proof.Machine
end

section
/-! The tenth law over every command (R186, R194). -/

namespace Sys2Proof.Machine

open Sys2Proof

/-- Every command keeps the tenth law, where a stream plays in STREAM alone. -/
theorem exec_keepsTripLaw (c : Instr) {s : State} (hs : streamFlight s) : ∃ t, exec c s = .next t ∧ s.KeepsTripLaw t := by
  cases c with
  | partReset strap answers => exact done_keepsTripLaw (partReset_keepsTripLaw strap answers s)
  | estopAssertion =>
    refine done_keepsTripLaw ?_
    split
    · exact .refl s
    · refine State.KeepsTripLaw.reported (t := s.onFlt fun t => { t with line := true }) ?_ _ _ _
      exact .of_trips (fun _ _ => rfl) id
  | estopDeassertion => exact done_keepsTripLaw (.of_trips (fun _ _ => rfl) id)
  | receiveByte | transmitComplete =>
    refine done_keepsTripLaw ?_
    split
    · exact .refl s
    · exact onLink_keepsTripLaw _ s
  | gapTimeout => exact done_keepsTripLaw (atExpiry_keepsTripLaw (onLink_keepsTripLaw _) _ s)
  | ignoredRecord =>
    refine done_keepsTripLaw ?_
    split
    · exact decodeRecord_keepsTripLaw (onLink_keepsTripLaw _ _)
    · exact .refl s
  | queryState | readPose | readSettings => exact decodeCommand_keepsTripLaw (reply_keepsTripLaw _ _ _)
  | arm =>
    refine decodeCommand_keepsTripLaw (answer_keepsTripLaw fun h => ?_)
    exact .of_leaving (parked_of_armChecks (s := s.afterDecode) h) nofun rfl
  | park =>
    refine decodeCommand_keepsTripLaw (answer_keepsTripLaw fun h => .of_leaving (hold_of_parkChecks h) nofun ?_)
    rw [startParking_eq]
  | hold seat => exact decodeCommand_keepsTripLaw (answer_keepsTripLaw fun _ => holdEffect_keepsTripLaw seat _)
  | resume seat | step seat => exact decodeCommand_keepsTripLaw (resumeWith_keepsTripLaw _ _ seat _)
  | takeStick => exact decodeCommand_keepsTripLaw (answer_keepsTripLaw fun _ => takeStick_keepsTripLaw _)
  | dropStick =>
    exact decodeCommand_keepsTripLaw (answer_keepsTripLaw fun h => .of_leaving (stick_of_dropChecks h) nofun rfl)
  | trip => exact decodeCommand_keepsTripLaw (answer_keepsTripLaw fun _ => report_keepsTripLaw _ _ _ _)
  | clearFaults seat => exact decodeCommand_keepsTripLaw (clearFaultsRecord_keepsTripLaw seat _)
  | consent =>
    refine decodeCommand_keepsTripLaw ?_
    unfold consent
    split <;> exact .of_blocks rfl rfl
  | servicePermit =>
    refine decodeCommand_keepsTripLaw ?_
    unfold servicePermit
    split <;> exact .of_blocks rfl rfl
  | flushMoves seat => exact decodeCommand_keepsTripLaw (answer_keepsTripLaw fun _ => flushMoves_keepsTripLaw seat _)
  | streamEnd => exact decodeCommand_keepsTripLaw (answer_keepsTripLaw fun _ => streamEnd_keepsTripLaw hs)
  | subscribe =>
    refine decodeCommand_keepsTripLaw ?_
    unfold subscribe
    split <;> exact .of_blocks rfl rfl
  | zoneRead =>
    refine decodeCommand_keepsTripLaw ?_
    unfold zoneRead
    split <;> exact .of_blocks rfl rfl
  | markerRead =>
    refine decodeCommand_keepsTripLaw ?_
    unfold markerRead
    split <;> exact .of_blocks rfl rfl
  | markerClear =>
    refine decodeCommand_keepsTripLaw ?_
    unfold markerClear
    split
    · exact .of_blocks rfl rfl
    · split <;> exact .of_blocks rfl rfl
  | reference => exact decodeCommand_keepsTripLaw (answer_keepsTripLaw fun _ => .of_blocks rfl rfl)
  | restartDrive =>
    refine decodeCommand_keepsTripLaw (answer_keepsTripLaw fun _ => ?_)
    unfold restartDrive
    split <;> exact .of_blocks rfl rfl
  | saveSettings =>
    exact decodeCommand_keepsTripLaw
      (answer_keepsTripLaw fun _ => (beginPoseWrite_keepsTripLaw _).trans (onSto_keepsTripLaw _ _))
  | resetPart => exact decodeCommand_keepsTripLaw (answer_keepsTripLaw fun _ => onLink_keepsTripLaw _ _)
  | stick =>
    refine done_keepsTripLaw (decodeRecord_keepsTripLaw ?_)
    unfold stickRecord
    split <;> exact onPln_keepsTripLaw _ _
  | appendMove =>
    refine decodeCommand_keepsTripLaw ?_
    unfold appendMove
    dsimp only
    split <;> exact .of_blocks rfl rfl
  | streamStart => exact decodeCommand_keepsTripLaw (answer_keepsTripLaw fun _ => onPln_keepsTripLaw _ _)
  | streamData seat p => exact done_keepsTripLaw (decodeRecord_keepsTripLaw (streamRecord_keepsTripLaw seat p _))
  | zonePut seat p => exact decodeCommand_keepsTripLaw (zonePut_keepsTripLaw seat p _)
  | zoneSet seat p => exact decodeCommand_keepsTripLaw (zoneSet_keepsTripLaw seat p _)
  | zoneRemove seat p => exact decodeCommand_keepsTripLaw (zoneRemove_keepsTripLaw seat p _)
  | markerSet =>
    refine decodeCommand_keepsTripLaw ?_
    unfold markerSet
    split
    · exact .of_blocks rfl rfl
    · split <;> exact .of_blocks rfl rfl
  | setAnchor =>
    refine decodeCommand_keepsTripLaw ?_
    unfold setAnchor
    dsimp only
    split <;> exact .of_blocks rfl rfl
  | setWorkspace =>
    refine decodeCommand_keepsTripLaw ?_
    unfold setWorkspace
    dsimp only
    split <;> exact .of_blocks rfl rfl
  | setChannelLimits =>
    refine decodeCommand_keepsTripLaw ?_
    unfold setChannelLimits
    dsimp only
    split <;> exact .of_blocks rfl rfl
  | setLimits | setTiming | setHome => exact decodeCommand_keepsTripLaw (answer_keepsTripLaw fun _ => .of_blocks rfl rfl)
  | declarePose =>
    refine decodeCommand_keepsTripLaw (answer_keepsTripLaw fun _ => ?_)
    unfold startDeclare
    refine State.KeepsTripLaw.trans ?_ (settleSetting_keepsTripLaw _)
    exact .of_blocks rfl rfl
  | servoEvent =>
    refine done_keepsTripLaw ?_
    split
    · exact .refl s
    · exact (advanceTo_keepsTripLaw _ s).trans (raiseServo_keepsTripLaw completePull_keepsTripLaw _ _)
  | referenceEdge t => exact done_keepsTripLaw ((advanceTo_keepsTripLaw t s).trans (referenceEdge_keepsTripLaw _))
  | acquireSilenceTimeout =>
    refine done_keepsTripLaw ?_
    split
    · exact atInstant_keepsTripLaw (onFru_keepsTripLaw _) _ s
    · exact .refl s
  | pullSilenceTimeout =>
    refine done_keepsTripLaw ?_
    split
    · exact atInstant_keepsTripLaw loseReference_keepsTripLaw _ s
    · exact .refl s
  | windowClose =>
    refine done_keepsTripLaw ?_
    split
    · exact atInstant_keepsTripLaw
        (fun u => (onFru_keepsTripLaw _ u).trans (raiseServo_keepsTripLaw closeMiss_keepsTripLaw 0 _)) _ s
    · exact .refl s
  | driveAnswer w bytes => exact done_keepsTripLaw (driveAnswer_keepsTripLaw w bytes s)
  | releaseTimeout w => exact done_keepsTripLaw (stateExpiry_keepsTripLaw (releaseTimeout_keepsTripLaw w) w _ s)
  | brakeTimeout w => exact done_keepsTripLaw (stateExpiry_keepsTripLaw (loseChannel_keepsTripLaw w _) w _ s)
  | setTimeout w => exact done_keepsTripLaw (stateExpiry_keepsTripLaw (settingTimeout_keepsTripLaw w) w _ s)
  | stickTimerExpiry =>
    refine done_keepsTripLaw ?_
    split
    · exact atExpiry_keepsTripLaw (fun u => (onPln_keepsTripLaw _ u).reported _ _ _) _ s
    · exact .refl s
  | saveWriteStart =>
    refine done_keepsTripLaw ?_
    split
    · split
      · exact .refl s
      · exact onSto_keepsTripLaw _ s
    · exact .refl s
  | saveWriteEnd =>
    refine done_keepsTripLaw ?_
    split
    · refine State.KeepsTripLaw.trans ?_ (beginPoseWrite_keepsTripLaw _)
      split <;> exact .of_blocks rfl rfl
    · exact .refl s
  | poseWriteStart => exact done_keepsTripLaw (beginPoseWrite_keepsTripLaw s)
  | poseWriteEnd =>
    refine done_keepsTripLaw ?_
    split
    · exact onSto_keepsTripLaw _ s
    · exact .refl s

/-- Settles O60: the occurrence of a TRIP flag leaves the part TRIPPED; every other operation leaves the TRIP flags, and TRIPPED is
left only with none of them set. -/
theorem tripLawKept : Obligations.TripLawKept := by
  intro s t hs law hstep
  unfold step at hstep
  split at hstep
  · cases hstep
    exact law
  · next c rest hpending =>
    obtain ⟨u, hu, kept⟩ := exec_keepsTripLaw c (s := { s with pending := rest }) hs
    rw [hu] at hstep
    cases hstep
    exact kept law

end Sys2Proof.Machine
end

section
/-! Trips (R182, R186 to R191; 03 R63): an occurrence of a TRIP flag outside TRIPPED and in it, by the emergency-stop line and by a
TRIP record. -/

namespace Sys2Proof.Machine

open Sys2Proof

theorem FlagEntry.occur_of_set {e : FlagEntry} (h : e.set = true) (channel : Nat) :
    e.occur channel = ⟨true, if e.count < 255 then e.count + 1 else 255, channel⟩ := if_pos h

theorem FlagEntry.occur_of_clear {e : FlagEntry} (h : e.set = false) (channel : Nat) : e.occur channel = ⟨true, 1, channel⟩ :=
  if_neg (ne_true_of_eq_false h)

section
variable {f : Flag} (hf : f.isTrip = true) {channel : Nat} {seat : Option Seat} {s : State}
include hf

/-- In TRIPPED an occurrence of a TRIP flag updates the flag, and one that was clear sends its TRIP_NOTICE (R186, R189). -/
theorem report_in_tripped (tripped : s.fcu.flight = .tripped) :
    report f channel seat s =
      if (s.flag f).set then
        s.setFlag f ⟨true, if (s.flag f).count < 255 then (s.flag f).count + 1 else 255, channel⟩
      else
        handOver .everySeat (.tripNotice f false channel seat s.flt.trip.left s.flt.trip.pos s.flt.trip.frames)
          (s.setFlag f ⟨true, 1, channel⟩) := by
  rw [report_tripped hf channel seat tripped]
  split
  · next set => rw [FlagEntry.occur_of_set set]
  · next clear =>
    rw [FlagEntry.occur_of_clear (eq_false_of_ne_true clear)]
    rfl

/-- The end of a command whose whole effect is an occurrence of a TRIP flag in TRIPPED: only a flag that was clear has a notice to
copy. -/
theorem done_report_in_tripped (tripped : s.fcu.flight = .tripped) (none : s.link.handed = []) :
    done (report f channel seat s) =
      .next (if (s.flag f).set then
          s.setFlag f ⟨true, if (s.flag f).count < 255 then (s.flag f).count + 1 else 255, channel⟩
        else
          deliver (handOver .everySeat (.tripNotice f false channel seat s.flt.trip.left s.flt.trip.pos s.flt.trip.frames)
            (s.setFlag f ⟨true, 1, channel⟩))) := by
  rw [report_in_tripped hf tripped]
  split
  · exact done_of_none none
  · rfl

end

/-- ESTOP_ASSERTION on a deasserted line is one occurrence of ESTOP with the line asserted (R190). -/
theorem exec_estopAssertion_of_deasserted {s : State} (h : s.flt.line = false) :
    exec .estopAssertion s = done (report .estop 0 none { s with flt := { s.flt with line := true } }) :=
  congrArg done (if_neg (ne_true_of_eq_false h))

/-- A TRIP record taken is one occurrence of OPERATOR_TRIP after its ACK, with the record's seat (R191). -/
theorem exec_trip_taken {s : State} {seat : Seat} {d0 d1 : Byte} (ht : s.takesRecord ⟨seat, 0x10, [d0, d1]⟩) :
    exec (.trip seat d0 d1) s = done (report .operatorTrip 0 (some seat) (s.acked seat 0x10 0)) :=
  congrArg done (decodeCommand_taken ht _)

/-- Settles O6: each way to a trip is the one occurrence of its flag. -/
theorem tripByLineAndRecord : Obligations.TripByLineAndRecord := by
  refine ⟨?flags, ?occurrence, ⟨?line, ?record⟩, ?recordInTripped, ?lineInTripped, ?deassertion, ?asserted⟩
  case flags =>
    intro f
    cases f <;> decide
  case occurrence =>
    intro f channel seat s hf
    exact ⟨report_trip hf channel seat, report_in_tripped hf⟩
  case line =>
    intro s deasserted untripped
    exact (exec_estopAssertion_of_deasserted deasserted).trans
      (congrArg done (report_trip (s := { s with flt := { s.flt with line := true } }) rfl 0 none untripped))
  case record =>
    intro s seat d0 d1 ht untripped
    exact (exec_trip_taken ht).trans (congrArg done (report_trip (s := s.acked seat 0x10 0) rfl 0 (some seat) untripped))
  case recordInTripped =>
    intro s seat d0 d1 ht tripped
    exact (exec_trip_taken ht).trans (done_report_in_tripped (s := s.acked seat 0x10 0) rfl tripped ht.handed)
  case lineInTripped =>
    intro s deasserted tripped none
    exact (exec_estopAssertion_of_deasserted deasserted).trans
      (done_report_in_tripped (s := { s with flt := { s.flt with line := true } }) rfl tripped none)
  case deassertion =>
    intro s none
    exact done_of_none (s := s.onFlt fun t => { t with line := false }) none
  case asserted =>
    intro s asserted none
    exact (congrArg done (if_pos asserted)).trans (done_of_none none)

end Sys2Proof.Machine
end

section
/-! Flags raised and cleared (R182 to R184, R192 to R194): an occurrence of a flag that is no TRIP flag, the condition a flag persists
by, and CLEAR_FAULTS whole. -/

namespace Sys2Proof.Machine

open Sys2Proof

/-! ## Flags that trip nothing -/

/-- An occurrence of a flag with a notice of its own: the flag is updated, and one that was clear hands its notice over (R183, R184). -/
theorem report_of_noticeCode {f : Flag} {code : NoticeCode} (named : f.noticeCode = some code) (channel : Nat)
    (seat : Option Seat) (s : State) :
    report f channel seat s =
      if (s.flag f).set then s.setFlag f ((s.flag f).occur channel)
      else notice code channel (s.setFlag f ((s.flag f).occur channel)) := by
  simp only [report, named]

/-! ## The condition of a flag -/

/-- The condition a flag persists by stands: the asserted line, a FAULTED drive, a live warning, a reference not locked (R193). -/
def State.ConditionStands (s : State) (f : Flag) : Prop :=
  (f = .estop ∧ s.flt.line = true) ∨ (f = .driveFault ∧ ∃ w, (s.chan w).state = .faulted) ∨
    (f = .tensionWarn ∧ ∃ w, (s.chan w).state = .streaming ∧ (s.chan w).warning = true) ∨
    (f = .referenceLost ∧ s.fru.ref ≠ .locked)

theorem any_chan_iff (s : State) (p : Channel → Bool) : s.ch.chans.any p = true ↔ ∃ w, p (s.chan w) = true := by
  rw [Quad.any_iff]
  constructor
  · rintro ⟨i, h⟩
    obtain ⟨w, rfl⟩ := exists_winch i
    exact ⟨w, h⟩
  · rintro ⟨w, h⟩
    exact ⟨winchIndex w, h⟩

theorem persists_iff (s : State) (f : Flag) : persists s f = true ↔ s.ConditionStands f := by
  cases f <;> simp [persists, tensionWarning, any_chan_iff, State.ConditionStands]

/-- CLEAR_FAULTS keeps a flag whose condition stands and clears every other (R193). -/
theorem flag_clearFlags_by_condition (s : State) (f : Flag) :
    (s.ConditionStands f → (clearFlags s).flag f = s.flag f) ∧
      (¬ s.ConditionStands f → (clearFlags s).flag f = ⟨false, 0, 0⟩) := by
  rw [flag_clearFlags, ← persists_iff]
  exact ⟨fun h => if_pos h, fun h => if_neg h⟩

/-! ## CLEAR_FAULTS -/

/-- The clearing of the flags changes the flags alone. -/
theorem clearFlags_link (s : State) : (clearFlags s).link = s.link := by
  have pass : ∀ (flags : List Flag) (t : State),
      (flags.foldl (fun t f => if persists s f then t else t.setFlag f FlagEntry.clear) t).link = t.link := by
    intro flags
    induction flags with
    | nil => exact fun _ => rfl
    | cons f rest ih =>
      intro t
      rw [List.foldl_cons, ih]
      split <;> rfl
  exact pass allFlags s

/-- What CLEAR_FAULTS does but for the return to PARKED: the flags cleared, the bad-frame counters at 0, and nothing else. -/
structure State.FaultsCleared (s t : State) : Prop where
  flag : ∀ f, t.flag f = (clearFlags s).flag f
  chan : ∀ w, t.chan w = { s.chan w with badFrames := 0 }
  op : t.ch.op = s.ch.op
  line : t.flt.line = s.flt.line
  link : t.link = s.link
  pln : t.pln = s.pln
  env : t.env = s.env
  sol : t.sol = s.sol
  mrk : t.mrk = s.mrk
  fru : t.fru = s.fru
  sto : t.sto = s.sto

theorem clearFaults_faultsCleared (s : State) : s.FaultsCleared (clearFaults s) := by
  obtain ⟨-, pln, env, sol, mrk, fru, ch, sto, -, -, -, line, -⟩ := clearFlags_sameButFlags s
  have counted : s.FaultsCleared (onAllChans (fun c => { c with badFrames := 0 }) (clearFlags s)) :=
    { flag := fun _ => rfl, chan := fun w => by rw [State.chan_onAllChans, State.chan, ch]; rfl,
      op := by rw [onAllChans_op, ch], line, link := clearFlags_link s, pln, env, sol, mrk, fru, sto }
  unfold clearFaults returnToParked
  split
  · exact { counted with }
  · exact counted

/-- The part returns to PARKED: TRIPPED, with no TRIP flag left by the clearing (R194). -/
def State.ReturnsToParked (s : State) : Prop :=
  s.fcu.flight = .tripped ∧ ∀ f : Flag, f.isTrip = true → ((clearFlags s).flag f).set = false

/-- The return to PARKED puts the trip record at its reset values (R194). -/
theorem clearFaults_returns {s : State} (back : s.ReturnsToParked) :
    (clearFaults s).fcu = { s.fcu with flight := .parked } ∧
      (clearFaults s).flt.trip = ⟨none, 0, none, .parked, ⟨0, 0, 0⟩, 0⟩ := by
  obtain ⟨tripped, clear⟩ := back
  have fcu : (clearFlags s).fcu = s.fcu := (clearFlags_sameButFlags s).1
  have returns : (clearFlags s).fcu.flight = .tripped ∧ anySet (clearFlags s) tripFlags = false :=
    ⟨by rw [fcu, tripped], (anySet_tripFlags_eq_false_iff _).mpr clear⟩
  have parked : clearFaults s = _ := if_pos returns
  rw [parked, ← fcu]
  exact ⟨rfl, rfl⟩

/-- Without the return to PARKED, FCU and the trip record stand. -/
theorem clearFaults_stays {s : State} (stays : ¬ s.ReturnsToParked) :
    (clearFaults s).fcu = s.fcu ∧ (clearFaults s).flt.trip = s.flt.trip := by
  obtain ⟨fcu, -, -, -, -, -, -, -, -, -, trip, -⟩ := clearFlags_sameButFlags s
  have remains : ¬ ((clearFlags s).fcu.flight = .tripped ∧ anySet (clearFlags s) tripFlags = false) := fun h =>
    stays ⟨by rw [← fcu, h.1], (anySet_tripFlags_eq_false_iff _).mp h.2⟩
  have stands : clearFaults s = _ := if_neg remains
  rw [stands]
  exact ⟨fcu, trip⟩

/-! ## The reply -/

theorem anySet_iff (s : State) (flags : List Flag) : anySet s flags = true ↔ ∃ f ∈ flags, (s.flag f).set = true :=
  List.any_eq_true

theorem tripFlags_eq :
    tripFlags = [.slack, .overtension, .following, .channelLost, .driveFault, .estop, .operatorTrip] := by decide

/-- The reply's detail has one bit for each category, set while a flag of it is (R192). -/
theorem faultDetail_bits (s : State) :
    faultDetail s < 16 ∧
      ((faultDetail s).testBit 0 = true ↔ ∃ f ∈ [Flag.wallStrike, .zoneStop, .pathRejected], (s.flag f).set = true) ∧
      ((faultDetail s).testBit 1 = true ↔
        ∃ f ∈ [Flag.referenceLost, .stickTimeout, .streamUnderrun, .streamOverflow, .streamLag], (s.flag f).set = true) ∧
      ((faultDetail s).testBit 2 = true ↔
        ∃ f ∈ [Flag.tensionWarn, .armTimeout, .settingTimeout, .feedbackErrors], (s.flag f).set = true) ∧
      ((faultDetail s).testBit 3 = true ↔
        ∃ f ∈ [Flag.slack, .overtension, .following, .channelLost, .driveFault, .estop, .operatorTrip],
          (s.flag f).set = true) := by
  have bit : ∀ i : Fin 4, (faultDetail s).testBit i.val = _ := winchBits_testBit _
  rw [← tripFlags_eq]
  simp only [← anySet_iff]
  exact ⟨winchBits_lt _, Bool.eq_iff_iff.mp (bit 0), Bool.eq_iff_iff.mp (bit 1), Bool.eq_iff_iff.mp (bit 2),
    Bool.eq_iff_iff.mp (bit 3)⟩

/-- CLEAR_FAULTS taken with no channel BRAKING: the clearing, and then its ACK (R192). -/
theorem exec_clearFaults_taken {s : State} {seat : Seat} {d0 d1 : Byte} (ht : s.takesRecord ⟨seat, 0x11, [d0, d1]⟩)
    (still : ∀ w, (s.chan w).state ≠ .braking) :
    exec (.clearFaults seat d0 d1) s =
      .next (ack seat 0x11 (faultDetail (clearFaults s.afterDecode)) (clearFaults s.afterDecode)) := by
  refine done_decode_taken ht (if_neg fun braking => ?_) ?_
  · obtain ⟨w, hw⟩ := (any_chan_iff s.afterDecode _).mp braking
    exact still w (of_decide_eq_true hw)
  · rw [ack_handed, (clearFaults_faultsCleared _).link]
    rfl

/-- Settles O7: an occurrence by its flag; CLEAR_FAULTS as the clearing of the flags, the return to PARKED and the reply. -/
theorem flagsRaisedAndCleared : Obligations.FlagsRaisedAndCleared := by
  refine ⟨rfl, ?occurrence, ?refused, ?taken⟩
  case occurrence =>
    intro f code channel seat s named
    refine ⟨fun set => ?_, fun clear => ?_⟩
    · rw [report_of_noticeCode named, if_pos set, FlagEntry.occur_of_set set]
    · rw [report_of_noticeCode named, if_neg (ne_true_of_eq_false clear), FlagEntry.occur_of_clear clear]
  case refused =>
    intro s seat d0 d1 ht braking
    obtain ⟨w, hw⟩ := braking
    exact done_decode_refused ht (if_pos ((any_chan_iff s.afterDecode _).mpr ⟨w, decide_eq_true hw⟩))
  case taken =>
    intro s seat d0 d1 ht still
    have cleared := clearFaults_faultsCleared s.afterDecode
    obtain ⟨small, envelope, timing, channel, trip⟩ := faultDetail_bits (clearFaults s.afterDecode)
    refine ⟨_, _, exec_clearFaults_taken ht still, fun f => ?flag, cleared.chan, cleared.op, cleared.line, ⟨fun back => ?returns,
      fun stays => ?stays⟩, ?link, small, envelope, timing, channel, trip, cleared.pln, cleared.env, cleared.sol, cleared.mrk,
      cleared.fru, cleared.sto⟩
    case flag =>
      rw [flag_of_flt (ack_flt _ _ _ _), cleared.flag]
      exact flag_clearFlags_by_condition s.afterDecode f
    case returns =>
      obtain ⟨tripped, clear⟩ := back
      exact clearFaults_returns ⟨tripped, fun f hf => (congrArg FlagEntry.set (cleared.flag f)).symm.trans (clear f hf)⟩
    case stays =>
      refine clearFaults_stays fun back => stays ⟨back.1, fun f hf => ?_⟩
      exact (congrArg FlagEntry.set (cleared.flag f)).trans (back.2 f hf)
    case link => simp only [ack, reply, State.onLink_link, cleared.link, State.acked]

end Sys2Proof.Machine
end

section
/-! What an operation tells LINK (R204 to R206): an owner's operation hands notices over and touches neither of LINK's two queues,
lengthens no move queue and leaves the waiting commands. Said of every operation that is no reply. -/

namespace Sys2Proof.Machine

open Sys2Proof

/-! ## The relation -/

/-- Of LINK's queues both stand, what is new among the notices handed over is no reply, no move joins the move queue, and the
waiting commands stand. -/
structure State.Notifies (s t : State) : Prop where
  tx : t.link.tx = s.link.tx
  decodeQueue : t.link.decodeQueue = s.link.decodeQueue
  news : ∀ h ∈ t.link.handed, h ∈ s.link.handed ∨ h.msg.isReply = false
  moves : t.pln.queue.length ≤ s.pln.queue.length
  pending : t.pending = s.pending

namespace State.Notifies

variable {s t u : State}

/-- LINK may change but for its queues and the notices handed over. -/
theorem of_queues (tx : t.link.tx = s.link.tx) (decodeQueue : t.link.decodeQueue = s.link.decodeQueue)
    (handed : t.link.handed = s.link.handed) (moves : t.pln.queue = s.pln.queue) (pending : t.pending = s.pending) :
    s.Notifies t :=
  ⟨tx, decodeQueue, fun _ told => Or.inl (handed ▸ told), (congrArg List.length moves).le, pending⟩

/-- An update of blocks that are none of these. -/
theorem quiet (same : (t.link, t.pln.queue, t.pending) = (s.link, s.pln.queue, s.pending)) : s.Notifies t := by
  obtain ⟨link, moves, pending⟩ := Prod.mk.inj same |>.imp_right Prod.mk.inj
  exact .of_queues (by rw [link]) (by rw [link]) (by rw [link]) moves pending

theorem refl (s : State) : s.Notifies s := .quiet rfl

theorem trans (h : s.Notifies t) (k : t.Notifies u) : s.Notifies u :=
  ⟨k.tx.trans h.tx, k.decodeQueue.trans h.decodeQueue, fun x told => (k.news x told).elim (h.news x) Or.inr,
    k.moves.trans h.moves, k.pending.trans h.pending⟩

/-- A notice handed over after what came before it. -/
theorem handOver (h : s.Notifies t) (audience : Audience) {msg : Message} (hm : msg.isReply = false) :
    s.Notifies (handOver audience msg t) :=
  ⟨h.tx, h.decodeQueue, fun x told => (List.mem_append.mp told).elim (h.news x)
    fun new => Or.inr (by rw [List.mem_singleton.mp new]; exact hm), h.moves, h.pending⟩

theorem notice (h : s.Notifies t) (code : NoticeCode) (n : Nat) : s.Notifies (notice code n t) := h.handOver _ rfl

theorem moveNotice (h : s.Notifies t) (code : NoticeCode) (m : Move) : s.Notifies (moveNotice code m t) := h.handOver _ rfl

/-- A whole-queue flush after what came before it. -/
theorem flushed (h : s.Notifies t) : s.Notifies (flushQueue t) :=
  ⟨h.tx, h.decodeQueue, h.news, Nat.zero_le _, h.pending⟩

end State.Notifies

/-! ## Time -/

theorem advanceTo_notifies (t : Nat) (s : State) : s.Notifies (advanceTo t s) := .of_queues rfl rfl rfl rfl rfl

theorem atInstant_notifies {act : State → State} (h : ∀ u : State, u.Notifies (act u)) (t : Nat) (s : State) :
    s.Notifies (atInstant t act s) := by
  unfold atInstant
  split
  · exact (advanceTo_notifies t s).trans (h _)
  · exact .refl s

theorem atExpiry_notifies {act : State → State} (h : ∀ u : State, u.Notifies (act u)) (left : Option Nat) (s : State) :
    s.Notifies (atExpiry left act s) := by
  rcases atExpiry_cases left act s with hr | ⟨t, hr⟩ <;> rw [hr]
  · exact .refl s
  · exact (advanceTo_notifies t s).trans (h _)

theorem stateExpiry_notifies {act : State → State} (h : ∀ u : State, u.Notifies (act u)) (w : Winch) (state : ChanState)
    (s : State) : s.Notifies (stateExpiry w state act s) := by
  unfold stateExpiry
  split
  · exact atExpiry_notifies h _ s
  · exact .refl s

/-! ## Reports and the store -/

/-- A trip hands over its TRIP_NOTICE and REFERENCE_FAILED, and empties the move queue (R187 to R189). -/
theorem tripEffect_notifies (f : Flag) (channel : Nat) (seat : Option Seat) (s : State) :
    s.Notifies (tripEffect f channel seat s) := by
  refine ⟨rfl, rfl, fun h told => ?_, Nat.zero_le _, rfl⟩
  refine (List.mem_append.mp told).imp_right fun new => ?_
  rcases List.mem_append.mp new with noticed | failed
  · split at noticed
    · cases noticed
    · rw [List.mem_singleton.mp noticed]
      rfl
  · split at failed
    · rw [List.mem_singleton.mp failed]
      rfl
    · cases failed

/-- An occurrence of any flag: a trip, or the flag and its one notice (R184, R189). -/
theorem report_notifies (f : Flag) (channel : Nat) (seat : Option Seat) (s : State) : s.Notifies (report f channel seat s) := by
  have flagged : ∀ e, s.Notifies (s.setFlag f e) := fun _ => .quiet rfl
  cases code : f.noticeCode with
  | some n =>
    simp only [report, code]
    split
    · exact flagged _
    · exact (flagged _).notice _ _
  | none =>
    have trip : f.isTrip = true := (Flag.isTrip_iff f).mpr code
    by_cases tripped : s.fcu.flight = .tripped
    · rw [report_tripped trip channel seat tripped]
      split
      · exact flagged _
      · exact (flagged _).handOver _ rfl
    · rw [report_trip trip channel seat tripped]
      exact tripEffect_notifies f channel seat s

theorem State.Notifies.reported {s t : State} (h : s.Notifies t) (f : Flag) (channel : Nat) (seat : Option Seat) :
    s.Notifies (report f channel seat t) := h.trans (report_notifies f channel seat t)

theorem reportIf_notifies (cond : Bool) (f : Flag) (channel : Nat) (s : State) : s.Notifies (reportIf cond f channel s) := by
  unfold reportIf
  split
  · exact report_notifies _ _ _ s
  · exact .refl s

theorem beginPoseWrite_notifies (s : State) : s.Notifies (beginPoseWrite s) := by
  rw [beginPoseWrite_eq]
  split <;> exact .quiet rfl

theorem writePose_notifies (pose : RetainedPose) (s : State) : s.Notifies (writePose pose s) :=
  .quiet (by simp [writePose])

/-! ## Moves -/

theorem enterHold_notifies (cause : StopCause) (s : State) : s.Notifies (enterHold cause s) := by
  rw [enterHold_eq]
  exact State.Notifies.notice (.quiet (by rfl)) _ _

/-- A whole-queue flush before PATH_REJECTED and HOLD (R75). -/
theorem rejectPath_notifies (s : State) : s.Notifies (rejectPath s) := by
  have emptied : s.Notifies (emptyHand s) := .quiet rfl
  exact (emptied.flushed.reported .pathRejected 0 none).trans (enterHold_notifies _ _)

theorem startMove_notifies (m : Move) (step : Bool) (s : State) : s.Notifies (startMove m step s) := by
  unfold startMove
  dsimp only
  split
  · exact State.Notifies.moveNotice (.quiet (by rfl)) _ _
  · exact .quiet rfl

theorem startMove_queue (m : Move) (step : Bool) (s : State) : (startMove m step s).pln.queue = s.pln.queue := by
  unfold startMove
  dsimp only
  split <;> rfl

/-- An arrival goes as far as the move-end decision over the queue as it stands (R79). -/
theorem arriveWith_notifies {onEnd : State → State} {s : State}
    (h : ∀ u : State, u.pln.queue = s.pln.queue → u.Notifies (onEnd u)) (hand : MoveInHand) :
    s.Notifies (arriveWith onEnd hand s) := by
  have told : ∀ (b : Bool) (m : MoveInHand), s.Notifies
      (if b = true then moveNotice .moveDone m.move (s.onPln fun p => { p with inHand := some m })
        else s.onPln fun p => { p with inHand := some m }) := by
    intro b m
    cases b
    · exact .quiet rfl
    · exact State.Notifies.moveNotice (.quiet (by rfl)) _ _
  unfold arriveWith
  dsimp only
  split
  · refine (told _ _).trans (h _ ?_)
    split <;> rfl
  · split
    · refine (told _ _).trans (h _ ?_)
      split <;> rfl
    · exact (told _ _).trans (.quiet rfl)

/-- A begin goes as far as the decision it may chain to (R74 to R76). -/
theorem beginWith_notifies {onEnd : State → State} {s : State}
    (h : ∀ u : State, u.pln.queue = s.pln.queue → u.Notifies (onEnd u)) (m : Move) (step : Bool) :
    s.Notifies (beginWith onEnd m step s) := by
  cases passes : beginPasses m s with
  | false =>
    rw [beginWith_of_fails onEnd step passes]
    exact rejectPath_notifies s
  | true =>
    rw [beginWith_of_passes onEnd step passes]
    split
    · refine (startMove_notifies m step s).trans (arriveWith_notifies (fun u hu => h u ?_) _)
      rw [hu, startMove_queue]
    · exact startMove_notifies m step s

theorem earlyEnd_notifies {step : Bool} {s t : State} (h : earlyEnd step s = some t) : s.Notifies t := by
  unfold earlyEnd at h
  split at h
  · cases h
    exact enterHold_notifies _ s
  · split at h
    · cases h
      exact enterHold_notifies _ s
    · cases h

/-- The move-end decision takes moves off the queue it stands at alone (R81). -/
theorem moveEndFrom_notifies (queue : List Move) : ∀ (step : Bool) (s : State), queue.length ≤ s.pln.queue.length →
    s.Notifies (moveEndFrom queue step s) := by
  induction queue with
  | nil =>
    intro step s _
    have emptied : s.Notifies (emptyHand s) := .quiet rfl
    unfold moveEndFrom
    dsimp only
    split
    · next h => exact emptied.trans (earlyEnd_notifies h)
    · exact (emptied.notice _ _).trans (enterHold_notifies _ _)
  | cons head rest ih =>
    intro step s shorter
    have emptied : s.Notifies (emptyHand s) := .quiet rfl
    unfold moveEndFrom
    dsimp only
    split
    · next h => exact emptied.trans (earlyEnd_notifies h)
    · split
      · exact (emptied.moveNotice _ _).trans (enterHold_notifies _ _)
      · refine State.Notifies.trans (t := (emptyHand s).onPln fun p => { p with queue := rest }) ?_
          (beginWith_notifies (fun u hu => ih false u (congrArg List.length hu).ge) head false)
        exact ⟨rfl, rfl, fun _ told => Or.inl told, (Nat.le_succ rest.length).trans shorter, rfl⟩

theorem moveEnd_notifies (step : Bool) (s : State) : s.Notifies (moveEnd step s) := moveEndFrom_notifies _ step s le_rfl

/-! ## What a sample concludes -/

/-- A stream fault cancels the stream and starts a stop (R119, R120). -/
theorem streamFault_notifies (f : Flag) (rate : Nat) (cause : StopCause) (s : State) :
    s.Notifies (startStop .axis rate cause (cancelStream (report f 0 none s))) :=
  (report_notifies f 0 none s).trans (.quiet rfl)

theorem concludePath_notifies (kind : SampleKind) (m : MoveInHand) (s : State) : s.Notifies (concludePath kind m s) := by
  unfold concludePath
  split
  · split
    · exact arriveWith_notifies (fun u _ => moveEnd_notifies _ u) m
    · exact .refl s
  · split
    · exact moveEnd_notifies _ s
    · exact .refl s
  · split
    · refine State.Notifies.trans ?_ (enterHold_notifies _ _)
      split <;> exact .quiet rfl
    · split
      · have emptied : ∀ u : State, u.Notifies (emptyHand u) := fun _ => .quiet rfl
        refine State.Notifies.trans (State.Notifies.trans ?_ (emptied _)) (enterHold_notifies _ _)
        split
        · exact (State.Notifies.refl s).moveNotice _ _
        · exact .refl s
      · exact .refl s
  · exact .refl s

theorem concludeFollow_notifies (played : Vec3) (first : Bool) (s : State) : s.Notifies (concludeFollow played first s) := by
  have rest : ∀ u : State, u.Notifies
      (if 1000 * u.env.limits.lagLimit < chebyshev played u.pln.pos then lagEnd u
        else if u.pln.stream.state = .ending ∧ u.pln.stream.samples = [] then endStream u else u) := by
    intro u
    split
    · exact streamFault_notifies .streamLag _ _ u
    · split <;> exact .quiet rfl
  unfold concludeFollow
  cases first
  · exact rest s
  · exact ((State.Notifies.refl s).notice _ _).trans (rest _)

/-- What a sample concludes hands notices over and takes moves off the queue (R41, R61, R79 to R81, R84, R116 to R122). -/
theorem conclude_notifies (kind : SampleKind) (struck : Bool) (s : State) : s.Notifies (conclude kind struck s) := by
  have path : ∀ k, s.Notifies (if struck = true then strikeEnd s else s.pln.inHand.elim s fun m => concludePath k m s) := by
    intro k
    have emptied : s.Notifies (emptyHand s) := .quiet rfl
    split
    · exact emptied.flushed.trans (enterHold_notifies _ _)
    · cases s.pln.inHand with
      | none => exact .refl s
      | some m => exact concludePath_notifies k m s
  cases kind with
  | rest | stick => exact .refl s
  | follow played first => exact concludeFollow_notifies played first s
  | axisStop =>
    change s.Notifies (if s.pln.vel = Vec3.zero then endAxisStop s else s)
    split
    · refine State.Notifies.trans ?_ (enterHold_notifies _ _)
      split
      · exact (State.Notifies.refl s).notice _ _
      · exact .refl s
    · exact .refl s
  | moving | dwelling | pathStop => exact path _

/-! ## Preparation and commitment -/

theorem bandNotice_notifies (code : NoticeCode) (sends was now : Bool) (n : Nat) (s : State) :
    s.Notifies (bandNotice code sends was now n s) := by
  unfold bandNotice
  split
  · exact (State.Notifies.refl s).notice _ _
  · exact .refl s

theorem evaluateBands_notifies (s : State) : s.Notifies (evaluateBands s) := by
  unfold evaluateBands
  dsimp only
  split
  · exact .refl s
  · refine State.Notifies.trans ?_ (bandNotice_notifies _ _ _ _ _ _)
    refine State.Notifies.trans ?_ (bandNotice_notifies _ _ _ _ _ _)
    refine State.Notifies.trans ?_ (bandNotice_notifies _ _ _ _ _ _)
    exact .quiet rfl

theorem prepareFollow_notifies (first : Bool) (head : Sample) (rest : List Sample) (s : State) :
    s.Notifies (prepareFollow first head rest s).state := by
  have popped : s.Notifies (s.onPln fun p => { p with stream := { p.stream with samples := rest } }) := .quiet rfl
  exact (popped.trans (evaluateBands_notifies _)).trans (.quiet rfl)

theorem prepareTrack_notifies (s : State) : s.Notifies (prepareTrack s).state := by
  unfold prepareTrack
  split
  · exact .refl s
  · split <;> exact .quiet rfl

theorem prepareStopping_notifies (s : State) : s.Notifies (prepareStopping s).state := by
  unfold prepareStopping
  split <;> exact .quiet rfl

theorem prepareStream_notifies (s : State) : s.Notifies (prepareStream s).state := by
  unfold prepareStream
  split
  · exact prepareFollow_notifies _ _ _ s
  · split
    · exact State.Notifies.trans (t := underrun s) (streamFault_notifies .streamUnderrun _ _ s) (.quiet rfl)
    · exact .quiet rfl

theorem prepareStartOfPlay_notifies (s : State) : s.Notifies (prepareStartOfPlay s).state := by
  unfold prepareStartOfPlay
  dsimp only
  split
  · exact (report_notifies .streamUnderrun 0 none s).trans (.quiet rfl)
  · split
    · exact ((State.Notifies.refl s).notice .joinRefused _).trans (.quiet rfl)
    · refine State.Notifies.trans ?_ (prepareFollow_notifies _ _ _ _)
      exact .quiet rfl

theorem prepareSample_notifies {frameStart : Bool} {s : State} :
    ∀ p, prepareSample frameStart s = some p → s.Notifies p.state := by
  have given : ∀ q : Prepared, s.Notifies q.state → ∀ p, some q = some p → s.Notifies p.state :=
    fun q hq p h => Option.some.inj h ▸ hq
  unfold prepareSample
  cases s.fcu.flight with
  | parked | parking | tripped => exact fun _ h => nomatch h
  | arming | stick => exact given _ (.quiet rfl)
  | hold =>
    refine given _ ?_
    split
    · exact prepareStartOfPlay_notifies s
    · exact .quiet rfl
  | track => exact given _ (prepareTrack_notifies s)
  | stream => exact given _ (prepareStream_notifies s)
  | stopping => exact given _ (prepareStopping_notifies s)

theorem examineMarker_notifies (flight : FlightState) (p : Vec3) (s : State) (i : Fin 4) :
    s.Notifies (examineMarker flight p s i) := by
  have entered : ∀ (m : Marker) (u : State), u.Notifies (actOnEntry flight i m u) := by
    intro m u
    unfold actOnEntry
    dsimp only
    refine State.Notifies.notice ?_ _ _
    split <;> exact .quiet rfl
  unfold examineMarker
  split
  · exact .refl s
  · next m _ =>
    have seen : s.Notifies (putMarker i (some { m with inside := insideMarker m.spec p }) s) := .quiet rfl
    dsimp only
    split
    · exact seen.trans (entered m _)
    · exact seen

theorem examineMarkers_notifies (flight : FlightState) (p : Vec3) (s : State) : s.Notifies (examineMarkers flight p s) := by
  have slots : ∀ (slots : List (Fin 4)) (u : State), u.Notifies (slots.foldl (examineMarker flight p) u) := by
    intro slots
    induction slots with
    | nil => exact .refl
    | cons i rest ih => exact fun u => (examineMarker_notifies flight p u i).trans (ih _)
  unfold examineMarkers
  split
  · exact slots _ s
  · exact .refl s

theorem commit_notifies (p : Prepared) : p.state.Notifies p.commit := by
  unfold Prepared.commit
  dsimp only
  have handed : ∀ u : State, u.Notifies (handSetpoints u) := fun _ => .quiet rfl
  refine State.Notifies.trans (State.Notifies.trans ?_ (handed _)) (examineMarkers_notifies _ _ _)
  split
  · refine State.Notifies.reported ?_ _ _ _
    exact .quiet rfl
  · exact .quiet rfl

/-- The planner's sample hands notices over (R43). -/
theorem planSample_notifies (frameStart : Bool) (s : State) : s.Notifies (planSample frameStart s) := by
  unfold planSample
  cases hp : prepareSample frameStart s with
  | none => exact .refl s
  | some p => exact ((prepareSample_notifies p hp).trans (commit_notifies p)).trans (conclude_notifies _ _ _)

/-! ## The timebase -/

theorem reportThirdMiss_notifies (w : Winch) (c : Channel) (s : State) : s.Notifies (reportThirdMiss w c s) := by
  unfold reportThirdMiss
  split
  · exact .refl s
  · split
    · exact report_notifies _ _ _ s
    · exact (State.Notifies.refl s).notice _ _

theorem runChannels_notifies (s : State) : s.Notifies (runChannels s) := by
  have sent : s.Notifies (onAllChans (fun c => c.close.send) s) := .quiet rfl
  exact (((sent.trans (reportThirdMiss_notifies .w1 _ _)).trans (reportThirdMiss_notifies .w2 _ _)).trans
    (reportThirdMiss_notifies .w3 _ _)).trans (reportThirdMiss_notifies .w4 _ _)

theorem completePull_notifies (s : State) : s.Notifies (completePull s) := by
  unfold completePull
  split
  · exact State.Notifies.notice (.quiet (by rfl)) _ _
  · exact .refl s

theorem loseReference_notifies (s : State) : s.Notifies (loseReference s) :=
  State.Notifies.reported (.quiet (by rfl)) _ _ _

theorem closeMiss_notifies (s : State) : s.Notifies (closeMiss s) := by
  unfold closeMiss
  split
  · exact loseReference_notifies s
  · exact .refl s

theorem jumpLocked_notifies (s : State) : s.Notifies (jumpLocked s) := State.Notifies.notice (.quiet (by rfl)) _ _

theorem countFrame_notifies (frameStart : Bool) (s : State) : s.Notifies (countFrame frameStart s) := by
  unfold countFrame
  split <;> exact .quiet rfl

theorem settleExhaustion_notifies (s : State) : s.Notifies (settleExhaustion s) := by
  unfold settleExhaustion
  split <;> exact .quiet rfl

/-- The FRAME_POSE stands among the notices handed over (R150). -/
theorem handFramePose_notifies (s : State) : s.Notifies (handFramePose s) := by
  obtain ⟨before, after, n, handed, posed⟩ := handFramePose_eq s
  rw [posed]
  refine ⟨rfl, rfl, fun h told => ?_, le_rfl, rfl⟩
  rw [handed]
  rcases List.mem_append.mp told with first | rest
  · exact Or.inl (List.mem_append_left _ first)
  · rcases List.mem_cons.mp rest with pose | last
    · exact Or.inr (by rw [pose]; rfl)
    · exact Or.inl (List.mem_append_right _ last)

theorem decidePull_notifies (s : State) : s.Notifies (decidePull s) := by
  unfold decidePull
  dsimp only
  split
  · exact State.Notifies.notice (.quiet (by rfl)) _ _
  · split <;> exact .quiet rfl

section
variable {fruStep : State → State} (hstep : ∀ u : State, u.Notifies (fruStep u))
include hstep

theorem raiseServo_notifies (index : Nat) (s : State) : s.Notifies (raiseServo index fruStep s) := by
  have finished : ∀ u : State, u.Notifies (finishServo index (staleFlags s) fruStep u) := fun u =>
    (((runChannels_notifies u).trans (hstep _)).trans (settleExhaustion_notifies _)).trans (.quiet rfl)
  have event := ((countFrame_notifies (decide (index = 0)) s).trans (planSample_notifies (decide (index = 0)) _)).trans
    (finished _)
  unfold raiseServo
  dsimp only
  split
  · exact event.trans (handFramePose_notifies _)
  · exact event

theorem edgeFrameStart_notifies (s : State) : s.Notifies (edgeFrameStart fruStep s) := by
  have played : ∀ u : State, u.Notifies (promoteSample u) := by
    intro u
    unfold promoteSample
    split
    · exact (planSample_notifies true u).trans (.quiet rfl)
    · exact .refl u
  have promoted : s.Notifies (fruStep (promoteSample (countFrame true s))) :=
    ((countFrame_notifies true s).trans (played _)).trans (hstep _)
  unfold edgeFrameStart promoteServo
  split
  · split
    · exact hstep s
    · refine State.Notifies.trans ?_ (handFramePose_notifies _)
      exact (promoted.trans (settleExhaustion_notifies _)).trans (.quiet rfl)
  · exact raiseServo_notifies hstep 0 s

end

/-- An edge, by the reference state (R140 to R147). -/
theorem referenceEdge_notifies (s : State) : s.Notifies (referenceEdge s) := by
  have quiet : ∀ f : Fru → Fru, s.Notifies (s.onFru f) := fun _ => .quiet rfl
  have locks : ∀ u : State, u.Notifies (reachLock u) := by
    intro u
    unfold reachLock
    split
    · exact edgeFrameStart_notifies jumpLocked_notifies u
    · exact decidePull_notifies u
  unfold referenceEdge
  split
  · exact .refl s
  · dsimp only
    split
    · exact quiet _
    · unfold edgeInAcquiring
      dsimp only
      split
      · split
        · exact (quiet _).trans (locks _)
        · exact quiet _
      · exact quiet _
    · unfold edgeInPulling
      split
      · exact (quiet _).trans (decidePull_notifies _)
      · exact quiet _
    · unfold edgeInLocked
      split
      · exact (quiet _).trans (edgeFrameStart_notifies State.Notifies.refl _)
      · exact .refl s

/-! ## Drive answers and timeouts -/

theorem onChan_notifies (w : Winch) (f : Channel → Channel) (s : State) : s.Notifies (s.onChan w f) := .quiet rfl

theorem badFrame_notifies (w : Winch) (s : State) : s.Notifies (badFrame w s) := by
  unfold badFrame
  dsimp only
  split
  · exact (onChan_notifies w _ s).reported _ _ _
  · exact onChan_notifies w _ s

theorem loseChannel_notifies (w : Winch) (f : Channel → Channel) (s : State) : s.Notifies (loseChannel w f s) :=
  (onChan_notifies w f s).reported _ _ _

theorem streamingChecks_notifies (w : Winch) (a : AnswerFields) (s : State) : s.Notifies (streamingChecks w a s) := by
  unfold streamingChecks
  dsimp only
  refine State.Notifies.trans ?_ (reportIf_notifies _ _ _ _)
  refine State.Notifies.trans ?_ (reportIf_notifies _ _ _ _)
  refine State.Notifies.trans ?_ (reportIf_notifies _ _ _ _)
  refine State.Notifies.trans ?_ (reportIf_notifies _ _ _ _)
  exact onChan_notifies w _ s

theorem settleSetting_notifies (s : State) : s.Notifies (settleSetting s) := by
  unfold settleSetting
  split
  · exact .notice ((writePose_notifies _ s).trans (.quiet (by rfl))) .referenceDone _
  · exact .refl s

theorem findDrive_notifies (w : Winch) (d : DriveState) (s : State) : s.Notifies (findDrive w d s) := by
  cases d with
  | starting =>
    unfold findDrive
    dsimp only
    split
    · exact .refl s
    · exact onChan_notifies w _ s
  | braked | released => exact (onChan_notifies w _ s).notice _ _
  | faulted => exact .refl s

/-- A channel's act on a valid answer, in each of its states (R158 to R165). -/
theorem actOnAnswer_notifies (w : Winch) (a : AnswerFields) (s : State) : s.Notifies (actOnAnswer w a s) := by
  unfold actOnAnswer
  dsimp only
  split
  · split
    · exact .refl s
    · exact (onChan_notifies w _ s).reported _ _ _
  · split
    · exact findDrive_notifies w _ s
    · exact findDrive_notifies w _ s
    · unfold answerInReady
      split
      · exact (onChan_notifies w _ s).notice _ _
      all_goals exact .quiet rfl
    · unfold answerInReleasing
      split
      · exact loseChannel_notifies w _ s
      all_goals exact .quiet rfl
    · unfold answerInStreaming
      split
      · exact loseChannel_notifies w _ s
      · exact loseChannel_notifies w _ s
      · exact streamingChecks_notifies w a s
      · exact .refl s
    · unfold answerInBraking
      split
      · exact loseChannel_notifies w _ s
      all_goals exact .quiet rfl
    · unfold answerInSetting
      split
      · exact loseChannel_notifies w _ s
      · split
        · exact (onChan_notifies w _ s).trans (settleSetting_notifies _)
        · exact .refl s

theorem watchChannels_notifies (s : State) : s.Notifies (watchChannels s) := by
  unfold watchChannels
  split
  · exact State.Notifies.notice (.quiet (by rfl)) .armed 0
  · split
    · refine State.Notifies.notice (State.Notifies.trans ?_ (writePose_notifies _ _)) .parked 0
      exact .quiet rfl
    · exact .refl s

theorem driveAnswer_notifies (w : Winch) (bytes : List Byte) (s : State) : s.Notifies (driveAnswer w bytes s) := by
  unfold driveAnswer
  split
  · exact badFrame_notifies w s
  · exact ((onChan_notifies w _ s).trans (actOnAnswer_notifies w _ _)).trans (watchChannels_notifies _)

theorem releaseTimeout_notifies (w : Winch) (s : State) : s.Notifies (releaseTimeout w s) := by
  have reported := (onChan_notifies w (fun c => { c with timer := none }) s).reported .armTimeout (winchNumber w) none
  unfold releaseTimeout
  dsimp only
  split
  · exact .notice (reported.trans (.quiet (by rfl))) .armFailed _
  · exact reported

theorem settingTimeout_notifies (w : Winch) (s : State) : s.Notifies (settingTimeout w s) := by
  have ended : s.Notifies (endSettingOp (report .settingTimeout (winchNumber w) none s)) :=
    (report_notifies _ _ _ s).trans (.quiet rfl)
  exact (ended.trans (writePose_notifies _ _)).notice _ _

/-! ## What records do -/

theorem cancelPrimed_notifies (s : State) : s.Notifies (cancelPrimed s) := by
  rw [cancelPrimed_eq]
  exact .quiet rfl

theorem startParking_notifies (s : State) : s.Notifies (startParking s) := by
  refine State.Notifies.trans ?_ (cancelPrimed_notifies _)
  exact .quiet rfl

theorem holdEffect_notifies (seat : Seat) (s : State) : s.Notifies (holdEffect seat s) := by
  unfold holdEffect
  split
  · split
    · exact cancelPrimed_notifies s
    · exact .refl s
  · unfold holdInTrack
    split
    · exact .refl s
    · split
      · exact .quiet rfl
      · exact State.Notifies.trans (t := emptyHand s) (.quiet rfl) (enterHold_notifies _ _)
      all_goals exact .refl s
  · exact .quiet rfl
  · exact .quiet rfl
  · unfold holdInStopping
    split
    · exact .refl s
    · split <;> exact .quiet rfl
  · exact .refl s

theorem takeStick_notifies (s : State) : s.Notifies (takeStick s) := by
  have entered : ∀ u : State, u.Notifies (enterStick u) := fun u => .quiet rfl
  unfold takeStick
  split
  · refine State.Notifies.trans ((cancelPrimed_notifies s).trans ?_) (entered _)
    exact .quiet rfl
  · refine State.Notifies.trans ?_ (entered _)
    unfold handOverMove
    split
    · exact .quiet rfl
    · split <;> exact .quiet rfl
  · exact .quiet rfl
  · exact .refl s

theorem flushMoves_notifies (seat : Seat) (s : State) : s.Notifies (flushMoves seat s) := by
  unfold flushMoves
  split
  · exact ⟨rfl, rfl, fun _ told => Or.inl told, List.length_filter_le _ _, rfl⟩
  · unfold discardSuspended
    split
    · exact (State.Notifies.refl s).flushed.trans (.quiet rfl)
    · exact (State.Notifies.refl s).flushed

theorem streamEnd_notifies (s : State) : s.Notifies (streamEnd s) := by
  unfold streamEnd
  split
  · exact .quiet rfl
  · split <;> exact .quiet rfl
  all_goals exact .refl s

theorem stickRecord_notifies (seat : Seat) (p : List Byte) (s : State) : s.Notifies (stickRecord seat p s) := by
  unfold stickRecord
  split <;> exact .quiet rfl

theorem appendInOrder_notifies (positions : List Vec3) (s : State) : s.Notifies (appendInOrder positions s) := by
  have appended : s.Notifies (s.onPln fun p => { p with stream := p.stream.append positions }) := .quiet rfl
  refine State.Notifies.trans ?_ (evaluateBands_notifies _)
  split
  · exact appended.reported _ _ _
  · exact appended

theorem streamAhead_notifies (s : State) : s.Notifies (streamAhead s) := by
  unfold streamAhead
  dsimp only
  split
  · exact .quiet rfl
  · exact State.Notifies.notice (.quiet (by rfl)) _ _

theorem streamRecord_notifies (seat : Seat) (p : List Byte) (s : State) : s.Notifies (streamRecord seat p s) := by
  unfold streamRecord takeSamples
  dsimp only
  split
  · exact .quiet rfl
  · split
    · split
      · exact appendInOrder_notifies _ s
      · split
        · split
          · exact .refl s
          · exact appendInOrder_notifies _ s
        · exact streamAhead_notifies s
    · exact .quiet rfl

theorem restartDrive_notifies (d0 : Byte) (s : State) : s.Notifies (restartDrive d0 s) := by
  unfold restartDrive
  split <;> exact .quiet rfl

/-- The ZONE_STOP an activation may start flushes the move queue (R30). -/
theorem takeZone_notifies (slot : Nat) (z : Zone) (s : State) : s.Notifies (takeZone slot z s) := by
  have stops : ∀ u : State, u.Notifies (zoneStopDecision z u) := by
    intro u
    by_cases hc : ∃ m, u.cutBy z m
    · obtain ⟨m, cut⟩ := hc
      rw [zoneStopDecision_cut cut]
      split
      · exact report_notifies _ _ _ u
      · have abandoned : u.Notifies (u.onPln fun p =>
            { p with inHand := some { m with phase := .abandoned, stepFlag := false } }) := .quiet rfl
        exact (abandoned.flushed.reported _ _ _).trans (.quiet rfl)
    · rw [zoneStopDecision_uncut (not_exists.mp hc)]
      exact .refl u
  exact State.Notifies.trans (t := s.onEnv fun e => e.putZone slot (some z)) (.quiet rfl) (stops _)

end Sys2Proof.Machine
end

section
/-! Every command's end (R201 to R206; 04 R68): a record that gets a reply queues exactly one, LINK's two queues and the move queue
keep their bounds, the waiting commands stand and every notice is copied. -/

namespace Sys2Proof.Machine

open Sys2Proof

/-! ## One reply -/

/-- One reply is queued on a seat; what is new among the notices handed over is no reply; the decode queue and the waiting commands
stand, and the move queue keeps its bound. -/
structure State.Replies (seat : Seat) (s t : State) : Prop where
  replied : ∃ m : Message, m.isReply = true ∧ t.link.tx = s.link.tx ++ [⟨seat, m⟩]
  decodeQueue : t.link.decodeQueue = s.link.decodeQueue
  news : ∀ h ∈ t.link.handed, h ∈ s.link.handed ∨ h.msg.isReply = false
  moves : queueLaw s → queueLaw t
  pending : t.pending = s.pending

namespace State.Replies

variable {seat : Seat} {s t u : State}

theorem reply (seat : Seat) {m : Message} (hm : m.isReply = true) (s : State) : s.Replies seat (reply seat m s) :=
  ⟨⟨m, hm, rfl⟩, rfl, fun _ told => Or.inl told, id, rfl⟩

theorem ack (seat : Seat) (type : BitVec 6) (n : Nat) (s : State) : s.Replies seat (ack seat type n s) := reply seat rfl s

theorem refuse (seat : Seat) (code : ErrorCode) (n : Nat) (s : State) : s.Replies seat (refuse seat code n s) :=
  reply seat rfl s

/-- What follows the reply tells LINK no more than notices. -/
theorem followed (h : s.Replies seat t) (k : t.Notifies u) : s.Replies seat u := by
  obtain ⟨m, hm, tx⟩ := h.replied
  exact ⟨⟨m, hm, k.tx.trans tx⟩, k.decodeQueue.trans h.decodeQueue, fun x told => (k.news x told).elim (h.news x) Or.inr,
    fun law => k.moves.trans (h.moves law), k.pending.trans h.pending⟩

/-- What comes before the reply tells LINK no more than notices. -/
theorem preceded (h : s.Notifies t) (k : t.Replies seat u) : s.Replies seat u := by
  obtain ⟨m, hm, tx⟩ := k.replied
  exact ⟨⟨m, hm, by rw [tx, h.tx]⟩, k.decodeQueue.trans h.decodeQueue, fun x told => (k.news x told).elim (h.news x) Or.inr,
    fun law => k.moves (h.moves.trans law), k.pending.trans h.pending⟩

end State.Replies

/-- An owner's answer is one reply, and then what the record does. -/
theorem answer_replies {take : State → State} (h : ∀ u : State, u.Notifies (take u)) (seat : Seat) (type : BitVec 6)
    (checks : List (Bool × ErrorCode × Nat)) (s : State) : s.Replies seat (answer seat type checks take s) := by
  unfold answer
  split
  · exact .refuse _ _ _ s
  · exact (State.Replies.ack _ _ _ s).followed (h _)

/-! ## The owners -/

theorem resumeWith_replies (type : BitVec 6) (step : Bool) (seat : Seat) (s : State) :
    s.Replies seat (resumeWith type step seat s) := by
  unfold resumeWith
  split
  · exact .refuse _ _ _ s
  · split
    · exact .refuse _ _ _ s
    · next m t offered =>
      have left : s.Notifies t := by
        unfold nextMove at offered
        split at offered
        · cases offered
          exact .quiet rfl
        · split at offered
          · cases offered
          · next head rest queue =>
            cases offered
            refine ⟨rfl, rfl, fun _ told => Or.inl told, ?_, rfl⟩
            rw [queue]
            exact Nat.le_succ _
      have begins : ∀ u : State, u.Notifies (beginWith (moveEnd step) m step u) := fun u =>
        beginWith_notifies (fun v _ => moveEnd_notifies step v) m step
      split
      · exact .preceded left ((State.Replies.ack _ _ _ t).followed ((cancelPrimed_notifies _).trans (begins _)))
      · exact .preceded left ((State.Replies.ack _ _ _ t).followed (begins _))

/-- The clearing comes before the reply (R192). -/
theorem clearFaultsRecord_replies (seat : Seat) (s : State) : s.Replies seat (clearFaultsRecord seat s) := by
  have cleared : s.Notifies (clearFlags s) := by
    obtain ⟨_, pln, _, _, _, _, _, _, _, pending, _⟩ := clearFlags_sameButFlags s
    exact .quiet (by rw [clearFlags_link, pln, pending])
  have returned : ∀ u : State, u.Notifies (returnToParked u) := by
    intro u
    unfold returnToParked
    split <;> exact .quiet rfl
  unfold clearFaultsRecord
  split
  · exact .refuse _ _ _ s
  · refine .preceded ((cleared.trans ?_).trans (returned _)) (.ack _ _ _ _)
    exact .quiet rfl

/-- An appended move finds fewer than 32 records (R68, R72). -/
theorem appendMove_replies (seat : Seat) (p : List Byte) (s : State) : s.Replies seat (appendMove seat p s) := by
  unfold appendMove
  dsimp only
  split
  · exact .refuse _ _ _ s
  · next passes =>
    have room : s.pln.queue.length < queueCapacity := by
      have := (firstError_none_iff _).mp passes (decide (queueCapacity ≤ s.pln.queue.length), .queueFull, 0)
        (by simp [appendChecks])
      simpa using this
    refine ⟨⟨_, rfl, rfl⟩, rfl, fun _ told => Or.inl told, fun _ => ?_, rfl⟩
    simpa [queueLaw] using room

theorem zonePut_replies (seat : Seat) (p : List Byte) (s : State) : s.Replies seat (zonePut seat p s) := by
  unfold zonePut
  dsimp only
  split
  · exact .refuse _ _ _ s
  · split
    · exact .refuse _ _ _ s
    · exact answer_replies (takeZone_notifies _ _) _ _ _ s

theorem zoneSet_replies (seat : Seat) (p : List Byte) (s : State) : s.Replies seat (zoneSet seat p s) := by
  unfold zoneSet
  dsimp only
  split
  · exact .refuse _ _ _ s
  · split
    · exact .refuse _ _ _ s
    · exact answer_replies (takeZone_notifies _ _) _ _ _ s

theorem zoneRemove_replies (seat : Seat) (p : List Byte) (s : State) : s.Replies seat (zoneRemove seat p s) := by
  unfold zoneRemove
  dsimp only
  split
  · exact .refuse _ _ _ s
  · split
    · exact .ack _ _ _ s
    · exact answer_replies (fun _ => .quiet (by rfl)) _ _ _ s

theorem setAnchor_replies (seat : Seat) (p : List Byte) (s : State) : s.Replies seat (setAnchor seat p s) := by
  unfold setAnchor
  dsimp only
  split
  · exact .refuse _ _ _ s
  · exact .refuse _ _ _ s
  · exact .preceded (.quiet (by rfl)) (.ack _ _ _ _)

theorem setWorkspace_replies (seat : Seat) (p : List Byte) (s : State) : s.Replies seat (setWorkspace seat p s) := by
  unfold setWorkspace
  dsimp only
  split
  · exact .refuse _ _ _ s
  · exact .preceded (.quiet (by rfl)) (.ack _ _ _ _)

/-- A command that gets a reply is LINK's checks on its record and then an owner that replies once. -/
theorem exec_replies {c : Instr} {r : Record} (hr : recordOf c = some r) (hc : repliedCommand c = true) :
    ∃ owner, (∀ s, exec c s = done (decodeCommand r.type r.seat r.body owner s)) ∧ ∀ s : State, s.Replies r.seat (owner s) := by
  cases c with
  | ignoredRecord | stick | streamData => cases hc
  | partReset | estopAssertion | estopDeassertion | receiveByte | gapTimeout | transmitComplete | servoEvent | referenceEdge
  | acquireSilenceTimeout | pullSilenceTimeout | windowClose | driveAnswer | releaseTimeout | brakeTimeout | setTimeout
  | stickTimerExpiry | saveWriteStart | saveWriteEnd | poseWriteStart | poseWriteEnd => cases hr
  | queryState | readPose | readSettings => cases hr; exact ⟨_, fun _ => rfl, fun s => .reply _ rfl s⟩
  | arm | reference | streamStart | setLimits | setTiming | setHome | dropStick =>
    cases hr
    exact ⟨_, fun _ => rfl, fun s => answer_replies (fun _ => .quiet (by rfl)) _ _ _ s⟩
  | resetPart =>
    cases hr
    have stops : ∀ u : State, u.Notifies (startResetPart u) := fun _ => .of_queues rfl rfl rfl rfl rfl
    exact ⟨_, fun _ => rfl, fun s => answer_replies stops _ _ _ s⟩
  | park => cases hr; exact ⟨_, fun _ => rfl, fun s => answer_replies startParking_notifies _ _ _ s⟩
  | hold seat => cases hr; exact ⟨_, fun _ => rfl, fun s => answer_replies (holdEffect_notifies seat) _ _ _ s⟩
  | resume | step => cases hr; exact ⟨_, fun _ => rfl, resumeWith_replies _ _ _⟩
  | takeStick => cases hr; exact ⟨_, fun _ => rfl, fun s => answer_replies takeStick_notifies _ _ _ s⟩
  | trip => cases hr; exact ⟨_, fun _ => rfl, fun s => answer_replies (report_notifies _ _ _) _ _ _ s⟩
  | clearFaults => cases hr; exact ⟨_, fun _ => rfl, clearFaultsRecord_replies _⟩
  | flushMoves seat => cases hr; exact ⟨_, fun _ => rfl, fun s => answer_replies (flushMoves_notifies seat) _ _ _ s⟩
  | streamEnd => cases hr; exact ⟨_, fun _ => rfl, fun s => answer_replies streamEnd_notifies _ _ _ s⟩
  | restartDrive seat d0 => cases hr; exact ⟨_, fun _ => rfl, fun s => answer_replies (restartDrive_notifies d0) _ _ _ s⟩
  | saveSettings =>
    cases hr
    refine ⟨_, fun _ => rfl, fun s => answer_replies (fun u => ?_) _ _ _ s⟩
    exact (beginPoseWrite_notifies u).trans (.quiet rfl)
  | declarePose =>
    cases hr
    refine ⟨_, fun _ => rfl, fun s => answer_replies (fun u => ?_) _ _ _ s⟩
    exact State.Notifies.trans (.quiet (by rfl)) (settleSetting_notifies _)
  | consent =>
    cases hr
    refine ⟨_, fun _ => rfl, fun s => ?_⟩
    unfold consent
    split
    · exact .refuse _ _ _ s
    · exact (State.Replies.ack _ _ _ s).followed (.quiet rfl)
  | servicePermit =>
    cases hr
    refine ⟨_, fun _ => rfl, fun s => ?_⟩
    unfold servicePermit
    split
    · exact .refuse _ _ _ s
    · exact (State.Replies.ack _ _ _ s).followed (.quiet rfl)
  | subscribe =>
    cases hr
    refine ⟨_, fun _ => rfl, fun s => ?_⟩
    unfold subscribe
    split
    · exact .refuse _ _ _ s
    · exact (State.Replies.ack _ _ _ s).followed (.of_queues rfl rfl rfl rfl rfl)
  | zoneRead =>
    cases hr
    refine ⟨_, fun _ => rfl, fun s => ?_⟩
    unfold zoneRead
    split
    · exact .refuse _ _ _ s
    · exact .reply _ rfl s
  | markerRead =>
    cases hr
    refine ⟨_, fun _ => rfl, fun s => ?_⟩
    unfold markerRead
    split
    · exact .refuse _ _ _ s
    · exact .reply _ rfl s
  | markerClear =>
    cases hr
    refine ⟨_, fun _ => rfl, fun s => ?_⟩
    unfold markerClear
    split
    · exact .refuse _ _ _ s
    · split
      · exact .ack _ _ _ s
      · exact (State.Replies.ack _ _ _ s).followed (.quiet rfl)
  | markerSet =>
    cases hr
    refine ⟨_, fun _ => rfl, fun s => ?_⟩
    unfold markerSet
    split
    · exact .refuse _ _ _ s
    · split
      · exact .refuse _ _ _ s
      · exact (State.Replies.ack _ _ _ s).followed (.quiet rfl)
  | setChannelLimits =>
    cases hr
    refine ⟨_, fun _ => rfl, fun s => ?_⟩
    unfold setChannelLimits
    dsimp only
    split
    · exact .refuse _ _ _ s
    · exact .refuse _ _ _ s
    · exact (State.Replies.ack _ _ _ s).followed (.quiet rfl)
  | appendMove seat p => cases hr; exact ⟨_, fun _ => rfl, appendMove_replies seat p⟩
  | zonePut seat p => cases hr; exact ⟨_, fun _ => rfl, zonePut_replies seat p⟩
  | zoneSet seat p => cases hr; exact ⟨_, fun _ => rfl, zoneSet_replies seat p⟩
  | zoneRemove seat p => cases hr; exact ⟨_, fun _ => rfl, zoneRemove_replies seat p⟩
  | setAnchor seat p => cases hr; exact ⟨_, fun _ => rfl, setAnchor_replies seat p⟩
  | setWorkspace seat p => cases hr; exact ⟨_, fun _ => rfl, setWorkspace_replies seat p⟩

/-- STICK, STREAM_DATA and an ignored record are the decode of their record, and tell LINK no more than notices; an ignored record
of another type is none. -/
theorem exec_unreplied {c : Instr} {r : Record} (hr : recordOf c = some r) (hc : repliedCommand c = false) :
    (∀ s, exec c s = done s) ∨
      ∃ act, (∀ s, exec c s = done (decodeRecord r act s)) ∧ ∀ s : State, s.Notifies (act s) := by
  cases c with
  | ignoredRecord seat type body =>
    cases hr
    by_cases ignored : isIgnoredType type = true
    · refine Or.inr ⟨fun s => s.onLink (Link.count fun c => { c with ignored := satSucc cap16 c.ignored }), fun s => ?_,
        fun _ => .of_queues rfl rfl rfl rfl rfl⟩
      exact congrArg done (if_pos ignored)
    · exact Or.inl fun s => congrArg done (if_neg ignored)
  | stick seat p => cases hr; exact Or.inr ⟨_, fun _ => rfl, stickRecord_notifies seat p⟩
  | streamData seat p => cases hr; exact Or.inr ⟨_, fun _ => rfl, streamRecord_notifies seat p⟩
  | partReset | estopAssertion | estopDeassertion | receiveByte | gapTimeout | transmitComplete | servoEvent | referenceEdge
  | acquireSilenceTimeout | pullSilenceTimeout | windowClose | driveAnswer | releaseTimeout | brakeTimeout | setTimeout
  | stickTimerExpiry | saveWriteStart | saveWriteEnd | poseWriteStart | poseWriteEnd => cases hr
  | _ => cases hc

/-! ## Decoding -/

theorem State.decodesNow.handed {s : State} {r : Record} (h : s.decodesNow r) : s.link.handed = [] := h.2.2.2

/-- A record decoded now gets one reply: LINK's refusal, or its owner's. -/
theorem decodeCommand_replies {type : BitVec 6} {seat : Seat} {body : List Byte} {owner : State → State} {s : State}
    (hd : s.decodesNow ⟨seat, type, body⟩) (ho : ∀ u : State, u.Replies seat (owner u)) :
    s.afterDecode.Replies seat (decodeCommand type seat body owner s) := by
  unfold decodeCommand
  rw [decodeRecord_now hd]
  split
  · exact .refuse _ _ _ _
  · exact ho _

/-- The copies of a step's notices follow what it queued, and none of them is a reply. -/
theorem deliver_adds {s u : State} (handed : s.link.handed = [])
    (news : ∀ h ∈ u.link.handed, h ∈ s.link.handed ∨ h.msg.isReply = false) :
    ∃ rest, (deliver u).link.tx = u.link.tx ++ rest ∧ ∀ x ∈ rest, x.msg.isReply = false := by
  obtain ⟨rest, tx, copies⟩ := deliver_tx u
  refine ⟨rest, tx, fun x hx => ?_⟩
  obtain ⟨h, told, same⟩ := copies x hx
  rw [same]
  exact (news h told).resolve_left (by rw [handed]; exact List.not_mem_nil)

/-- Settles O9: one reply of the decode, and after it the copies of the notices handed over. -/
theorem oneReplyPerDecode : Obligations.OneReplyPerDecode := by
  refine ⟨fun c r s hc hr hd => ?_, fun c r s hc hr hd => ?_⟩
  · obtain ⟨owner, decodes, replies⟩ := exec_replies hr hc
    have reply := decodeCommand_replies hd replies
    obtain ⟨m, hm, tx⟩ := reply.replied
    obtain ⟨rest, copied, none⟩ := deliver_adds (s := s.afterDecode) hd.handed reply.news
    refine ⟨deliver (decodeCommand r.type r.seat r.body owner s), m, rest, decodes s, ?_, hm, none⟩
    rw [copied, tx, afterDecode_tx, List.append_assoc, List.singleton_append]
  · rcases exec_unreplied hr hc with idle | ⟨act, decodes, notifies⟩
    · exact ⟨s, [], (idle s).trans (done_of_none hd.handed), (List.append_nil _).symm, List.forall_mem_nil _⟩
    · have told := notifies s.afterDecode
      obtain ⟨rest, copied, none⟩ := deliver_adds (s := s.afterDecode) hd.handed told.news
      refine ⟨deliver (act s.afterDecode), rest, (decodes s).trans (congrArg done (decodeRecord_now hd act)), ?_, none⟩
      rw [copied, told.tx, afterDecode_tx]

/-! ## The end of every command -/

/-- What a command leaves before the copies of its notices: the waiting commands stand, and the bounds of the queues are kept. -/
structure State.Completes (s t : State) : Prop where
  pending : t.pending = s.pending
  link : linkBounds s → linkBounds t
  moves : queueLaw s → queueLaw t

theorem State.Notifies.completes {s t : State} (h : s.Notifies t) : s.Completes t :=
  ⟨h.pending, fun bounds => by rw [linkBounds, h.tx, h.decodeQueue]; exact bounds, h.moves.trans⟩

/-- An update of LINK alone. -/
theorem State.Completes.of_link {s : State} {f : Link → Link} (h : linkBounds s → linkBounds (s.onLink f)) :
    s.Completes (s.onLink f) := ⟨rfl, h, id⟩

theorem State.Completes.trans {s t u : State} (h : s.Completes t) (k : t.Completes u) : s.Completes u :=
  ⟨k.pending.trans h.pending, k.link ∘ h.link, k.moves ∘ h.moves⟩

/-- The copies enter below 48 records, and nothing else of the bounds moves. -/
theorem deliver_completes (s : State) : s.Completes (deliver s) := by
  refine ⟨rfl, fun ⟨tx, queue⟩ => ⟨(deliver_tx_length s).trans (max_le tx (by decide)), ?_⟩, id⟩
  rw [deliver_decodeQueue]
  exact queue

/-- A completed record enters the decode queue while it holds fewer than 8 (R201). -/
theorem completeRecord_bounds (r : Record) (l : Link) :
    (completeRecord r l).tx = l.tx ∧
      (l.decodeQueue.length ≤ decodeCapacity → (completeRecord r l).decodeQueue.length ≤ decodeCapacity) := by
  unfold completeRecord
  split
  · next room => exact ⟨rfl, fun _ => by simpa using room⟩
  · exact ⟨rfl, id⟩

theorem afterDecode_completes (s : State) : s.Completes s.afterDecode :=
  .of_link fun ⟨tx, queue⟩ => ⟨tx, by simpa [State.onLink] using queue.trans (Nat.le_succ _)⟩

/-- A decode completes where the act on the record does, with room for one reply (R201, R205). -/
theorem decodeRecord_completes {r : Record} {act : State → State} {s : State}
    (h : s.link.tx.length < txCapacity → s.afterDecode.Completes (act s.afterDecode)) : s.Completes (decodeRecord r act s) := by
  rcases decodeRecord_cases r act s with hr | hr | ⟨-, room, hr⟩ <;> rw [hr]
  · exact (State.Notifies.refl s).completes
  · unfold awaitDecode
    split
    · exact (State.Notifies.refl s).completes
    · obtain ⟨tx, queue⟩ := completeRecord_bounds r s.link
      refine .of_link fun bounds => ⟨?_, queue bounds.2⟩
      rw [State.onLink_link, tx]
      exact bounds.1
  · exact (afterDecode_completes s).trans (h room)

/-- One reply finds room (R205). -/
theorem State.Replies.completes {seat : Seat} {s t : State} (h : s.Replies seat t) (room : s.link.tx.length < txCapacity) :
    s.Completes t := by
  obtain ⟨m, -, tx⟩ := h.replied
  refine ⟨h.pending, fun bounds => ⟨?_, ?_⟩, h.moves⟩
  · rw [tx, List.length_append]
    exact room
  · rw [h.decodeQueue]
    exact bounds.2

/-- What a byte leaves of LINK's queues: a record completed at most (R199, R200). -/
theorem takeByte_queues (b : Byte) (l : Link) :
    (l.takeByte b).tx = l.tx ∧
      (l.decodeQueue.length ≤ decodeCapacity → (l.takeByte b).decodeQueue.length ≤ decodeCapacity) := by
  have rescanned : ∀ (held : List Byte) (k : Link), (k.rescan held).tx = k.tx ∧ (k.rescan held).decodeQueue = k.decodeQueue := by
    intro held k
    unfold Link.rescan
    split <;> exact ⟨rfl, rfl⟩
  have header : ∀ b1 b2 b3, (l.checkHeader b1 b2 b3 b).tx = l.tx ∧
      (l.decodeQueue.length ≤ decodeCapacity → (l.checkHeader b1 b2 b3 b).decodeQueue.length ≤ decodeCapacity) := by
    intro b1 b2 b3
    unfold Link.checkHeader
    dsimp only
    split
    · obtain ⟨tx, queue⟩ := rescanned [b1, b2, b3, b] (l.count fun c => { c with headerCheck := satSucc cap16 c.headerCheck })
      exact ⟨tx, by rw [queue]; exact id⟩
    · split
      · exact completeRecord_bounds _ l.hunt
      · split
        · obtain ⟨tx, queue⟩ := rescanned [b1, b2, b3, b] (l.count fun c => { c with length := satSucc cap16 c.length })
          exact ⟨tx, by rw [queue]; exact id⟩
        · exact ⟨rfl, id⟩
  unfold Link.takeByte
  split
  · split <;> exact ⟨rfl, id⟩
  · split
    · exact header _ _ _
    · exact ⟨rfl, id⟩
  · split
    · exact ⟨rfl, id⟩
    · unfold Link.checkPayload
      split
      · exact completeRecord_bounds _ l.hunt
      · exact ⟨rfl, id⟩

/-- A part reset empties the queues; the waiting commands stand (R210, R213). -/
theorem partReset_completes (strap : Strap) (answers : Bool) (s : State) : s.Completes (partReset strap answers s) := by
  have examined : ∀ u : State, u.Notifies (examineLine u) := by
    intro u
    unfold examineLine
    split
    · exact report_notifies _ _ _ u
    · exact .refl u
  refine State.Completes.trans ?_ (examined _).completes
  exact ⟨rfl, fun _ => ⟨Nat.zero_le _, Nat.zero_le _⟩, fun _ => Nat.zero_le _⟩

/-- An event, which is the decode of no record, completes. -/
theorem exec_event_completes {c : Instr} (hc : recordOf c = none) (s : State) :
    ∃ u, exec c s = done u ∧ s.Completes u := by
  cases c with
  | partReset strap answers => exact ⟨_, rfl, partReset_completes strap answers s⟩
  | receiveByte b stopBit =>
    refine ⟨_, rfl, ?_⟩
    split
    · exact (State.Notifies.refl s).completes
    · cases stopBit with
      | false => exact .of_link id
      | true =>
        obtain ⟨tx, queue⟩ := takeByte_queues b s.link
        refine .of_link fun bounds => ⟨?_, queue bounds.2⟩
        exact (congrArg List.length tx).le.trans bounds.1
  | transmitComplete =>
    refine ⟨_, rfl, ?_⟩
    split
    · exact (State.Notifies.refl s).completes
    · refine .of_link fun ⟨tx, queue⟩ => ⟨?_, queue⟩
      exact (List.length_tail ▸ Nat.sub_le _ _ : s.link.tx.tail.length ≤ s.link.tx.length).trans tx
  | estopAssertion =>
    refine ⟨_, rfl, State.Notifies.completes ?_⟩
    split
    · exact .refl s
    · exact .reported (.quiet (by rfl)) _ _ _
  | estopDeassertion => exact ⟨_, rfl, State.Notifies.completes (.quiet rfl)⟩
  | gapTimeout =>
    have lost : ∀ u : State, u.Notifies (u.onLink Link.gapFault) := fun _ => .of_queues rfl rfl rfl rfl rfl
    exact ⟨_, rfl, (atExpiry_notifies lost _ s).completes⟩
  | servoEvent =>
    refine ⟨_, rfl, State.Notifies.completes ?_⟩
    split
    · exact .refl s
    · exact (advanceTo_notifies _ s).trans (raiseServo_notifies completePull_notifies _ _)
  | referenceEdge t => exact ⟨_, rfl, ((advanceTo_notifies t s).trans (referenceEdge_notifies _)).completes⟩
  | acquireSilenceTimeout =>
    refine ⟨_, rfl, State.Notifies.completes ?_⟩
    split
    · exact atInstant_notifies (fun _ => .quiet (by rfl)) _ s
    · exact .refl s
  | pullSilenceTimeout =>
    refine ⟨_, rfl, State.Notifies.completes ?_⟩
    split
    · exact atInstant_notifies loseReference_notifies _ s
    · exact .refl s
  | windowClose =>
    refine ⟨_, rfl, State.Notifies.completes ?_⟩
    split
    · refine atInstant_notifies (fun u => State.Notifies.trans ?_ (raiseServo_notifies closeMiss_notifies 0 _)) _ s
      exact .quiet rfl
    · exact .refl s
  | driveAnswer w bytes => exact ⟨_, rfl, (driveAnswer_notifies w bytes s).completes⟩
  | releaseTimeout w => exact ⟨_, rfl, (stateExpiry_notifies (releaseTimeout_notifies w) w _ s).completes⟩
  | brakeTimeout w => exact ⟨_, rfl, (stateExpiry_notifies (loseChannel_notifies w _) w _ s).completes⟩
  | setTimeout w => exact ⟨_, rfl, (stateExpiry_notifies (settingTimeout_notifies w) w _ s).completes⟩
  | stickTimerExpiry =>
    refine ⟨_, rfl, State.Notifies.completes ?_⟩
    split
    · refine atExpiry_notifies (fun u => State.Notifies.reported (t := stickRest u) ?_ _ _ _) _ s
      exact .quiet rfl
    · exact .refl s
  | saveWriteStart =>
    refine ⟨_, rfl, State.Notifies.completes ?_⟩
    split
    · split <;> exact .quiet rfl
    · exact .refl s
  | saveWriteEnd readsBack =>
    refine ⟨_, rfl, State.Notifies.completes ?_⟩
    split
    · refine State.Notifies.trans ?_ (beginPoseWrite_notifies _)
      split <;> exact .notice (.quiet (by rfl)) _ _
    · exact .refl s
  | poseWriteStart => exact ⟨_, rfl, (beginPoseWrite_notifies s).completes⟩
  | poseWriteEnd =>
    refine ⟨_, rfl, State.Notifies.completes ?_⟩
    split <;> exact .quiet rfl
  | _ => cases hc

/-- Every command ends in the copies of its notices, with the waiting commands and the bounds of the queues kept. -/
theorem exec_completes (c : Instr) (s : State) : ∃ u, exec c s = done u ∧ s.Completes u := by
  cases hr : recordOf c with
  | none => exact exec_event_completes hr s
  | some r =>
    cases hc : repliedCommand c with
    | true =>
      obtain ⟨owner, decodes, replies⟩ := exec_replies hr hc
      refine ⟨_, decodes s, decodeRecord_completes fun room => State.Replies.completes (seat := r.seat) ?_ room⟩
      split
      · exact .refuse _ _ _ _
      · exact replies _
    | false =>
      rcases exec_unreplied hr hc with idle | ⟨act, decodes, notifies⟩
      · exact ⟨s, idle s, (State.Notifies.refl s).completes⟩
      · exact ⟨_, decodes s, decodeRecord_completes fun _ => (notifies _).completes⟩

/-- Settles O2: every command ends in the copies of its notices. -/
theorem everyCommandCompletesCleanly : Obligations.EveryCommandCompletesCleanly := by
  intro c s
  obtain ⟨u, ends, completes⟩ := exec_completes c s
  exact ⟨deliver u, ends, completes.pending, rfl⟩

/-- Settles O54: a reply is queued only with room for it, a copy below 48 records, a record below 8 and a move below 32. -/
theorem queueBoundsKept : Obligations.QueueBoundsKept := by
  intro s t bounds law hstep
  unfold step at hstep
  split at hstep
  · cases hstep
    exact ⟨bounds, law⟩
  · next c rest _ =>
    obtain ⟨u, ends, completes⟩ := exec_completes c { s with pending := rest }
    rw [ends] at hstep
    cases hstep
    have whole := completes.trans (deliver_completes u)
    exact ⟨whole.link bounds, whole.moves law⟩

end Sys2Proof.Machine
end

section
/-! The records that read the part, an ignored record, and LINK's three checks against R203's table (11 R202, R203, R208; 01 R16,
02 R23, 07 R129, 08 R151). -/

namespace Sys2Proof.Machine

open Sys2Proof

/-! ## Reading -/

/-- A move abandoned by a ZONE_STOP is reported as none; any other in hand by its id and phase (R69). -/
theorem reportedMove_none {s : State} (h : s.pln.inHand = none) : reportedMove s = (0, none) := by rw [reportedMove, h]

theorem reportedMove_some {s : State} {m : MoveInHand} (h : s.pln.inHand = some m) :
    reportedMove s = if m.phase = .abandoned then (0, none) else (m.move.id, some m.phase) := by rw [reportedMove, h]

/-- The position READ_POSE reports, by flight state (R151). -/
theorem posePosition_spec (s : State) :
    match s.fcu.flight with
    | .parked => posePosition s = s.fcu.pose.pos
    | .parking => posePosition s = s.pln.holdPos
    | .tripped => posePosition s = s.flt.trip.pos
    | _ => posePosition s = s.fru.snapshot.pos := by
  unfold posePosition commandedPosition
  cases s.fcu.flight <;> rfl

theorem zoneRead_missing {d0 : Byte} (h : 24 ≤ d0.toNat) (seat : Seat) (s : State) :
    zoneRead seat d0 s = refuse seat .noSuchZone 0 s := if_pos h

theorem zoneRead_slot {d0 : Byte} (h : d0.toNat < 24) (seat : Seat) (s : State) :
    zoneRead seat d0 s = reply seat (.zoneInfo d0.toNat s.env.zones[d0.toNat]) s := by
  rw [zoneRead, if_neg (not_zoneSlots_le h), zoneAt_of_lt h]

theorem markerRead_missing {d0 : Byte} (h : 4 ≤ d0.toNat) (seat : Seat) (s : State) :
    markerRead seat d0 s = refuse seat .noSuchMarker 0 s := by
  rw [markerRead, slotOf_of_ge h]

theorem markerRead_slot {d0 : Byte} (h : d0.toNat < 4) (seat : Seat) (s : State) :
    markerRead seat d0 s = reply seat (.markerInfo d0.toNat (s.mrk.markers.get ⟨d0.toNat, h⟩) s.mrk.holdPending) s := by
  rw [markerRead, slotOf_of_lt h]

/-- A record of a part-to-console or an unassigned type is counted at its decode and gets no reply (R202). -/
theorem exec_ignoredRecord {s : State} {seat : Seat} {type : BitVec 6} {body : List Byte}
    (ignored : isIgnoredType type = true) (hd : s.decodesNow ⟨seat, type, body⟩) :
    exec (.ignoredRecord seat type body) s =
      .next (s.afterDecode.onLink (Link.count fun c => { c with ignored := satSucc cap16 c.ignored })) := by
  have decoded := decodeRecord_now hd fun s => s.onLink (Link.count fun c => { c with ignored := satSucc cap16 c.ignored })
  have handed : s.link.handed = [] := hd.2.2.2
  have counted := done_of_none
    (s := s.afterDecode.onLink (Link.count fun c => { c with ignored := satSucc cap16 c.ignored })) handed
  rw [← counted, ← decoded]
  exact congrArg done (if_pos ignored)

theorem isIgnoredType_iff (type : BitVec 6) : isIgnoredType type = true ↔ type.toNat < 0x08 ∨ 0x2E < type.toNat := by
  simp only [isIgnoredType, Bool.or_eq_true, decide_eq_true_eq]
  omega

/-- Settles O15: each reading record is taken by its owner and replied to; an ignored record is counted. -/
theorem readsAnswerAndChangeNothing : Obligations.ReadsAnswerAndChangeNothing := by
  refine ⟨?state, ?settings, ?pose, ?zone, ?marker, ?ignored⟩
  case state =>
    intro s seat d0 d1 ht move
    have moved : reportedMove s = move := by
      cases inHand : s.pln.inHand with
      | none => simp only [move, inHand, reportedMove_none inHand]
      | some m => simp only [move, inHand, reportedMove_some inHand]
    rw [← moved]
    exact done_decode_taken ht rfl rfl
  case settings =>
    intro s seat d0 d1 ht
    exact done_decode_taken ht rfl rfl
  case pose =>
    intro s seat d0 d1 ht
    refine ⟨posePosition s, done_decode_taken ht rfl rfl, ?_⟩
    cases flight : s.fcu.flight <;> simpa only [flight] using posePosition_spec s
  case zone =>
    intro s seat d0 d1 ht
    exact ⟨fun missing => done_decode_refused ht (zoneRead_missing missing seat _),
      fun slot => done_decode_taken ht (zoneRead_slot slot seat _) rfl⟩
  case marker =>
    intro s seat d0 d1 ht
    exact ⟨fun missing => done_decode_refused ht (markerRead_missing missing seat _),
      fun slot => done_decode_taken ht (markerRead_slot slot seat _) rfl⟩
  case ignored =>
    intro s seat type body ignored hd
    exact exec_ignoredRecord ((isIgnoredType_iff type).mpr ignored) hd

/-! ## LINK's checks -/

/-- R203's table: a type's seats and, for a long record, its payload lengths. -/
def permissionRows : List (BitVec 6 × List Seat × List Nat) :=
  let all : List Seat := [.pilot, .safety, .director, .service]
  let edits : List Seat := [.pilot, .safety, .director]
  [(0x08, all, []), (0x09, [.pilot], []), (0x0A, [.pilot, .safety], []), (0x0B, edits, []), (0x0C, [.pilot], []),
    (0x0D, [.pilot], []), (0x0E, [.pilot], []), (0x0F, [.pilot], []), (0x10, [.pilot, .safety], []),
    (0x11, [.safety], []), (0x12, [.safety], []), (0x13, [.safety], []), (0x14, edits, []), (0x15, [.director], []),
    (0x16, all, []), (0x17, all, []), (0x18, all, []), (0x19, all, []), (0x1A, [.pilot, .director], []),
    (0x1B, [.service], []), (0x1C, [.service], []), (0x1D, [.service], []), (0x1E, [.service], []), (0x1F, all, [])] ++
  [(0x21, [.pilot, .director], [17, 19, 21]), (0x22, [.director], [6]), (0x24, edits, [33]), (0x25, edits, [4]),
    (0x26, edits, [3]), (0x27, [.pilot, .director], [17]), (0x28, [.service], [37]), (0x29, [.service], [24]),
    (0x2A, [.service], [27]), (0x2B, [.service], [11]), (0x2C, [.service], [3]), (0x2D, [.service], [12]),
    (0x2E, [.service], [12])]

/-- The rows of a type are one, which lists its seats and lengths, or none. -/
theorem permissionRows_of_type : ∀ type : BitVec 6,
    permissionRows.filter (fun row => row.1 = type) = [(type, allowedSeats type, allowedLengths type)] ∨
      (permissionRows.filter (fun row => row.1 = type) = [] ∧ allowedSeats type = [] ∧ allowedLengths type = []) := by
  decide

theorem mem_permissionRows {type : BitVec 6} {seats : List Seat} {lengths : List Nat} :
    (type, seats, lengths) ∈ permissionRows ↔ 
      (type, seats, lengths) ∈ permissionRows.filter (fun row => row.1 = type) := by
  simp

/-- The table and the model's two functions list the same seats. -/
theorem listed_iff (type : BitVec 6) (seat : Seat) :
    (∃ seats lengths, (type, seats, lengths) ∈ permissionRows ∧ seat ∈ seats) ↔ seat ∈ allowedSeats type := by
  simp only [mem_permissionRows]
  rcases permissionRows_of_type type with row | ⟨none, seats, -⟩
  · simp [row]
  · simp [none, seats]

/-- The table and the model's two functions list the same payload lengths. -/
theorem fits_iff (type : BitVec 6) (n : Nat) :
    (∃ seats lengths, (type, seats, lengths) ∈ permissionRows ∧ n ∈ lengths) ↔ n ∈ allowedLengths type := by
  simp only [mem_permissionRows]
  rcases permissionRows_of_type type with row | ⟨none, -, lengths⟩
  · simp [row]
  · simp [none, lengths]

section
variable {seat : Seat} {type : BitVec 6} {body : List Byte} {permit : Bool}

theorem linkCheck_closed (closed : seat = .service ∧ permit = false) :
    linkCheck seat type body permit = some .seatClosed := if_pos closed

theorem linkCheck_unlisted (opened : ¬ (seat = .service ∧ permit = false)) (unlisted : seat ∉ allowedSeats type) :
    linkCheck seat type body permit = some .notPermitted := by
  rw [linkCheck, if_neg opened, if_pos unlisted]

theorem linkCheck_misfit (opened : ¬ (seat = .service ∧ permit = false)) (listed : seat ∈ allowedSeats type)
    (misfit : 0x20 ≤ type.toNat ∧ body.length ∉ allowedLengths type) :
    linkCheck seat type body permit = some .badLength := by
  rw [linkCheck, if_neg opened, if_neg (not_not.mpr listed), if_pos misfit]

theorem linkCheck_passes_iff :
    linkCheck seat type body permit = none ↔
      ¬ (seat = .service ∧ permit = false) ∧ seat ∈ allowedSeats type ∧
        (type.toNat < 0x20 ∨ body.length ∈ allowedLengths type) := by
  have fits : ¬ (0x20 ≤ type.toNat ∧ body.length ∉ allowedLengths type) ↔
      (type.toNat < 0x20 ∨ body.length ∈ allowedLengths type) := by
    rw [not_and_or, not_not, not_le]
  rw [← fits, linkCheck]
  split
  next closed => simp [closed]
  next opened =>
    split
    next unlisted => simp [unlisted]
    next listed =>
      rw [not_not] at listed
      split
      next misfit => simp [misfit]
      next fit => simp [opened, listed, fit]

end

/-- Settles O8: each check that fails gives its code, and a record is taken when none fails. -/
theorem linkRefusesInOrder : Obligations.LinkRefusesInOrder := by
  intro c r s hc hr hd closed listed fits
  have seats : listed ↔ r.seat ∈ allowedSeats r.type := listed_iff r.type r.seat
  have lengths : fits ↔ (r.type.toNat < 0x20 ∨ r.body.length ∈ allowedLengths r.type) :=
    or_congr_right (fits_iff r.type r.body.length)
  refine ⟨fun shut => exec_refused hr hc hd (linkCheck_closed shut), fun opened unlisted => ?_, fun opened known misfit => ?_, ?_⟩
  · exact exec_refused hr hc hd (linkCheck_unlisted opened (mt seats.mpr unlisted))
  · refine exec_refused hr hc hd (linkCheck_misfit opened (seats.mp known) ?_)
    rwa [lengths, not_or, not_lt] at misfit
  · rw [seats, lengths, ← linkCheck_passes_iff]
    exact and_iff_right hd

end Sys2Proof.Machine
end

section
/-! The part reset and the settings store (11 R209 to R213; 03 R47, R48; 10 R190). -/

namespace Sys2Proof.Machine

open Sys2Proof

/-! ## The images -/

theorem remnantImage_left {α : Type} (r : Remnant) (old : Option α) (copy : α) :
    imageLeft old (some copy) (remnantImage r old copy) := by
  cases r with
  | old => exact Or.inl rfl
  | damaged => exact Or.inr ⟨copy, rfl, Or.inl rfl⟩
  | complete => exact Or.inr ⟨copy, rfl, Or.inr rfl⟩

theorem settingsImageAtReset_left (s : State) :
    imageLeft s.sto.settingsImage s.sto.save.written (settingsImageAtReset s) := by
  unfold settingsImageAtReset
  cases s.sto.save with
  | writing copy => exact remnantImage_left _ _ _
  | idle | waiting _ => exact Or.inl rfl

theorem poseImageAtReset_left (s : State) : imageLeft s.sto.poseImage s.sto.poseWriting (poseImageAtReset s) := by
  unfold poseImageAtReset
  cases s.sto.poseWriting with
  | some pose => exact remnantImage_left _ _ _
  | none => exact Or.inl rfl

/-! ## Part reset -/

/-- The part once the images are read and the checks of the load have run, before the emergency-stop line is examined. -/
def State.loaded (strap : Strap) (answers : Bool) (s : State) : State :=
  let settings := readImage answers (settingsImageAtReset s)
  let pose := (readImage answers (poseImageAtReset s)).getD RetainedPose.default
  let load := loadedState strap (settings.getD Settings.default) pose
  recomputeInside pose.pos (runAcceptance { load with
    sto := ⟨settingsImageAtReset s, poseImageAtReset s, .idle, none, false, settings.isNone⟩,
    flt := { load.flt with line := s.flt.line }, freeCount := s.freeCount + 1, pending := s.pending })

theorem exec_partReset (strap : Strap) (answers : Bool) (s : State) :
    exec (.partReset strap answers) s = done (examineLine (s.loaded strap answers)) := rfl

theorem exec_partReset_deasserted {s : State} (h : s.flt.line = false) (strap : Strap) (answers : Bool) :
    exec (.partReset strap answers) s = .next (s.loaded strap answers) := by
  have quiet : examineLine (s.loaded strap answers) = s.loaded strap answers := if_neg (ne_true_of_eq_false h)
  rw [exec_partReset, quiet, done_of_none rfl]

theorem exec_partReset_asserted {s : State} (h : s.flt.line = true) (strap : Strap) (answers : Bool) :
    exec (.partReset strap answers) s = done (report .estop 0 none (s.loaded strap answers)) :=
  congrArg done (if_pos h)

/-- A marker the load takes from the settings, with its inside flag computed at the retained pose (R132). -/
theorem loaded_markers (markers : Quad (Option MarkerSpec)) (p : Vec3) :
    ((markers.map fun o => o.map fun k => (⟨k, false⟩ : Marker)).map
        fun o => o.map fun k => { k with inside := insideMarker k.spec p }) =
      markers.map (Option.map fun m => ⟨m, insideMarker m p⟩) := by
  simp only [Quad.map, Option.map_map]
  rfl

/-- Settles O5: the load's fields, and with the line asserted the load followed by the trip of one assertion. -/
theorem partResetLoadsAndTrips : Obligations.PartResetLoadsAndTrips := by
  refine ⟨?loads, ?trips⟩
  case loads =>
    intro s strap answers deasserted
    refine ⟨settingsImageAtReset s, poseImageAtReset s, s.loaded strap answers, settingsImageAtReset_left s,
      poseImageAtReset_left s, exec_partReset_deasserted deasserted strap answers, ?_⟩
    have markers := loaded_markers
      ((readImage answers (settingsImageAtReset s)).getD Settings.default).markers
      ((readImage answers (poseImageAtReset s)).getD RetainedPose.default).pos
    cases answers <;>
      exact ⟨rfl, rfl, rfl, rfl, rfl, congrArg (Mrk.mk · false) markers, rfl, rfl,
        congrArg (fun line => { State.reset.flt with line := line }) deasserted, rfl, rfl⟩
  case trips =>
    intro s strap answers asserted
    let lowered : State := { s with flt := { s.flt with line := false } }
    have raised : ({ lowered.loaded strap answers with flt := { (lowered.loaded strap answers).flt with line := true } }
        : State) = s.loaded strap answers :=
      congrArg (fun line => { s.loaded strap answers with flt := { (s.loaded strap answers).flt with line := line } })
        asserted.symm
    have assertion := exec_estopAssertion_of_deasserted (s := lowered.loaded strap answers) rfl
    rw [raised] at assertion
    have tripped : report .estop 0 none (s.loaded strap answers) = tripEffect .estop 0 none (s.loaded strap answers) :=
      report_trip rfl 0 none (fun h => nomatch h)
    rw [tripped] at assertion
    refine ⟨_, _, exec_partReset_deasserted rfl strap answers, assertion, ?_, rfl, ?_, ?_⟩
    · rw [exec_partReset_asserted asserted, tripped]
      rfl
    · exact (State.flag_setFlag (s.loaded strap answers) .estop .estop ⟨true, 1, 0⟩).trans (if_pos rfl)
    · exact asserted

/-! ## The store -/

/-- A save taken copies now; a pose write whose turn has come begins first and makes the save wait (R211, R48). -/
theorem startSave_eq {s : State} (idle : s.sto.save = .idle) :
    startSave s =
      { s with
        sto :=
          if s.sto.poseWriting = none ∧ s.sto.poseWaiting = true then
            { s.sto with poseWriting := some s.fcu.pose, poseWaiting := false, save := .waiting (workingCopy s) }
          else
            { s.sto with
              save := if s.sto.poseWriting = none then .writing (workingCopy s) else .waiting (workingCopy s) } } := by
  by_cases turn : s.sto.poseWriting = none ∧ s.sto.poseWaiting = true
  · rw [startSave, beginPoseWrite_eq, if_pos ⟨turn.2, idle, turn.1⟩, if_pos turn]
    rfl
  · rw [startSave, beginPoseWrite_eq, if_neg (fun begins => turn ⟨begins.2.2, begins.1⟩), if_neg turn]
    cases writing : s.sto.poseWriting <;> simp [State.onSto, writing]

/-- The store once a save has ended: a pose write that waited for it begins (R212). -/
theorem beginPoseWrite_idle {s : State} (idle : s.sto.save = .idle) :
    beginPoseWrite s =
      { s with
        sto :=
          if s.sto.poseWaiting = true ∧ s.sto.poseWriting = none then
            { s.sto with poseWriting := some s.fcu.pose, poseWaiting := false }
          else s.sto } := by
  by_cases turn : s.sto.poseWaiting = true ∧ s.sto.poseWriting = none
  · rw [beginPoseWrite_eq, if_pos ⟨turn.1, idle, turn.2⟩, if_pos turn]
  · rw [beginPoseWrite_eq, if_neg (fun begins => turn ⟨begins.1, begins.2.2⟩), if_neg turn]

/-- The first check of an owner's list answers when it fails. -/
theorem firstError_fails {check : Bool × ErrorCode × Nat} (fails : check.1 = true) (rest : List (Bool × ErrorCode × Nat)) :
    firstError (check :: rest) = some check.2 := by
  obtain ⟨_, code, detail⟩ := check
  rw [firstError_cons, if_pos fails]

/-- The next checks answer when the first passes. -/
theorem firstError_passes {check : Bool × ErrorCode × Nat} (passes : check.1 = false)
    (rest : List (Bool × ErrorCode × Nat)) : firstError (check :: rest) = firstError rest := by
  obtain ⟨_, code, detail⟩ := check
  rw [firstError_cons, if_neg (ne_true_of_eq_false passes)]

section
variable {s : State} {copy : Settings}

theorem exec_saveWriteStart_begins (waits : s.sto.save = .waiting copy) (free : s.sto.poseWriting = none)
    (told : s.link.handed = []) :
    exec .saveWriteStart s = .next { s with sto := { s.sto with save := .writing copy } } := by
  have begun : exec .saveWriteStart s = done { s with sto := { s.sto with save := .writing copy } } := by
    unfold exec execSaveWriteStart
    rw [waits, free]
    rfl
  exact begun.trans (done_of_none told)

theorem exec_saveWriteStart_none (busy : ∀ copy, s.sto.save = .waiting copy → s.sto.poseWriting ≠ none)
    (told : s.link.handed = []) : exec .saveWriteStart s = .next s := by
  rw [← done_of_none told]
  unfold exec execSaveWriteStart
  cases save : s.sto.save with
  | idle | writing _ => rfl
  | waiting copy =>
    obtain ⟨pose, writing⟩ := Option.ne_none_iff_exists'.mp (busy copy save)
    simp only [writing, Option.isSome_some, if_true]

theorem exec_saveWriteEnd_writing (writes : s.sto.save = .writing copy) (readsBack : Bool) :
    exec (.saveWriteEnd readsBack) s =
      done (beginPoseWrite (if readsBack then saveSucceeded copy s else saveFailed copy s)) := by
  unfold exec execSaveWriteEnd
  rw [writes]

theorem exec_saveWriteEnd_none (still : ∀ copy, s.sto.save ≠ .writing copy) (told : s.link.handed = []) (readsBack : Bool) :
    exec (.saveWriteEnd readsBack) s = .next s := by
  rw [← done_of_none told]
  unfold exec execSaveWriteEnd
  cases save : s.sto.save with
  | idle | waiting _ => rfl
  | writing copy => exact absurd save (still copy)

theorem exec_poseWriteEnd_writing {pose : RetainedPose} (writes : s.sto.poseWriting = some pose) (told : s.link.handed = []) :
    exec .poseWriteEnd s = .next { s with sto := { s.sto with poseImage := some pose, poseWriting := none } } := by
  have ended : exec .poseWriteEnd s = done { s with sto := { s.sto with poseImage := some pose, poseWriting := none } } := by
    unfold exec execPoseWriteEnd
    rw [writes]
    rfl
  exact ended.trans (done_of_none told)

theorem exec_poseWriteEnd_none (still : s.sto.poseWriting = none) (told : s.link.handed = []) :
    exec .poseWriteEnd s = .next s := by
  rw [← done_of_none told]
  unfold exec execPoseWriteEnd
  rw [still]

end

/-- Settles O53: the two writes wait for each other, and each store command by the state its write is in. -/
theorem storeWrites : Obligations.StoreWrites := by
  refine ⟨?requests, ?saves, ?resets, ?writes⟩
  case requests =>
    intro s waits
    rw [requestPoseWrite_eq]
    exact ⟨fun waiting => by rw [if_pos waiting], fun free => by rw [if_neg free]⟩
  case saves =>
    intro s seat d0 d1 ht copy
    refine ⟨fun flying => ?flying, fun parked busy => ?busy, fun parked idle settled => ?taken⟩
    case flying => exact done_decode_refused ht (answer_refused (firstError_fails (decide_eq_true flying) _) _ _ _ _)
    case busy =>
      have refuses := firstError_fails (check := (_, .busy, 0)) ((busy_iff s.afterDecode).mpr busy) []
      exact done_decode_refused ht
        (answer_refused ((firstError_passes (decide_eq_false (not_not.mpr parked)) _).trans refuses) _ _ _ _)
    case taken =>
      have free : Machine.busy s.afterDecode = false := eq_false_of_ne_true
        fun busy => ((busy_iff _).mp busy).elim (absurd idle) (absurd settled)
      have passes := (firstError_passes (check := (_, .wrongState, 0)) (decide_eq_false (not_not.mpr parked)) _).trans
        (firstError_passes (check := (_, .busy, 0)) free [])
      exact done_decode_taken ht ((answer_taken passes _ _ _ _).trans (startSave_eq idle)) rfl
  case resets =>
    intro s seat d0 d1 ht a
    refine ⟨fun flying => ?flying, fun parked => ?taken⟩
    case flying => exact done_decode_refused ht (answer_refused (firstError_fails (decide_eq_true flying) _) _ _ _ _)
    case taken =>
      have length : (s.acked seat 0x1E 0).link.tx.length = s.link.tx.length + 1 := List.length_append
      rw [← length]
      have passes := firstError_passes (check := (_, .wrongState, 0)) (decide_eq_false (not_not.mpr parked)) []
      exact done_decode_taken ht (answer_taken passes _ _ _ _) rfl
  case writes =>
    intro s told ended
    refine ⟨fun copy waits free => exec_saveWriteStart_begins waits free told, fun busy => exec_saveWriteStart_none busy told,
      fun copy writes => ⟨?good, _, remnantImage_left (Config.remnant s.freeCount) _ copy, ?bad⟩,
      fun still => exec_saveWriteEnd_none still told, ?begins, fun pose writes => exec_poseWriteEnd_writing writes told,
      fun still => exec_poseWriteEnd_none still told⟩
    case good =>
      rw [exec_saveWriteEnd_writing writes, if_pos rfl, beginPoseWrite_idle rfl]
      rfl
    case bad =>
      rw [exec_saveWriteEnd_writing writes, if_neg Bool.false_ne_true, beginPoseWrite_idle rfl]
      rfl
    case begins =>
      refine ⟨fun begins => ?_, fun stays => ?_⟩
      · have begun := (beginPoseWrite_eq s).trans (if_pos begins)
        exact (congrArg done begun).trans (done_of_none told)
      · have stood := (beginPoseWrite_eq s).trans (if_neg stays)
        exact (congrArg done stood).trans (done_of_none told)

end Sys2Proof.Machine
end

section
/-! The receive side of the console link (11 R198 to R202, R205, R213): little-endian fields, the assembler by its state, a record
received from its wire form, and what waits and leaves. -/

namespace Sys2Proof.Machine

open Sys2Proof

/-! ## Little-endian fields -/

@[simp] theorem natField_length (len v : Nat) : (natField len v).length = len := by
  induction len generalizing v with
  | zero => rfl
  | succ len ih => exact congrArg (· + 1) (ih (v / 256))

/-- A field read back is the number it was given, but for what the field cannot hold. -/
@[simp] theorem natOf_natField (len v : Nat) : natOf (natField len v) = v % 256 ^ len := by
  induction len generalizing v with
  | zero => rw [natField, natOf, pow_zero, Nat.mod_one]
  | succ len ih =>
    rw [natField, natOf, ih, pow_succ', Nat.mod_mul, BitVec.toNat_ofNat]

/-- The bytes of a field are determined by the number it reads as. -/
theorem natField_natOf (bytes : List Byte) : natField bytes.length (natOf bytes) = bytes := by
  induction bytes with
  | nil => rfl
  | cons b rest ih =>
    have small : b.toNat < 256 := b.isLt
    have low : BitVec.ofNat 8 (b.toNat + 256 * natOf rest) = b := by
      apply BitVec.eq_of_toNat_eq
      rw [BitVec.toNat_ofNat]
      omega
    have high : (b.toNat + 256 * natOf rest) / 256 = natOf rest := by omega
    rw [natOf, List.length_cons, natField, low, high, ih]

theorem natOf_lt (bytes : List Byte) : natOf bytes < 256 ^ bytes.length := by
  rw [← natField_natOf bytes, natOf_natField, natField_length]
  exact Nat.mod_lt _ (Nat.pow_pos (by decide))

/-- Two bytes read as a 16-bit number exactly when they are its bytes, low byte first. -/
theorem natOf_eq_toNat_iff {bytes : List Byte} (two : bytes.length = 2) (c : BitVec 16) :
    natOf bytes = c.toNat ↔ bytes = natField 2 c.toNat := by
  refine ⟨fun read => ?_, fun sent => ?_⟩
  · rw [← read, ← two, natField_natOf]
  · rw [sent, natOf_natField]
    exact Nat.mod_eq_of_lt c.isLt

/-! ## Byte 1 -/

theorem typeOfByte_toNat (b : Byte) : (typeOfByte b).toNat = b.toNat % 64 := BitVec.toNat_ofNat _ _

theorem seatOfByte_index (b : Byte) : (seatIndex (seatOfByte b)).val = b.toNat / 64 := by
  have small : b.toNat < 256 := b.isLt
  have quarter : b.toNat / 64 = 0 ∨ b.toNat / 64 = 1 ∨ b.toNat / 64 = 2 ∨ b.toNat / 64 = 3 := by omega
  unfold seatOfByte
  rcases quarter with h | h | h | h <;> rw [h] <;> rfl

/-- A seat and a type read back from the byte 1 that carries them. -/
theorem typeOfByte_seatTypeByte (seat : Seat) (type : BitVec 6) : typeOfByte (seatTypeByte seat type) = type := by
  apply BitVec.eq_of_toNat_eq
  have small : type.toNat < 64 := type.isLt
  rw [typeOfByte_toNat, seatTypeByte, BitVec.toNat_ofNat]
  omega

theorem seatOfByte_seatTypeByte (seat : Seat) (type : BitVec 6) : seatOfByte (seatTypeByte seat type) = seat := by
  have small : type.toNat < 64 := type.isLt
  have index : (seatIndex seat).val < 4 := (seatIndex seat).isLt
  have quarter : (seatTypeByte seat type).toNat / 64 = (seatIndex seat).val := by
    rw [seatTypeByte, BitVec.toNat_ofNat]
    omega
  unfold seatOfByte
  rw [quarter]
  cases seat <;> rfl

theorem isShortType_iff (type : BitVec 6) : isShortType type = true ↔ type.toNat < 0x20 := decide_eq_true_iff

/-! ## The assembler -/

section
variable (l : Link) (b : Byte)

/-- A completed record changes LINK's decode queue or its overrun counter (R201). -/
theorem completeRecord_eq (r : Record) :
    ∃ queue counters, completeRecord r l = { l with decodeQueue := queue, counters := counters } := by
  unfold completeRecord
  split
  · exact ⟨_, l.counters, rfl⟩
  · exact ⟨l.decodeQueue, _, rfl⟩

/-- A byte changes the assembler, its gap timer, the decode queue and the counters alone (R199, R200). -/
theorem takeByte_eq :
    ∃ assembler timer queue counters,
      l.takeByte b = { l with assembler := assembler, gapTimer := timer, decodeQueue := queue, counters := counters } := by
  have rescanned : ∀ (held : List Byte) (counters : LinkCounters), ∃ assembler timer,
      Link.rescan held { l with counters := counters } =
        { l with assembler := assembler, gapTimer := timer, counters := counters } := by
    intro held counters
    unfold Link.rescan
    split <;> exact ⟨_, _, rfl⟩
  have completed : ∀ r : Record, ∃ assembler timer queue counters,
      l.complete r = { l with assembler := assembler, gapTimer := timer, decodeQueue := queue, counters := counters } := by
    intro r
    obtain ⟨queue, counters, h⟩ := completeRecord_eq l.hunt r
    exact ⟨_, _, queue, counters, h⟩
  have header : ∀ b1 b2 b3, ∃ assembler timer queue counters,
      l.checkHeader b1 b2 b3 b =
        { l with assembler := assembler, gapTimer := timer, decodeQueue := queue, counters := counters } := by
    intro b1 b2 b3
    unfold Link.checkHeader
    dsimp only
    split
    · obtain ⟨a, t, h⟩ := rescanned [b1, b2, b3, b] { l.counters with headerCheck := satSucc cap16 l.counters.headerCheck }
      exact ⟨a, t, _, _, h⟩
    · split
      · exact completed _
      · split
        · obtain ⟨a, t, h⟩ := rescanned [b1, b2, b3, b] { l.counters with length := satSucc cap16 l.counters.length }
          exact ⟨a, t, _, _, h⟩
        · exact ⟨_, _, _, _, rfl⟩
  have payload : ∀ b1 n got, ∃ assembler timer queue counters,
      l.checkPayload b1 n got =
        { l with assembler := assembler, gapTimer := timer, decodeQueue := queue, counters := counters } := by
    intro b1 n got
    unfold Link.checkPayload
    split
    · exact completed _
    · exact ⟨_, _, _, _, rfl⟩
  unfold Link.takeByte
  split
  · split
    · exact ⟨_, _, _, _, rfl⟩
    · exact ⟨_, _, _, _, rfl⟩
  · split
    · exact header _ _ _
    · exact ⟨_, _, _, _, rfl⟩
  · split
    · exact ⟨_, _, _, _, rfl⟩
    · exact payload _ _ _

theorem takeByte_resetPhase : (l.takeByte b).resetPhase = l.resetPhase := by
  obtain ⟨_, _, _, _, h⟩ := takeByte_eq l b
  rw [h]

theorem takeByte_handed : (l.takeByte b).handed = l.handed := by
  obtain ⟨_, _, _, _, h⟩ := takeByte_eq l b
  rw [h]

end

theorem exec_receiveByte {s : State} (running : s.link.resetPhase = .running) (told : s.link.handed = []) (b : Byte) :
    exec (.receiveByte b true) s = .next { s with link := s.link.takeByte b } := by
  have taken : exec (.receiveByte b true) s = done (s.onLink (Link.takeByte b)) :=
    congrArg done (if_neg (not_not.mpr running))
  exact taken.trans (done_of_none ((takeByte_handed s.link b).trans told))

section
variable {l : Link} {b b1 b2 b3 check : Byte} {n : Nat} {held got : List Byte}

theorem takeByte_hunting_lead (h : l.assembler = .hunting) : l.takeByte 0xD5 = l.collect (.header []) := by
  rw [Link.takeByte, h]
  exact if_pos rfl

theorem takeByte_hunting_other (h : l.assembler = .hunting) (other : b ≠ 0xD5) : l.takeByte b = l := by
  rw [Link.takeByte, h]
  exact if_neg other

theorem takeByte_header_held (h : l.assembler = .header held) (few : held.length < 3) :
    l.takeByte b = l.collect (.header (held ++ [b])) := by
  rw [Link.takeByte, h]
  match held, few with
  | [], _ => rfl
  | [_], _ => rfl
  | [_, _], _ => rfl

theorem takeByte_header_last (h : l.assembler = .header [b1, b2, b3]) : l.takeByte b = l.checkHeader b1 b2 b3 b := by
  rw [Link.takeByte, h]

theorem takeByte_body_more (h : l.assembler = .body b1 n got) (more : got.length + 1 < n + 2) :
    l.takeByte b = l.collect (.body b1 n (got ++ [b])) := by
  rw [Link.takeByte, h]
  exact if_pos more

theorem takeByte_body_last (h : l.assembler = .body b1 n got) (last : got.length + 1 = n + 2) :
    l.takeByte b = l.checkPayload b1 n (got ++ [b]) := by
  rw [Link.takeByte, h]
  exact if_neg (Nat.not_lt.mpr last.ge)

/-- Bytes with no lead among them are dropped. -/
theorem rescan_of_not_mem (none : (0xD5 : Byte) ∉ held) : l.rescan held = l.hunt := by
  have dropped : held.dropWhile (fun b => b ≠ leadByte) = [] := by
    rw [List.dropWhile_eq_nil_iff]
    exact fun x mem => decide_eq_true fun lead => none ((show x = 0xD5 from lead) ▸ mem)
  rw [Link.rescan, dropped]

/-- The first lead begins a new record with the bytes after it. -/
theorem rescan_of_lead {before kept : List Byte} (none : (0xD5 : Byte) ∉ before) :
    l.rescan (before ++ 0xD5 :: kept) = l.collect (.header kept) := by
  have passed : ∀ x ∈ before, decide (x ≠ leadByte) = true :=
    fun x mem => decide_eq_true fun lead => none ((show x = 0xD5 from lead) ▸ mem)
  have dropped : (before ++ 0xD5 :: kept).dropWhile (fun b => decide (b ≠ leadByte)) = 0xD5 :: kept := by
    rw [List.dropWhile_append_of_pos passed]
    rfl
  rw [Link.rescan, dropped]

theorem checkHeader_bad (bad : headerCheck [b1, b2, b3] ≠ check) :
    l.checkHeader b1 b2 b3 check =
      (l.count fun c => { c with headerCheck := satSucc cap16 c.headerCheck }).rescan [b1, b2, b3, check] := if_pos bad

theorem checkHeader_short (good : headerCheck [b1, b2, b3] = check) (short : (typeOfByte b1).toNat < 0x20) :
    l.checkHeader b1 b2 b3 check = l.complete ⟨seatOfByte b1, typeOfByte b1, [b2, b3]⟩ :=
  (if_neg (not_not.mpr good)).trans (if_pos ((isShortType_iff _).mpr short))

theorem checkHeader_overlong (good : headerCheck [b1, b2, b3] = check) (long : 0x20 ≤ (typeOfByte b1).toNat)
    (tooLong : 512 < natOf [b2, b3]) :
    l.checkHeader b1 b2 b3 check =
      (l.count fun c => { c with length := satSucc cap16 c.length }).rescan [b1, b2, b3, check] :=
  (if_neg (not_not.mpr good)).trans
    ((if_neg fun short => Nat.not_le.mpr ((isShortType_iff _).mp short) long).trans (if_pos tooLong))

theorem checkHeader_long (good : headerCheck [b1, b2, b3] = check) (long : 0x20 ≤ (typeOfByte b1).toNat)
    (fits : natOf [b2, b3] ≤ 512) :
    l.checkHeader b1 b2 b3 check = l.collect (.body b1 (natOf [b2, b3]) []) :=
  (if_neg (not_not.mpr good)).trans
    ((if_neg fun short => Nat.not_le.mpr ((isShortType_iff _).mp short) long).trans (if_neg (Nat.not_lt.mpr fits)))

theorem checkPayload_good (two : (got.drop n).length = 2) (good : got.drop n = natField 2 (payloadCheck (got.take n)).toNat) :
    l.checkPayload b1 n got = l.complete ⟨seatOfByte b1, typeOfByte b1, got.take n⟩ :=
  if_pos ((natOf_eq_toNat_iff two _).mpr good)

theorem checkPayload_bad (two : (got.drop n).length = 2) (bad : got.drop n ≠ natField 2 (payloadCheck (got.take n)).toNat) :
    l.checkPayload b1 n got = (l.count fun c => { c with payloadCheck := satSucc cap16 c.payloadCheck }).hunt :=
  if_neg (mt (natOf_eq_toNat_iff two _).mp bad)

end

theorem natOf_pair (a b : Byte) : natOf [a, b] = a.toNat + 256 * b.toNat := rfl

/-- Settles O11: the byte 1 fields, and the assembler's next state by its present one. -/
theorem assemblerTakesBytes : Obligations.AssemblerTakesBytes := by
  refine ⟨fun b => ⟨typeOfByte_toNat b, seatOfByte_index b⟩, ?_⟩
  intro s b running told hunting collecting complete next
  have received : ∀ {l : Link}, s.link.takeByte b = l → next l := by
    intro l h
    rw [← h]
    exact exec_receiveByte running told b
  refine ⟨fun h => ⟨fun lead => ?lead, fun other => received (takeByte_hunting_other h other)⟩,
    fun held h few => received (takeByte_header_held h few), fun b1 b2 b3 h => ?header, fun b1 n got h => ?body⟩
  case lead =>
    subst lead
    exact received (takeByte_hunting_lead h)
  case header =>
    intro n rescan
    have last := takeByte_header_last (b := b) h
    have rescanned : ∀ {l : Link}, s.link.checkHeader b1 b2 b3 b = l.rescan [b1, b2, b3, b] → rescan l := by
      intro l hl
      refine ⟨fun none => received (last.trans (hl.trans (rescan_of_not_mem none))), fun before kept split none => ?_⟩
      rw [split] at hl
      exact received (last.trans (hl.trans (rescan_of_lead none)))
    exact ⟨fun bad => rescanned (checkHeader_bad bad), fun good short => received (last.trans (checkHeader_short good short)),
      fun good long tooLong => rescanned (checkHeader_overlong good long tooLong),
      fun good long fits => received (last.trans (checkHeader_long good long fits))⟩
  case body =>
    refine ⟨fun more => received (takeByte_body_more h more), fun whole => ?_⟩
    intro payload check
    have last := takeByte_body_last (b := b) h whole
    have two : ((got ++ [b]).drop n).length = 2 := by
      rw [List.length_drop, List.length_append, List.length_singleton]
      omega
    exact ⟨fun good => received (last.trans (checkPayload_good two good)),
      fun bad => received (last.trans (checkPayload_bad two bad))⟩

end Sys2Proof.Machine
end

section
/-! A record received from its wire form, and the records that wait, are abandoned and leave (11 R198 to R201, R205, R213). -/

namespace Sys2Proof.Machine

open Sys2Proof

/-! ## A record's bytes received -/

/-- LINK after a run of bytes. -/
def Link.takeBytes (bytes : List Byte) (l : Link) : Link := bytes.foldl (fun l b => l.takeByte b) l

theorem Link.takeBytes_cons (b : Byte) (rest : List Byte) (l : Link) :
    l.takeBytes (b :: rest) = (l.takeByte b).takeBytes rest := rfl

theorem Link.takeBytes_append (first second : List Byte) (l : Link) :
    l.takeBytes (first ++ second) = (l.takeBytes first).takeBytes second := List.foldl_append

/-- Bytes fed to the part while it takes bytes are bytes taken by LINK. -/
theorem feed_eq (bytes : List Byte) {s : State} (running : s.link.resetPhase = .running) (told : s.link.handed = []) :
    feed bytes s = .next { s with link := s.link.takeBytes bytes } := by
  induction bytes generalizing s with
  | nil => rfl
  | cons b rest ih =>
    have next := ih (s := { s with link := s.link.takeByte b }) ((takeByte_resetPhase s.link b).trans running)
      ((takeByte_handed s.link b).trans told)
    rw [feed, exec_receiveByte running told]
    exact next

section
variable {l : Link} {b1 : Byte}

/-- The lead and the four bytes of a header bring the assembler from HUNTING to the header's decision. -/
theorem takeBytes_header (h : l.assembler = .hunting) (b2 b3 check : Byte) :
    l.takeBytes [0xD5, b1, b2, b3, check] = (l.collect (.header [b1, b2, b3])).checkHeader b1 b2 b3 check := by
  rw [Link.takeBytes_cons, takeByte_hunting_lead h]
  rfl

/-- The bytes of a body are held until the last but one has come (R200). -/
theorem takeBytes_body {n : Nat} (bytes got : List Byte) (more : got.length + bytes.length < n + 2) :
    (l.collect (.body b1 n got)).takeBytes bytes = l.collect (.body b1 n (got ++ bytes)) := by
  induction bytes generalizing got with
  | nil => rw [List.append_nil]; rfl
  | cons b rest ih =>
    rw [List.length_cons] at more
    have held : (l.collect (.body b1 n got)).takeByte b = l.collect (.body b1 n (got ++ [b])) :=
      takeByte_body_more rfl (by omega)
    have longer : (got ++ [b]).length + rest.length < n + 2 := by
      rw [List.length_append, List.length_singleton]
      omega
    rw [Link.takeBytes_cons, held, ih _ longer, List.append_assoc]
    rfl

/-- A payload with its check completes the record (R200). -/
theorem takeBytes_payload (body : List Byte) :
    (l.collect (.body b1 body.length [])).takeBytes (body ++ natField 2 (payloadCheck body).toNat) =
      l.complete ⟨seatOfByte b1, typeOfByte b1, body⟩ := by
  obtain ⟨low, high, sent⟩ : ∃ low high, natField 2 (payloadCheck body).toNat = [low, high] := ⟨_, _, rfl⟩
  have whole : body ++ [low, high] = (body ++ [low]) ++ [high] := (List.append_assoc body [low] [high]).symm
  have last : ([] ++ (body ++ [low])).length + 1 = body.length + 2 := by simp
  have most : ([] : List Byte).length + (body ++ [low]).length < body.length + 2 := by simp
  have payload : (body ++ [low, high]).take body.length = body := List.take_left
  have check : (body ++ [low, high]).drop body.length = [low, high] := List.drop_left
  rw [sent, whole, Link.takeBytes_append, takeBytes_body _ _ most]
  have collecting : (l.collect (.body b1 body.length ([] ++ (body ++ [low])))).assembler = .body b1 body.length _ := rfl
  refine (takeByte_body_last collecting last).trans ?_
  rw [List.nil_append, ← whole]
  refine (checkPayload_good (by rw [check]; rfl) (by rw [check, payload, sent])).trans ?_
  rw [payload]
  rfl

end

/-! ## The wire form -/

theorem seatTypeByte_eq (seat : Seat) (type : BitVec 6) :
    BitVec.ofNat 8 (64 * (seatIndex seat).val + type.toNat) = seatTypeByte seat type := rfl

theorem wireBytes_short {type : BitVec 6} (short : type.toNat < 0x20) (seat : Seat) (body : List Byte) :
    wireBytes seat type body =
      0xD5 :: seatTypeByte seat type :: body ++ [headerCheck (seatTypeByte seat type :: body)] := if_pos short

theorem wireBytes_long {type : BitVec 6} (long : 0x20 ≤ type.toNat) (seat : Seat) (body : List Byte) :
    wireBytes seat type body =
      0xD5 :: seatTypeByte seat type :: natField 2 body.length ++
        [headerCheck (seatTypeByte seat type :: natField 2 body.length)] ++ body ++ natField 2 (payloadCheck body).toNat :=
  if_neg (Nat.not_lt.mpr long)

theorem bodyFits_short_iff {type : BitVec 6} (short : type.toNat < 0x20) (body : List Byte) :
    bodyFits type body = true ↔ body.length = 2 := by
  rw [bodyFits, if_pos ((isShortType_iff _).mpr short), decide_eq_true_iff]

theorem bodyFits_long_iff {type : BitVec 6} (long : 0x20 ≤ type.toNat) (body : List Byte) :
    bodyFits type body = true ↔ body.length ≤ 512 := by
  rw [bodyFits, if_neg fun short => Nat.not_le.mpr ((isShortType_iff _).mp short) long, decide_eq_true_iff]
  rfl

/-- A record's wire form, taken from HUNTING, completes the record (R198 to R200). -/
theorem takeBytes_wireBytes {l : Link} {type : BitVec 6} {body : List Byte} (fits : bodyFits type body = true)
    (hunting : l.assembler = .hunting) (seat : Seat) :
    l.takeBytes (wireBytes seat type body) = l.complete ⟨seat, type, body⟩ := by
  have seated := seatOfByte_seatTypeByte seat type
  have typed := typeOfByte_seatTypeByte seat type
  rcases Nat.lt_or_ge type.toNat 0x20 with short | long
  · obtain ⟨d0, d1, rfl⟩ := List.length_eq_two.mp ((bodyFits_short_iff short body).mp fits)
    rw [wireBytes_short short]
    refine (takeBytes_header hunting d0 d1 _).trans ((checkHeader_short rfl (by rwa [typed])).trans ?_)
    rw [seated, typed]
    rfl
  · have small : body.length ≤ 512 := (bodyFits_long_iff long body).mp fits
    have length : natOf (natField 2 body.length) = body.length := by
      rw [natOf_natField]
      exact Nat.mod_eq_of_lt (by omega)
    have header := (takeBytes_header hunting (BitVec.ofNat 8 body.length) (BitVec.ofNat 8 (body.length / 256)) _).trans
      (checkHeader_long (b1 := seatTypeByte seat type) rfl (by rwa [typed]) (length.trans_le small))
    rw [show natOf [_, _] = body.length from length] at header
    rw [wireBytes_long long, List.append_assoc, Link.takeBytes_append]
    refine (congrArg (Link.takeBytes _) header).trans ((takeBytes_payload body).trans ?_)
    rw [seated, typed]
    rfl

theorem complete_of_room {l : Link} (room : l.decodeQueue.length < 8) (r : Record) :
    l.complete r = { l.hunt with decodeQueue := l.decodeQueue ++ [r] } := if_pos room

/-- Settles O12: the wire form spelled out, and its bytes taken one after another. -/
theorem wireRecordIsReceived : Obligations.WireRecordIsReceived := by
  refine ⟨fun seat type body => ⟨fun short => ⟨wireBytes_short short seat body, bodyFits_short_iff short body⟩,
    fun long => ⟨wireBytes_long long seat body, bodyFits_long_iff long body⟩⟩, ?_⟩
  intro seat type body s fits running told hunting room
  rw [feed_eq _ running told, takeBytes_wireBytes fits hunting seat, complete_of_room room]
  rfl

/-! ## What waits and what leaves -/

section
variable {r : Record} {s : State}

/-- Once a RESET_PART is taken nothing is decoded (R213). -/
theorem decodeRecord_stopped (stopped : s.link.resetPhase ≠ .running) (act : State → State) : decodeRecord r act s = s :=
  if_pos stopped

/-- A record waits while the transmit queue is full or an older record waits (R201; log 1). -/
theorem decodeRecord_waits (running : s.link.resetPhase = .running)
    (waits : 64 ≤ s.link.tx.length ∨ ∃ head rest, s.link.decodeQueue = head :: rest ∧ head ≠ r) (act : State → State) :
    decodeRecord r act s = awaitDecode r s := by
  rw [decodeRecord, if_neg (not_not.mpr running)]
  split
  · rfl
  next room =>
    obtain full | ⟨head, rest, queue, older⟩ := waits
    · exact absurd full room
    · rw [queue]
      exact if_neg older

/-- A record that waits joins the decode queue, unless it stands there or finds 8 (R201; log 1). -/
theorem awaitDecode_eq (r : Record) (s : State) :
    awaitDecode r s =
      if r ∈ s.link.decodeQueue then s
      else if s.link.decodeQueue.length < 8 then
        { s with link := { s.link with decodeQueue := s.link.decodeQueue ++ [r] } }
      else
        { s with
          link := { s.link with counters := { s.link.counters with overrun := satSucc cap16 s.link.counters.overrun } } } := by
  rw [awaitDecode]
  refine if_congr Iff.rfl rfl ?_
  by_cases room : s.link.decodeQueue.length < 8
  · exact (congrArg (fun link => { s with link := link }) (if_pos room)).trans (if_pos room).symm
  · exact (congrArg (fun link => { s with link := link }) (if_neg room)).trans (if_neg room).symm

theorem awaitDecode_handed (r : Record) (s : State) : (awaitDecode r s).link.handed = s.link.handed := by
  rw [awaitDecode_eq]
  split
  · rfl
  · split <;> rfl

theorem exec_transmitComplete_sent {x : TxRecord} {rest : List TxRecord} (queue : s.link.tx = x :: rest)
    (due : s.link.resetPhase ≠ .due) (told : s.link.handed = []) :
    exec .transmitComplete s =
      .next { s with link := { s.link with tx := rest, resetPhase := s.link.resetPhase.advance } } := by
  have sends : ¬ (s.link.resetPhase = .due ∨ s.link.tx = []) := by
    rw [queue, not_or]
    exact ⟨due, List.cons_ne_nil x rest⟩
  have tail : s.link.tx.tail = rest := by rw [queue, List.tail_cons]
  rw [← tail]
  exact (congrArg done (if_neg sends)).trans (done_of_none told)

end

theorem ResetPhase.advance_last {left : Nat} (h : left ≤ 1) : (ResetPhase.ackQueued left).advance = .due := if_pos h

theorem ResetPhase.advance_more {left : Nat} (h : 1 < left) :
    (ResetPhase.ackQueued left).advance = .ackQueued (left - 1) := if_neg (Nat.not_le.mpr h)

/-- Settles O10: a record that cannot be decoded, a byte or a gap that abandons one, and a record that leaves. -/
theorem recordsWaitAndLeave : Obligations.RecordsWaitAndLeave := by
  refine ⟨?waits, ?abandons, ?leaves⟩
  case waits =>
    intro c r s formed hr told
    obtain ⟨act, decodes⟩ := exec_of_record hr formed
    refine ⟨fun stopped => ?_, fun running waits => ?_⟩
    · rw [decodes, decodeRecord_stopped stopped, done_of_none told]
    · rw [decodes, decodeRecord_waits running waits, done_of_none ((awaitDecode_handed r s).trans told), awaitDecode_eq]
      rfl
  case abandons =>
    intro s told
    refine ⟨fun b running => ?fault, fun b stopBit stopped => ?stopped, fun left timer due => ?gap, fun early => ?early⟩
    case fault => exact (congrArg done (if_neg (not_not.mpr running))).trans (done_of_none told)
    case stopped => exact (congrArg done (if_pos stopped)).trans (done_of_none told)
    case gap =>
      have lost : atExpiry s.link.gapTimer (fun s => s.onLink Link.gapFault) s =
          (advanceTo (s.fru.now + left) s).onLink Link.gapFault := by
        rw [timer, atExpiry_running, atInstant_due due]
      exact (congrArg done lost).trans (done_of_none told)
    case early =>
      have stands : atExpiry s.link.gapTimer (fun s => s.onLink Link.gapFault) s = s := by
        cases timer : s.link.gapTimer with
        | none => rfl
        | some left => rw [atExpiry_running, atInstant_beyond (early left timer)]
      exact (congrArg done stands).trans (done_of_none told)
  case leaves =>
    intro s told
    refine ⟨fun x rest queue => ⟨fun running => ?_, fun left phase last => ?_, fun left phase more => ?_⟩, fun idle => ?_⟩
    · have stays : s.link.resetPhase.advance = s.link.resetPhase := by rw [running]; rfl
      rw [exec_transmitComplete_sent queue (by rw [running]; exact fun h => nomatch h) told, stays]
    · rw [exec_transmitComplete_sent queue (by rw [phase]; exact fun h => nomatch h) told, phase,
        ResetPhase.advance_last last]
    · rw [exec_transmitComplete_sent queue (by rw [phase]; exact fun h => nomatch h) told, phase,
        ResetPhase.advance_more more]
    · exact (congrArg done (if_pos idle.symm)).trans (done_of_none told)

end Sys2Proof.Machine
end

section
/-! The copies of notices (11 R206, R207, R219; 04 R88). -/

namespace Sys2Proof.Machine

open Sys2Proof

/-- The category a code's upper four bits give (R219). -/
theorem category_eq (code : NoticeCode) :
    code.category =
      if code.code.toNat < 0x10 then .cue else if code.code.toNat < 0x20 then .envelope
      else if code.code.toNat < 0x30 then .timing else .channel := by
  cases code <;> rfl

theorem copyTo_room {l : Link} (room : l.tx.length < 48) (msg : Message) (seat : Seat) :
    copyTo msg l seat = { l with tx := l.tx ++ [⟨seat, msg⟩] } := if_pos room

theorem copyTo_full {l : Link} (full : 48 ≤ l.tx.length) (msg : Message) (seat : Seat) :
    copyTo msg l seat = { l with counters := { l.counters with dropped := satSucc cap16 l.counters.dropped } } :=
  if_neg (Nat.not_lt.mpr full)

theorem satSucc_cap16 {n : Nat} (h : n ≤ 65535) : satSucc cap16 n = min 65535 (n + 1) := by
  unfold satSucc cap16
  split <;> omega

/-- The copies of one notice to a list of seats: as many as find fewer than 48 records enter, the others are counted (R206). -/
theorem copies_eq (msg : Message) (seats : List Seat) {l : Link} (small : l.counters.dropped ≤ 65535) :
    seats.foldl (copyTo msg) l =
      { l with
        tx := l.tx ++ (seats.take (48 - l.tx.length)).map (fun seat => ⟨seat, msg⟩)
        counters :=
          { l.counters with dropped := min 65535 (l.counters.dropped + (seats.length - (48 - l.tx.length))) } } := by
  induction seats generalizing l with
  | nil =>
    have none : min 65535 (l.counters.dropped + (([] : List Seat).length - (48 - l.tx.length))) = l.counters.dropped := by
      rw [List.length_nil, Nat.zero_sub, Nat.add_zero]
      exact Nat.min_eq_right small
    rw [none, List.take_nil, List.map_nil, List.append_nil]
    rfl
  | cons seat rest ih =>
    rw [List.foldl_cons, List.length_cons]
    rcases Nat.lt_or_ge l.tx.length 48 with room | full
    · have left : 48 - l.tx.length = 48 - (l.tx.length + 1) + 1 := by omega
      rw [copyTo_room room, left]
      refine (ih (l := { l with tx := l.tx ++ [⟨seat, msg⟩] }) small).trans ?_
      simp only [List.length_append, List.length_singleton, List.take_succ_cons, List.map_cons, List.append_assoc,
        List.singleton_append, Nat.add_sub_add_right]
    · have none : 48 - l.tx.length = 0 := by omega
      have bounded : satSucc cap16 l.counters.dropped ≤ 65535 := by
        rw [satSucc_cap16 small]
        exact Nat.min_le_left _ _
      have count : min 65535 (satSucc cap16 l.counters.dropped + rest.length) =
          min 65535 (l.counters.dropped + (rest.length + 1)) := by
        rw [satSucc_cap16 small]
        omega
      rw [copyTo_full full]
      refine (ih bounded).trans ?_
      simp only [none, List.take_zero, Nat.sub_zero, count]

/-- Settles O14: the category by the code, and the copies one seat after another. -/
theorem noticeCopiesRule : Obligations.NoticeCopiesRule := by
  refine ⟨?handed, fun s => rfl, ?copied, fun masks seat => ⟨rfl, rfl, rfl, rfl, rfl, rfl⟩⟩
  case handed =>
    intro code s category hands
    have known : code.category = category := category_eq code
    have hand : ∀ msg, handOver (.subscribers code.category) msg s = hands msg := by
      intro msg
      rw [known]
      rfl
    exact ⟨fun detail => hand _, fun m => hand _⟩
  case copied =>
    intro l h small
    exact copies_eq h.msg _ small

end Sys2Proof.Machine
end

section
/-! The operands of the long records and their ranges (11 R215; 01 R1, R4; 02 R12, R20, R25; 04 R65; 07 R127; 09 R169). -/

namespace Sys2Proof.Machine

open Sys2Proof

/-! ## Fields -/

theorem signedAt_eq {p : List Byte} {offset len : Nat} (inside : offset + len ≤ p.length) :
    signedAt p offset len =
      if 2 * unsignedAt p offset len < 256 ^ len then (unsignedAt p offset len : Int)
      else (unsignedAt p offset len : Int) - (256 ^ len : Nat) := by
  have length : ((p.drop offset).take len).length = len := by
    rw [List.length_take, List.length_drop]
    omega
  unfold signedAt intOf
  rw [length]
  rfl

theorem samplesOf_getElem? (p : List Byte) (k i : Nat) :
    (samplesOf p k)[i]? = if i < k then some (vecAt p (2 + 12 * i) 4) else none := by
  rw [samplesOf, List.getElem?_map]
  split
  next inside => rw [List.getElem?_range inside, Option.map_some]
  next beyond => rw [List.getElem?_eq_none (by rw [List.length_range]; exact Nat.not_lt.mp beyond), Option.map_none]

theorem flagBit_eq_testBit (flags k : Nat) : flagBit flags k = flags.testBit k :=
  Nat.testBit_eq_decide_div_mod_eq.symm

theorem flagByte_eq_some_iff (n : Nat) (b : Bool) : flagByte n = some b ↔ n ≤ 1 ∧ b = decide (n = 1) := by
  rcases Nat.lt_or_ge 1 n with large | small
  · simp [flagByte_of_gt large, Nat.not_le.mpr large]
  · simp [flagByte_of_le small, small, eq_comm]

/-! ## Ranges -/

theorem within_iff (lo hi n : Nat) : within lo hi n = true ↔ lo ≤ n ∧ n ≤ hi := by
  rw [within, Bool.and_eq_true, decide_eq_true_iff, decide_eq_true_iff]

theorem legalPositionMm_iff (v : Vec3) :
    legalPositionMm v = true ↔
      (-300000 ≤ v.x ∧ v.x ≤ 300000) ∧ (-300000 ≤ v.y ∧ v.y ≤ 300000) ∧ (-10000 ≤ v.z ∧ v.z ≤ 150000) := by
  simp only [legalPositionMm, Bool.and_eq_true, decide_eq_true_eq]
  omega

theorem legalPosition_iff (v : Vec3) :
    legalPosition v = true ↔
      (-300000000 ≤ v.x ∧ v.x ≤ 300000000) ∧ (-300000000 ≤ v.y ∧ v.y ≤ 300000000) ∧
        (-10000000 ≤ v.z ∧ v.z ≤ 150000000) := by
  simp only [legalPosition, Bool.and_eq_true, decide_eq_true_eq]
  omega

/-! ## Zones, markers and moves -/

/-- The kind of a ZONE_PUT payload's zone, or none for a kind or a cap out of its range (R25). -/
def zoneKindOf (p : List Byte) (vmax : Nat) : Option ZoneKind :=
  if unsignedAt p 3 1 = 0 then some .keepOut
  else if unsignedAt p 3 1 = 1 then
    (if within 100 vmax (unsignedAt p 29 2) then some (.slow (unsignedAt p 29 2)) else none)
  else none

theorem zoneKindOf_eq_some_iff (p : List Byte) (vmax : Nat) (k : ZoneKind) :
    zoneKindOf p vmax = some k ↔
      (unsignedAt p 3 1 = 0 ∧ k = .keepOut) ∨
        (unsignedAt p 3 1 = 1 ∧ (100 ≤ unsignedAt p 29 2 ∧ unsignedAt p 29 2 ≤ vmax) ∧ k = .slow (unsignedAt p 29 2)) := by
  rw [zoneKindOf, ← within_iff]
  split
  next keepOut =>
    refine ⟨fun h => Or.inl ⟨keepOut, (Option.some.inj h).symm⟩, fun h => ?_⟩
    rcases h with ⟨-, rfl⟩ | ⟨slow, -⟩
    · rfl
    · exact absurd (keepOut.symm.trans slow) Nat.zero_ne_one
  next other =>
    split
    next slow =>
      split
      next ranged =>
        refine ⟨fun h => Or.inr ⟨slow, ranged, (Option.some.inj h).symm⟩, fun h => ?_⟩
        rcases h with ⟨keepOut, -⟩ | ⟨-, -, rfl⟩
        · exact absurd keepOut other
        · rfl
      next out => exact ⟨fun h => (nomatch h), fun h => h.elim (fun k => absurd k.1 other) fun k => absurd k.2.1 out⟩
    next unknown => exact ⟨fun h => (nomatch h), fun h => h.elim (fun k => absurd k.1 other) fun k => absurd k.1 unknown⟩

/-- A zone is read from its kind, its active byte and a legal box (R25). -/
theorem zoneOf_eq_some_iff (p : List Byte) (vmax : Nat) (owner : Seat) (z : Zone) :
    zoneOf p vmax owner = some z ↔
      zoneKindOf p vmax = some z.kind ∧ flagByte (unsignedAt p 4 1) = some z.active ∧ z.box = boxAt p 5 ∧
        legalBox z.box = true ∧ z.lock = unsignedAt p 31 2 ∧ z.owner = owner := by
  refine ⟨fun h => ?_, fun ⟨kind, active, box, legal, lock, own⟩ => ?_⟩
  · unfold zoneOf at h
    dsimp only at h
    split at h
    next kind active known flagged =>
      split at h
      next legal =>
        obtain rfl := Option.some.inj h
        exact ⟨known, flagged, rfl, legal, rfl, rfl⟩
      next illegal => cases h
    next => cases h
  · obtain ⟨k, act, b, code, seat⟩ := z
    subst box lock own
    unfold zoneKindOf at kind
    unfold zoneOf
    dsimp only
    rw [kind, active]
    exact if_pos legal

/-- A marker is read from a legal point, a radius in range and its two flag bytes (R127). -/
theorem markerOf_eq_some_iff (p : List Byte) (m : MarkerSpec) :
    markerOf p = some m ↔
      m.point = vecAt p 1 4 ∧ legalPositionMm m.point = true ∧ m.radius = unsignedAt p 13 2 ∧
        within 100 20000 m.radius = true ∧ flagByte (unsignedAt p 15 1) = some m.holdAtEnd ∧
        flagByte (unsignedAt p 16 1) = some m.armed := by
  refine ⟨fun h => ?_, fun ⟨point, legal, radius, ranged, action, armed⟩ => ?_⟩
  · unfold markerOf at h
    dsimp only at h
    split at h
    next action armed known flagged =>
      split at h
      next ok =>
        obtain ⟨legal, ranged⟩ := Bool.and_eq_true_iff.mp ok
        obtain rfl := Option.some.inj h
        exact ⟨rfl, legal, rfl, ranged, known, flagged⟩
      next => cases h
    next => cases h
  · obtain ⟨at', reach, hold, arm⟩ := m
    subst point radius
    unfold markerOf
    dsimp only
    rw [action, armed]
    exact if_pos (Bool.and_eq_true_iff.mpr ⟨legal, ranged⟩)

theorem legalMove_iff (p : List Byte) (m : Move) :
    legalMove p m = true ↔
      legalPositionMm m.target = true ∧ 1 ≤ m.cruise ∧ unsignedAt p 16 1 < 32 ∧ (∀ a, m.accel = some a → 100 ≤ a) ∧
        ∀ d, m.dwell = some d → d ≤ 60000 := by
  rw [legalMove, moveFlags]
  cases m.accel <;> cases m.dwell <;> simp [and_assoc]

/-- Settles O35: the ranges test by test, and the fields of each payload. -/
theorem operandRanges : Obligations.OperandRanges := by
  refine ⟨fun p at' len inside => signedAt_eq inside, fun p at' len => ⟨rfl, rfl⟩,
    fun v => ⟨legalPositionMm_iff v, legalPosition_iff v⟩, samplesOf_getElem?, fun a => ?anchor, fun l => ?limits,
    fun l => ?channel, fun b => ?box, fun p => ⟨rfl, rfl, rfl⟩, fun p vmax seat z => ?zone, fun p m => ?marker, ?move⟩
  case anchor =>
    simp only [legalAnchor, Bool.and_eq_true, decide_eq_true_eq, forall_axis, Vec3.get]
    omega
  case limits =>
    simp only [legalLimits, within_iff, Bool.and_eq_true, decide_eq_true_eq]
    tauto
  case channel =>
    simp only [legalChannelLimits, within_iff, Bool.and_eq_true, decide_eq_true_eq, and_assoc]
  case box =>
    rw [legalBox, Bool.and_eq_true, Bool.and_eq_true, boxOrdered_iff, and_assoc]
  case zone =>
    simp only [zoneOf_eq_some_iff, zoneKindOf_eq_some_iff, flagByte_eq_some_iff, and_assoc]
  case marker =>
    simp only [markerOf_eq_some_iff, within_iff, flagByte_eq_some_iff, and_assoc]
  case move =>
    intro p seat flags m
    simp only [m, flags, moveOf, moveLength, moveFlags, flagBit_eq_testBit, true_and]
    exact legalMove_iff p _

end Sys2Proof.Machine
end

section
/-! Fields at their places in a payload (11 R198). -/

namespace Sys2Proof.Machine

open Sys2Proof

/-- A run of bytes stands at an offset of a payload. -/
def At (p : List Byte) (offset : Nat) (bytes : List Byte) : Prop := ∃ rest, p.drop offset = bytes ++ rest

/-- Runs of bytes stand one after another from an offset on. -/
def Places (p : List Byte) : Nat → List (List Byte) → Prop
  | _, [] => True
  | offset, field :: rest => At p offset field ∧ Places p (offset + field.length) rest

/-- Fields one after another, joined as the model joins them. -/
def joined : List (List Byte) → List Byte
  | [] => []
  | field :: rest => rest.foldl (· ++ ·) field

theorem joined_eq_flatten (fields : List (List Byte)) : joined fields = fields.flatten := by
  have folded : ∀ (rest : List (List Byte)) (field : List Byte), rest.foldl (· ++ ·) field = field ++ rest.flatten := by
    intro rest
    induction rest with
    | nil => exact fun field => (List.append_nil field).symm
    | cons next rest ih => exact fun field => by rw [List.foldl_cons, ih, List.flatten_cons, List.append_assoc]
  cases fields with
  | nil => rfl
  | cons field rest => rw [List.flatten_cons, ← folded rest field]; rfl

theorem at_whole (p : List Byte) : At p 0 p := ⟨[], by rw [List.drop_zero, List.append_nil]⟩

namespace At

variable {p a b bytes : List Byte} {offset : Nat}

theorem left (h : At p offset (a ++ b)) : At p offset a := by
  obtain ⟨rest, h⟩ := h
  exact ⟨b ++ rest, by rw [h, List.append_assoc]⟩

theorem right (h : At p offset (a ++ b)) : At p (offset + a.length) b := by
  obtain ⟨rest, h⟩ := h
  refine ⟨rest, ?_⟩
  rw [← List.drop_drop, h, List.append_assoc, List.drop_left]

/-- The fields of a joined run stand one after another. -/
theorem places {fields : List (List Byte)} (h : At p offset (joined fields)) : Places p offset fields := by
  rw [joined_eq_flatten] at h
  induction fields generalizing offset with
  | nil => trivial
  | cons field rest ih =>
    rw [List.flatten_cons] at h
    exact ⟨h.left, ih h.right⟩

/-- The i-th of equally long runs stands i lengths further on. -/
theorem nth {α : Type} {xs : List α} {f : α → List Byte} {len : Nat} (h : At p offset (xs.flatMap f))
    (even : ∀ x, (f x).length = len) {i : Nat} {x : α} (hx : xs[i]? = some x) : At p (offset + i * len) (f x) := by
  induction xs generalizing i offset with
  | nil => cases hx
  | cons y rest ih =>
    rw [List.flatMap_cons] at h
    cases i with
    | zero =>
      obtain rfl : y = x := Option.some.inj hx
      rw [Nat.zero_mul, Nat.add_zero]
      exact h.left
    | succ i =>
      have next := ih h.right hx
      rwa [even y, Nat.add_assoc, Nat.add_comm len, ← Nat.succ_mul] at next

theorem nth_code {α : Type} {xs : List α} {f : α → Byte} (h : At p offset (xs.map f)) {i : Nat} {x : α}
    (hx : xs[i]? = some x) : At p (offset + i * 1) [f x] := by
  rw [List.map_eq_flatMap] at h
  exact h.nth (fun _ => rfl) hx

theorem natOf (h : At p offset bytes) : unsignedAt p offset bytes.length = natOf bytes := by
  obtain ⟨rest, h⟩ := h
  rw [unsignedAt, h, List.take_left]

theorem num {len v : Nat} (h : At p offset (natField len v)) : unsignedAt p offset len = v % 256 ^ len := by
  have read := h.natOf
  rwa [natField_length, natOf_natField] at read

theorem byte {b : Byte} (h : At p offset [b]) : unsignedAt p offset 1 = b.toNat := h.natOf

theorem flag {b : Bool} (h : At p offset (boolField b)) : unsignedAt p offset 1 = if b then 1 else 0 := by
  cases b <;> exact h.natOf

/-- Two's complement: the field reads as the number modulo 2^32. -/
theorem int4 {v : Int} (h : At p offset (intField 4 v)) : (unsignedAt p offset 4 : Int) = v % 4294967296 := by
  have read : unsignedAt p offset 4 = (v % 4294967296).toNat % 4294967296 := h.num
  have low : 0 ≤ v % 4294967296 := Int.emod_nonneg _ (by decide)
  have high : v % 4294967296 < 4294967296 := Int.emod_lt_of_pos _ (by decide)
  omega

theorem vec {v : Vec3} (h : At p offset (vecField v)) :
    (unsignedAt p offset 4 : Int) = v.x % 4294967296 ∧ (unsignedAt p (offset + 4) 4 : Int) = v.y % 4294967296 ∧
      (unsignedAt p (offset + 8) 4 : Int) = v.z % 4294967296 := by
  obtain ⟨x, y, z, -⟩ : Places p offset [intField 4 v.x, intField 4 v.y, intField 4 v.z] := At.places h
  exact ⟨x.int4, y.int4, z.int4⟩

theorem box {b : Box} (h : At p offset (boxField b)) :
    ((unsignedAt p offset 4 : Int) = b.lo.x % 4294967296 ∧ (unsignedAt p (offset + 4) 4 : Int) = b.lo.y % 4294967296 ∧
        (unsignedAt p (offset + 8) 4 : Int) = b.lo.z % 4294967296) ∧
      (unsignedAt p (offset + 12) 4 : Int) = b.hi.x % 4294967296 ∧
        (unsignedAt p (offset + 12 + 4) 4 : Int) = b.hi.y % 4294967296 ∧
        (unsignedAt p (offset + 12 + 8) 4 : Int) = b.hi.z % 4294967296 := ⟨h.left.vec, h.right.vec⟩

end At

/-- The fields that make up a payload stand one after another from its start on. -/
theorem places_of_joined {p : List Byte} {fields : List (List Byte)} (h : p = joined fields) : Places p 0 fields :=
  At.places (by rw [← h]; exact at_whole p)

theorem intField_length (len : Nat) (v : Int) : (intField len v).length = len := natField_length _ _

theorem vecField_length (v : Vec3) : (vecField v).length = 12 := rfl

theorem boxField_length (b : Box) : (boxField b).length = 24 := rfl

theorem boolField_length (b : Bool) : (boolField b).length = 1 := rfl

theorem limitsField_length (l : Limits) : (limitsField l).length = 27 := rfl

theorem anchorField_length (a : Anchor) : (anchorField a).length = 36 := rfl

theorem channelLimitsField_length (l : ChannelLimits) : (channelLimitsField l).length = 10 := rfl

theorem flatMap_length {α : Type} {f : α → List Byte} {len : Nat} (even : ∀ x, (f x).length = len) (xs : List α) :
    (xs.flatMap f).length = xs.length * len := by
  rw [List.length_flatMap, List.map_congr_left fun x _ => even x, List.map_const', List.sum_replicate, smul_eq_mul]

theorem quad_flatMap_length {α : Type} {f : α → List Byte} {len : Nat} (even : ∀ x, (f x).length = len) (q : Quad α) :
    (q.toList.flatMap f).length = 4 * len := flatMap_length even q.toList

end Sys2Proof.Machine
end

section
/-! The records the part sends, field by field (11 R198, R214, R216, R217). -/

namespace Sys2Proof.Machine

open Sys2Proof

/-! ## Bits and codes -/

theorem flagBits_lt (flags : List FlagEntry) : flagBits flags < 2 ^ flags.length := by
  induction flags with
  | nil => exact Nat.one_pos
  | cons e rest ih =>
    have step : flagBits (e :: rest) = (if e.set then 1 else 0) + 2 * flagBits rest := rfl
    rw [step, List.length_cons, pow_succ]
    split <;> omega

/-- Bit i of the flag word is the i-th flag (R217). -/
theorem flagBits_testBit (flags : List FlagEntry) (i : Nat) :
    (flagBits flags).testBit i = (flags[i]?.map FlagEntry.set).getD false := by
  induction flags generalizing i with
  | nil => exact Nat.zero_testBit i
  | cons e rest ih =>
    have step : flagBits (e :: rest) = (if e.set then 1 else 0) + 2 * flagBits rest := rfl
    rw [step]
    cases i with
    | zero =>
      rw [Nat.testBit_zero]
      cases hs : e.set <;> simp [hs]
    | succ i =>
      have half : ((if e.set then 1 else 0) + 2 * flagBits rest) / 2 = flagBits rest := by split <;> omega
      rw [Nat.testBit_succ, half, ih, List.getElem?_cons_succ]

theorem flagWord_testBit (flags : Vector FlagEntry 19) (i : Nat) :
    (flagBits flags.toList % 256 ^ 4).testBit i = true ↔ ∃ h : i < 19, (flags[i]).set = true := by
  have small : flagBits flags.toList < 256 ^ 4 := (flagBits_lt _).trans_le (by rw [Vector.length_toList]; decide)
  rw [Nat.mod_eq_of_lt small, flagBits_testBit]
  rcases Nat.lt_or_ge i 19 with inside | beyond
  · have entry : flags.toList[i]? = some flags[i] := by
      rw [List.getElem?_eq_getElem (by rw [Vector.length_toList]; exact inside), Vector.getElem_toList]
    rw [entry]
    exact ⟨fun set => ⟨inside, set⟩, fun ⟨_, set⟩ => set⟩
  · have entry : flags.toList[i]? = none := List.getElem?_eq_none (by rw [Vector.length_toList]; exact beyond)
    rw [entry]
    exact ⟨fun set => (nomatch set), fun ⟨inside, _⟩ => absurd inside (Nat.not_lt.mpr beyond)⟩

theorem staleBits_testBit (q : Quad Bool) (i : Nat) :
    (winchBits q % 256 ^ 1).testBit i = true ↔ q.toList[i]? = some true := by
  have small : winchBits q < 16 := winchBits_lt q
  rw [Nat.mod_eq_of_lt (by omega)]
  rcases Nat.lt_or_ge i 4 with inside | beyond
  · have bit : (winchBits q).testBit i = q.get ⟨i, inside⟩ := winchBits_testBit q ⟨i, inside⟩
    have entry : q.toList[i]? = some (q.get ⟨i, inside⟩) := by
      match i, inside with
      | 0, _ | 1, _ | 2, _ | 3, _ => rfl
    rw [bit, entry, Option.some.injEq]
  · have clear : (winchBits q).testBit i = false :=
      Nat.testBit_lt_two_pow (small.trans_le (Nat.pow_le_pow_right (n := 2) (by decide) beyond))
    have entry : q.toList[i]? = none := List.getElem?_eq_none beyond
    rw [clear, entry]
    exact ⟨fun h => (nomatch h), fun h => (nomatch h)⟩

theorem seatCode_toNat (seat : Seat) : (seatCode seat).toNat = (seatIndex seat).val := by cases seat <;> rfl

theorem optSeatCode_toNat (seat : Option Seat) :
    (optSeatCode seat).toNat = (match seat with | some x => (seatIndex x).val | none => 255) := by
  cases seat with
  | none => rfl
  | some x => exact seatCode_toNat x

theorem flagNumber_toNat (f : Flag) : (BitVec.ofNat 8 f.number.val).toNat = f.number.val := by
  rw [BitVec.toNat_ofNat]
  exact Nat.mod_eq_of_lt (f.number.isLt.trans (by decide))

/-- The cause a trip record carries: its flag's number, 0xFF when there is none (R217). -/
def causeCode : Option Flag → Byte
  | some f => BitVec.ofNat 8 f.number.val
  | none => 0xFF

theorem causeCode_toNat (cause : Option Flag) :
    (causeCode cause).toNat = (match cause with | some f => f.number.val | none => 255) := by
  cases cause with
  | none => rfl
  | some f => exact flagNumber_toNat f

/-! ## STATE -/

/-- The counters STATE ends with, in order (R217). -/
def stateCounters (r : StateReport) : List Nat :=
  [r.counters.dropped, r.counters.headerCheck, r.counters.length, r.counters.payloadCheck, r.counters.gap,
    r.counters.byteError, r.counters.ignored, r.counters.overrun, r.stickDiscards, r.streamDiscards, r.streamGaps]

/-- STATE's fields in order (R217). -/
def stateFields (r : StateReport) : List (List Byte) :=
  [[r.flight.code, r.cause.code], natField 1 r.queueCount, natField 2 r.moveId, [phaseCode r.phase], [r.streamState.code],
    natField 1 r.occupancy, natField 2 r.expected.toNat, [r.ref.code], natField 4 r.frames,
    r.chanStates.toList.map ChanState.code, r.badFrames.toList.flatMap (natField 2), natField 4 (flagBits r.flags.toList),
    r.flags.toList.flatMap fun e => natField 1 e.count, r.flags.toList.flatMap fun e => natField 1 e.channel,
    [causeCode r.trip.cause], natField 1 r.trip.channel, [optSeatCode r.trip.seat], [r.trip.left.code],
    vecField r.trip.pos, natField 4 r.trip.frames, boolField r.line, boolField r.consent, boolField r.permit,
    boolField r.defaulted, boolField r.boxValid, boolField r.poseValid, [r.poseOrigin.code],
    (stateCounters r).flatMap (natField 2)]

theorem state_payload (r : StateReport) : r.payload = joined (stateFields r) := rfl

theorem flags_length (g : FlagEntry → Nat) (flags : Vector FlagEntry 19) :
    (flags.toList.flatMap fun e => natField 1 (g e)).length = 19 := by
  rw [flatMap_length fun e => natField_length 1 (g e), Vector.length_toList]

theorem quadCodes_length {α : Type} (f : α → Byte) (q : Quad α) : (q.toList.map f).length = 4 := rfl

theorem quadFields_length (len : Nat) (q : Quad Nat) : (q.toList.flatMap (natField len)).length = 4 * len :=
  quad_flatMap_length (fun _ => natField_length len _) q

theorem stateCounters_length (r : StateReport) : ((stateCounters r).flatMap (natField 2)).length = 22 :=
  flatMap_length (natField_length 2) _

theorem state_length (r : StateReport) : r.payload.length = 118 := by
  rw [state_payload, joined_eq_flatten]
  simp only [stateFields, stateCounters_length, List.flatten_cons, List.flatten_nil, List.length_append, List.length_cons,
    List.length_nil, natField_length, quadCodes_length, quadFields_length, flags_length, vecField_length, boolField_length,
    Nat.reduceMul, Nat.reduceAdd]

/-! ## POSE and FRAME_POSE -/

/-- POSE's fields in order (R216). -/
def poseFields (r : Snapshot) : List (List Byte) :=
  [natField 4 r.frames, vecField r.pos, r.lengths.toList.flatMap (natField 4), r.tensions.toList.flatMap (natField 2),
    natField 1 (winchBits r.stale), [r.ref.code]]

theorem pose_payload (r : Snapshot) : r.payload = joined (poseFields r) := rfl

theorem pose_length (r : Snapshot) : r.payload.length = 42 := rfl

/-! ## ZONE_INFO -/

/-- The fields of ZONE_INFO for a zone of a kind code and a cap (R216). -/
def zoneFields (slot : Nat) (z : Zone) (kind : Byte) (cap : Nat) : List (List Byte) :=
  [natField 1 slot, [0#8], [kind], boolField z.active, boxField z.box, natField 2 cap, [seatCode z.owner],
    boolField (z.lock ≠ 0)]

theorem zone_payload_keepOut {z : Zone} (h : z.kind = .keepOut) (slot : Nat) :
    zoneInfoPayload slot (some z) = joined (zoneFields slot z 0 0) := by
  simp only [zoneInfoPayload, h]
  rfl

theorem zone_payload_slow {z : Zone} {cap : Nat} (h : z.kind = .slow cap) (slot : Nat) :
    zoneInfoPayload slot (some z) = joined (zoneFields slot z 1 cap) := by
  simp only [zoneInfoPayload, h]
  rfl

/-- ZONE_INFO's fields, with the kind code and the cap its zone gives. -/
theorem zone_payload (slot : Nat) (z : Zone) :
    ∃ kind cap, zoneInfoPayload slot (some z) = joined (zoneFields slot z kind cap) ∧
      (z.kind = .keepOut → kind = 0 ∧ cap = 0) ∧ ∀ c, z.kind = .slow c → kind = 1 ∧ cap = c := by
  cases h : z.kind with
  | keepOut => exact ⟨0, 0, zone_payload_keepOut h slot, fun _ => ⟨rfl, rfl⟩, fun c slow => (nomatch slow)⟩
  | slow cap =>
    refine ⟨1, cap, zone_payload_slow h slot, fun keepOut => (nomatch keepOut), fun c slow => ⟨rfl, ?_⟩⟩
    exact ZoneKind.slow.inj slow

theorem zone_length (slot : Nat) (z : Option Zone) : (zoneInfoPayload slot z).length = 32 := by
  cases z <;> rfl

/-! ## SETTINGS_INFO -/

/-- The limits sent in two bytes each, in order (R215). -/
def wideLimits (l : Limits) : List Nat :=
  [l.margin, l.vmax, l.caution, l.ae, l.amove, l.amoveMax, l.vstick, l.astick, l.stickTimeout, l.astream, l.lagLimit,
    l.joinTol]

/-- SETTINGS_INFO's fields in order (R216). -/
def settingsFields (r : SettingsReport) : List (List Byte) :=
  [r.anchors.toList.flatMap anchorField, vecField r.home, boolField r.homeValid, boxField r.box, boolField r.boxValid,
    limitsField r.limits, natField 2 r.timing.ts, natField 1 r.timing.n, r.chLimits.toList.flatMap channelLimitsField,
    boolField r.defaulted]

theorem settings_payload (r : SettingsReport) : r.payload = joined (settingsFields r) := rfl

theorem anchors_length (q : Quad Anchor) : (q.toList.flatMap anchorField).length = 144 :=
  quad_flatMap_length anchorField_length q

theorem channels_length (q : Quad ChannelLimits) : (q.toList.flatMap channelLimitsField).length = 40 :=
  quad_flatMap_length channelLimitsField_length q

/-- The limits' fields: twelve in two bytes each, the low-water mark in one, the pose tolerance in two (R215). -/
theorem limitsField_eq (l : Limits) :
    limitsField l = joined [(wideLimits l).flatMap (natField 2), natField 1 l.lowWater, natField 2 l.poseTol] := rfl

theorem wideLimits_length (l : Limits) : ((wideLimits l).flatMap (natField 2)).length = 24 :=
  flatMap_length (natField_length 2) _

theorem limits_places {p : List Byte} {offset : Nat} {l : Limits} (h : At p offset (limitsField l)) :
    Places p offset [(wideLimits l).flatMap (natField 2), natField 1 l.lowWater, natField 2 l.poseTol] :=
  At.places (by rwa [← limitsField_eq])

theorem settings_length (r : SettingsReport) : r.payload.length = 253 := by
  rw [settings_payload, joined_eq_flatten]
  simp only [settingsFields, List.flatten_cons, List.flatten_nil, List.length_append, List.length_nil,
    anchors_length, channels_length, limitsField_length, natField_length, vecField_length, boxField_length, boolField_length,
    Nat.reduceAdd]

theorem anchor_places {p : List Byte} {offset : Nat} {a : Anchor} (h : At p offset (anchorField a)) :
    Places p offset [vecField a.a, vecField a.b, intField 4 a.run, intField 4 a.lmin, intField 4 a.lmax] :=
  At.places h

theorem channel_places {p : List Byte} {offset : Nat} {l : ChannelLimits} (h : At p offset (channelLimitsField l)) :
    Places p offset [natField 2 l.tmin, natField 2 l.twarnLo, natField 2 l.twarnHi, natField 2 l.tmax, natField 2 l.following] :=
  At.places h

/-! ## The notices and MARKER_INFO -/

/-- MOVE_NOTICE's fields in order (R216). -/
def moveNoticeFields (code : NoticeCode) (id : Nat) (origin : Seat) (target : Vec3) (count : Nat) : List (List Byte) :=
  [[code.code], natField 2 id, [seatCode origin], vecField target, natField 1 count]

theorem moveNotice_payload (code : NoticeCode) (id : Nat) (origin : Seat) (target : Vec3) (count : Nat) :
    (Message.moveNotice code id origin target count).body = joined (moveNoticeFields code id origin target count) := rfl

/-- TRIP_NOTICE's fields in order (R216). -/
def tripNoticeFields (f : Flag) (first : Bool) (channel : Nat) (seat : Option Seat) (left : FlightState) (pos : Vec3)
    (frames : Nat) : List (List Byte) :=
  [[BitVec.ofNat 8 f.number.val], boolField first, natField 1 channel, [optSeatCode seat], [left.code], vecField pos,
    natField 4 frames]

theorem tripNotice_payload (f : Flag) (first : Bool) (channel : Nat) (seat : Option Seat) (left : FlightState) (pos : Vec3)
    (frames : Nat) :
    (Message.tripNotice f first channel seat left pos frames).body =
      joined (tripNoticeFields f first channel seat left pos frames) := rfl

/-- MARKER_INFO's fields in order, for a slot that holds a marker (R216). -/
def markerFields (number : Nat) (m : Marker) (holdPending : Bool) : List (List Byte) :=
  [natField 1 number, [0#8], boolField holdPending, vecField m.spec.point, natField 2 m.spec.radius,
    boolField m.spec.holdAtEnd, boolField m.spec.armed, boolField m.inside]

theorem marker_payload (number : Nat) (m : Marker) (holdPending : Bool) :
    markerInfoPayload number (some m) holdPending = joined (markerFields number m holdPending) := rfl

theorem marker_length (number : Nat) (m : Option Marker) (holdPending : Bool) :
    (markerInfoPayload number m holdPending).length = 20 := by
  cases m <;> rfl

/-! ## Checks, frames and answers -/

theorem headerCheck_concat (bytes : List Byte) (b : Byte) :
    headerCheck (bytes ++ [b]) = Nat.iterate crc8Step 8 (headerCheck bytes ^^^ b) := by
  rw [headerCheck, List.foldl_append]
  rfl

theorem payloadCheck_concat (bytes : List Byte) (b : Byte) :
    payloadCheck (bytes ++ [b]) = Nat.iterate crc16Step 8 (payloadCheck bytes ^^^ (BitVec.ofNat 16 b.toNat <<< 8)) := by
  rw [payloadCheck, List.foldl_append, BitVec.ofNat_toNat]
  rfl

/-- A record of a short type has two data bytes (R214). -/
theorem body_length_of_short (m : Message) (short : m.type.toNat < 0x20) : m.body.length = 2 := by
  cases m with
  | ack | errorReport | notice => rfl
  | state | pose | zoneInfo | settingsInfo | moveNotice | framePose | tripNotice | markerInfo =>
    exact absurd short (Nat.not_lt.mpr (Nat.le_of_ble_eq_true rfl))

theorem natField_four (v : Nat) :
    natField 4 v =
      [BitVec.ofNat 8 v, BitVec.ofNat 8 (v / 256), BitVec.ofNat 8 (v / 65536), BitVec.ofNat 8 (v / 16777216)] := by
  simp only [natField, Nat.div_div_eq_div_mul, Nat.reduceMul]

theorem driveStateOf_eq_some_iff (n : Nat) (d : DriveState) :
    driveStateOf n = some d ↔ n = (match d with | .starting => 0 | .braked => 1 | .released => 2 | .faulted => 3) := by
  match n with
  | 0 | 1 | 2 | 3 => cases d <;> decide
  | n + 4 =>
    have unknown : driveStateOf (n + 4) = none := by simp [driveStateOf]
    rw [unknown]
    cases d <;> exact ⟨fun h => (nomatch h), fun h => (nomatch h)⟩

theorem echo_iff (echo : BitVec 4) (n : Nat) : echo = BitVec.ofNat 4 n ↔ echo.toNat = n % 16 := by
  rw [← BitVec.toNat_inj, BitVec.toNat_ofNat]

/-- An answer is read when its length, its check and its drive state are right (R218). -/
theorem answerOf_eq_some_iff (bytes : List Byte) (a : AnswerFields) :
    answerOf bytes = some a ↔
      (bytes.length = 10 ∧ unsignedAt bytes 8 2 = (payloadCheck (bytes.take 8)).toNat) ∧
        driveStateOf (unsignedAt bytes 0 1 / 16) = some a.drive ∧ a.echo = BitVec.ofNat 4 (unsignedAt bytes 0 1) ∧
        a.lengthValid = decide (unsignedAt bytes 1 1 % 2 = 1) ∧ a.length = unsignedAt bytes 2 4 ∧
        a.tension = unsignedAt bytes 6 2 := by
  rw [answerOf]
  split
  next good =>
    dsimp only
    split
    next d known =>
      rw [known]
      refine ⟨fun h => ?_, fun ⟨_, drive, echo, valid, length, tension⟩ => ?_⟩
      · obtain rfl := Option.some.inj h
        exact ⟨good, rfl, rfl, rfl, rfl, rfl⟩
      · obtain ⟨d', e, v, l, n⟩ := a
        obtain rfl := Option.some.inj drive
        subst echo valid length tension
        rfl
    next unknown =>
      rw [unknown]
      exact ⟨fun h => (nomatch h), fun h => (nomatch h.2.1)⟩
  next bad => exact ⟨fun h => (nomatch h), fun h => absurd h.1 bad⟩

end Sys2Proof.Machine
end

section
/-! The wire forms of all that the part sends (11 R198, R214, R216 to R218). -/

namespace Sys2Proof.Machine

open Sys2Proof

/-- Settles O13: each payload's fields at their places, the checks byte by byte, the codes, and the drive frames. -/
theorem wireForms : Obligations.WireForms := by
  refine ⟨fun _ _ _ => rfl, rfl, fun _ _ => rfl, ⟨rfl, rfl, headerCheck_concat, payloadCheck_concat⟩, ?record,
    fun answered detail => ⟨rfl, by rw [BitVec.ofNat_toNat]; rfl⟩, fun _ _ => ⟨rfl, rfl⟩, fun _ _ => ⟨rfl, rfl⟩, ?state, ?pose,
    ?zone, ?settings, ?move, ?trip, ?marker, ⟨rfl, rfl, rfl, fun q w => winchBits_testBit q _, winchBits_lt⟩,
    ⟨rfl, rfl, rfl, rfl, rfl, rfl, rfl, rfl, rfl, rfl, rfl, rfl, rfl⟩, ?frame, ?answer⟩
  case record =>
    intro r b1 body n check
    exact ⟨fun short => ⟨body_length_of_short r.msg short, wireBytes_short short _ _⟩, fun long => wireBytes_long long _ _⟩
  case state =>
    intro r m p
    have placed := places_of_joined (state_payload r)
    simp only [Places, stateFields, natField_length, quadCodes_length, quadFields_length, flags_length, vecField_length,
      boolField_length, List.length_cons, List.length_nil, Nat.reduceMul, Nat.reduceAdd, and_true] at placed
    obtain ⟨fcu, queueCount, moveId, phase, streamState, occupancy, expected, ref, frames, chanStates, badFrames, flags,
      counts, channels, cause, channel, seat, left, pos, tripFrames, line, consent, permit, defaulted, boxValid, poseValid,
      poseOrigin, counters⟩ := placed
    have counter : ∀ {i v}, (stateCounters r)[i]? = some v → unsignedAt r.payload (96 + i * 2) 2 = v % 256 ^ 2 :=
      fun h => (counters.nth (natField_length 2) h).num
    refine ⟨rfl, state_length r, (At.left (a := [_]) fcu).byte, (At.right (a := [_]) fcu).byte, queueCount.num, moveId.num,
      phase.byte, streamState.byte, occupancy.num, expected.num, ref.byte, frames.num,
      fun i x hx => (chanStates.nth_code hx).byte, fun i x hx => (badFrames.nth (natField_length 2) hx).num,
      fun i => (congrArg (fun word => word.testBit i = true) flags.num).to_iff.trans (flagWord_testBit r.flags i),
      fun i x hx => (counts.nth (fun e => natField_length 1 e.count) hx).num,
      fun i x hx => (channels.nth (fun e => natField_length 1 e.channel) hx).num, cause.byte.trans (causeCode_toNat _),
      channel.num, seat.byte.trans (optSeatCode_toNat _), left.byte, pos.vec, tripFrames.num, line.flag, consent.flag,
      permit.flag, defaulted.flag, boxValid.flag, poseValid.flag, poseOrigin.byte, ?_⟩
    exact ⟨counter (i := 0) rfl, counter (i := 1) rfl, counter (i := 2) rfl, counter (i := 3) rfl, counter (i := 4) rfl,
      counter (i := 5) rfl, counter (i := 6) rfl, counter (i := 7) rfl, counter (i := 8) rfl, counter (i := 9) rfl,
      counter (i := 10) rfl⟩
  case pose =>
    intro r m p
    have placed := places_of_joined (pose_payload r)
    simp only [Places, poseFields, natField_length, quadFields_length, vecField_length, Nat.reduceMul, Nat.reduceAdd,
      and_true] at placed
    obtain ⟨frames, pos, lengths, tensions, stale, ref⟩ := placed
    exact ⟨rfl, rfl, rfl, pose_length r, frames.num, pos.vec, fun i x hx => (lengths.nth (natField_length 4) hx).num,
      fun i x hx => (tensions.nth (natField_length 2) hx).num, 
      fun i => (congrArg (fun bits => bits.testBit i = true) stale.num).to_iff.trans (staleBits_testBit r.stale i), ref.byte⟩
  case zone =>
    intro slot z m p
    refine ⟨rfl, zone_length slot z, ?_, ?_, ?_⟩
    · cases z with
      | none => exact At.num ⟨_, rfl⟩
      | some x => exact At.num ⟨_, rfl⟩
    · rintro rfl
      rfl
    · rintro x rfl
      obtain ⟨kindCode, sent, payload, keepOut, slow⟩ := zone_payload slot x
      have placed := places_of_joined payload
      simp only [Places, zoneFields, natField_length, boxField_length, boolField_length, List.length_cons, List.length_nil,
        Nat.reduceAdd, and_true] at placed
      obtain ⟨number, empty, kind, active, box, cap, owner, lock⟩ := placed
      refine ⟨empty.byte, active.flag, box.box, owner.byte.trans (seatCode_toNat _), lock.flag, fun h => ?_, fun c h => ?_⟩
      · obtain ⟨rfl, rfl⟩ := keepOut h
        exact ⟨kind.byte, cap.num⟩
      · obtain ⟨rfl, rfl⟩ := slow c h
        exact ⟨kind.byte, cap.num⟩
  case settings =>
    intro r m p l
    have placed := places_of_joined (settings_payload r)
    simp only [Places, settingsFields, natField_length, anchors_length, channels_length, limitsField_length, vecField_length,
      boxField_length, boolField_length, Nat.reduceAdd, and_true] at placed
    obtain ⟨anchors, home, homeValid, box, boxValid, limits, ts, n, channels, defaulted⟩ := placed
    have limited := limits_places limits
    simp only [Places, wideLimits_length, natField_length, Nat.reduceAdd, and_true] at limited
    obtain ⟨wide, lowWater, poseTol⟩ := limited
    refine ⟨rfl, settings_length r, fun i a ha => ?_, home.vec, homeValid.flag, box.box, boxValid.flag,
      fun i x hx => (wide.nth (natField_length 2) hx).num, lowWater.num, poseTol.num, ts.num, n.num, fun i c hc => ?_,
      defaulted.flag⟩
    · have fields := anchor_places (anchors.nth anchorField_length ha)
      simp only [Places, vecField_length, intField_length, Nat.add_assoc, Nat.reduceAdd, and_true] at fields
      obtain ⟨a, b, run, lmin, lmax⟩ := fields
      exact ⟨a.vec, b.vec, run.int4, lmin.int4, lmax.int4⟩
    · have fields := channel_places (channels.nth channelLimitsField_length hc)
      simp only [Places, natField_length, Nat.add_assoc, Nat.reduceAdd, and_true] at fields
      obtain ⟨tmin, twarnLo, twarnHi, tmax, following⟩ := fields
      exact ⟨tmin.num, twarnLo.num, twarnHi.num, tmax.num, following.num⟩
  case move =>
    intro code id origin target count m p
    have placed := places_of_joined (moveNotice_payload code id origin target count)
    simp only [Places, moveNoticeFields, natField_length, vecField_length, List.length_cons, List.length_nil, Nat.reduceAdd,
      and_true] at placed
    obtain ⟨kind, number, seat, place, queued⟩ := placed
    exact ⟨rfl, rfl, kind.byte, number.num, seat.byte.trans (seatCode_toNat _), place.vec, queued.num⟩
  case trip =>
    intro f first channel seat left pos frames m p
    have placed := places_of_joined (tripNotice_payload f first channel seat left pos frames)
    simp only [Places, tripNoticeFields, natField_length, vecField_length, boolField_length, List.length_cons, List.length_nil,
      Nat.reduceAdd, and_true] at placed
    obtain ⟨cause, opens, number, sender, state, place, count⟩ := placed
    exact ⟨rfl, rfl, cause.byte.trans (flagNumber_toNat f), opens.flag, number.num, sender.byte.trans (optSeatCode_toNat _),
      state.byte, place.vec, count.num⟩
  case marker =>
    intro number marker holdPending m p
    refine ⟨rfl, marker_length number marker holdPending, ?_, ?_, ?_, ?_⟩
    · cases marker with
      | none => exact At.num ⟨_, rfl⟩
      | some k => exact At.num ⟨_, rfl⟩
    · cases marker with
      | none => exact At.flag ⟨_, rfl⟩
      | some k => exact At.flag ⟨_, rfl⟩
    · rintro rfl
      exact ⟨rfl, rfl⟩
    · rintro k rfl
      have placed := places_of_joined (marker_payload number k holdPending)
      simp only [Places, markerFields, natField_length, vecField_length, boolField_length, List.length_cons, List.length_nil,
        Nat.reduceAdd, and_true] at placed
      obtain ⟨slot, empty, pending, point, radius, action, armed, inside⟩ := placed
      exact ⟨empty.byte, point.vec, radius.num, action.flag, armed.flag, inside.flag⟩
  case frame =>
    intro f sends four
    have length : ∀ l, natField 4 l = four l := natField_four
    obtain ⟨kind, seq⟩ := f
    exact ⟨by rintro rfl; rfl, fun l => by rintro rfl; rw [← length]; rfl, by rintro rfl; rfl, by rintro rfl; rfl,
      fun l => by rintro rfl; rw [← length]; rfl, by rintro rfl; rfl⟩
  case answer =>
    intro bytes a
    have read := answerOf_eq_some_iff bytes a
    rw [driveStateOf_eq_some_iff, echo_iff, and_assoc] at read
    exact read

end Sys2Proof.Machine
end
